-- ==== Sys2Proof/Word.lean ====
section
/-! DEFINITION. The word types of the Wedlan 4C12 model and their plainest arithmetic (00_scope.md, Quantities and units; Time).

Numbers that the manual treats as counts and quantities are `Nat` or `Int`; the types here are the values the manual
treats as bits or that wrap: bytes on a link, 16-bit crew codes and registers, 32-bit times and numbers. -/

namespace Sys2Proof

/-- One byte of a frame, an image or a payload (00, Serial links and byte order). -/
abbrev Byte := BitVec 8

/-- A 16-bit register or code: the LFSR (R89), a crew code (R143), a CRC (R87). -/
abbrev Word16 := BitVec 16

/-- Station time, record numbers and the operations count: 32 bits, wrapping (00, Time; R65; R163). -/
abbrev Word32 := BitVec 32

/-- Milliseconds from `earlier` to `later`, the difference of two station times modulo 2^32 (00, Time). -/
def elapsed (later earlier : Word32) : Nat := (later - earlier).toNat

end Sys2Proof
end

