-- ==== Sys2Proof/Syntax.lean ====
section
/-! DEFINITION. The commands of the Wedlan 4C12: one constructor for each row of spec/opcode_table.json, in the table's
order, with the data the event itself brings. The table gives its rows no operands and no bits; the operands are the
model's (logs 7, 8, 11 and 35 say what each stands for). -/

namespace Sys2Proof

/-- A byte-time on an asynchronous line: a byte whose stop bit is high, or a framing error (R85). -/
inductive LineByte where
  | byte (b : Byte)
  | framingError
  deriving DecidableEq, Repr

/-- A bit of the measurement link, sampled from MFDI on a rising edge of MFCK, with MFSY as it stood on that edge: active marks
a frame start (R1). -/
structure LinkBit where
  start : Bool
  bit : Bool
  deriving DecidableEq, Repr

/-- How a read of the setting memory ended: the 0x5C did not come within 20 ms, or the bytes came (R175). -/
inductive MemRead where
  | incomplete
  | complete (bytes : List Byte)
  deriving DecidableEq, Repr

/-- What a settings read on the memory link comes to: the memory has answered 0x5C, after which its bytes follow, or the read has
ended (R175; log 19). -/
inductive ReadEvent where
  | ready
  | ended (read : MemRead)
  deriving DecidableEq, Repr

/-- The position contacts that a command names: the closed contact on POSC, the open contact on POSO, or both at the same moment,
as a change between neither made and both made asks (3.4, R64). -/
inductive Contact where
  | closedContact
  | openContact
  | bothContacts
  deriving DecidableEq, Repr

/-- The moment of a debounced input that its command stands for: the input goes to a level, or it has held that level for the whole
span of its debounce, so that the debounced state follows (R62, R67, R149, R151; log 11). -/
inductive InputMoment where
  | edge
  | held
  deriving DecidableEq, Repr

/-- The two kinds of element and of hold record: phase (A, B, C) and ground (G) (1.3, 7.1). -/
inductive Kind where
  | phase
  | ground
  deriving DecidableEq, Repr

/-- The deliveries of a good measurement frame, which stand in no order among themselves (R4, R78, R122): the frame step
of the OCU, the voltages to the CDU, the battery values to the BTU, the source to the SQC, the advance of the LFSR and the
take of the PRU. `test` is the BTU's test of the start conditions made at the arrival itself (R78; log 7). -/
inductive Delivery where
  | ocu
  | cdu
  | btu
  | sqc
  | lfsr
  | take
  | test
  deriving DecidableEq, Repr

/-- A run of the WAND line: it has stood active or inactive for so many whole units of 10 µs more. A run whose level differs from
the one before it begins with the edge, and a run of 0 units is that edge alone (R144; log 37). -/
structure WandRun where
  active : Bool
  units : Nat
  deriving DecidableEq, Repr

/-- Why a request frame is given up without an answer (R170): a length outside 2..62, a framing error, a sum that does not
agree. -/
inductive DiscardCause where
  | badLength
  | framingError
  | badSum
  deriving DecidableEq, Repr

/-- The part byte of Read-Status (R173): 0 the status items, 1 the settings in force. -/
inductive StatusPart where
  | items
  | settings
  deriving DecidableEq, Repr

/-- The input levels that a cold start samples (R179): the two contacts (R66), ACP (R84), the handle and the keys (R162),
CARR and RRDY (R85). -/
structure InputLevels where
  closedMade : Bool
  openMade : Bool
  acPresent : Bool
  handleDown : Bool
  tripKey : Bool
  closeKey : Bool
  tagOnKey : Bool
  tagOffKey : Bool
  batteryKey : Bool
  carrier : Bool
  radioReady : Bool
  deriving DecidableEq, Repr

/-- A command: an event that reaches the part, or comes due in it, and runs whole (95_what_each_step_holds.md). -/
inductive Instr where
  /-- COLD_START, R179; `between` are the bits of the measurement link sampled between the two draws of step 6, with the order
  of the deliveries of a frame that they bring (log 10); left out, none are sampled. -/
  | coldStart (settings : MemRead) (store : MemRead) (inputs : InputLevels) (between : List LinkBit := [])
    (order : List Delivery := [])
  /-- SHORT_FRAME, R1; `bits` are the bits sampled since the last command of the measurement link. -/
  | shortFrame (bits : List LinkBit := [])
  /-- MEASUREMENT_FRAME, R2; `bits` are the bits sampled since the last command of the measurement link, and `order` is the
  order in which the deliveries of a good frame are made (log 7). -/
  | measurementFrame (bits : List LinkBit) (order : List Delivery)
  /-- STALL_PACED_TAKE, R122. -/
  | stallPacedTake
  /-- STALLED, R5. -/
  | stalled
  /-- MEASUREMENT_LOST, R6. -/
  | measurementLost
  /-- MEASUREMENT_BACK, R7. -/
  | measurementBack
  /-- CLOSE_CHARGE_TIMER_EXPIRY, R52. -/
  | closeChargeTimerExpiry
  /-- TRIP_PULSE_END, R54. -/
  | tripPulseEnd
  /-- CLOSE_PULSE_END, R54. -/
  | closePulseEnd
  /-- TRIP_WINDOW_END, R57. -/
  | tripWindowEnd
  /-- CLOSE_WINDOW_END, R60. -/
  | closeWindowEnd
  /-- TRIP_WAIT_EXPIRY, R56. -/
  | tripWaitExpiry
  /-- RETRIP_WAIT_EXPIRY, R57. -/
  | retripWaitExpiry
  /-- CONTACT_CHANGE, R62, at an edge or the end of its span (log 11); `clearFirst` picks the order that R139 leaves open (log 8). -/
  | contactChange (contact : Contact) (made : Bool) (clearFirst : Bool) (moment : InputMoment := .held)
  /-- POSITION_FAULT, R64. -/
  | positionFault
  /-- RECLOSE_TIMER_EXPIRY, R33. -/
  | recloseTimerExpiry
  /-- CHARGE_TIMER_EXPIRY, R34. -/
  | chargeTimerExpiry
  /-- RESET_TIMER_EXPIRY, R37. -/
  | resetTimerExpiry
  /-- MANUAL_CLOSE_WINDOW_EXPIRY, R45. -/
  | manualCloseWindowExpiry
  /-- START_HOLD_EXPIRY, R46. -/
  | startHoldExpiry
  /-- HOLD_EXPIRY, R137. -/
  | holdExpiry (kind : Kind)
  /-- AC_PRESENT_CHANGE, R67, at an edge or the end of its span (log 11). -/
  | acPresentChange (present : Bool) (moment : InputMoment := .held)
  /-- LOW_VOLTAGE_TIMER_EXPIRY, R74. -/
  | lowVoltageTimerExpiry
  /-- DISCONNECT_TIMER_EXPIRY, R75. -/
  | disconnectTimerExpiry
  /-- SETPOINT_WORD_SENT, R69. -/
  | setpointWordSent
  /-- TAPER_TIMER_EXPIRY, R71. -/
  | taperTimerExpiry
  /-- BOOST_LIMIT_EXPIRY, R71. -/
  | boostLimitExpiry
  /-- SCHEDULE_TIMER_EXPIRY, R77. -/
  | scheduleTimerExpiry
  /-- SCHEDULED_TEST_REQUEST, R77. -/
  | scheduledTestRequest
  /-- TEST_START, R78. -/
  | testStart
  /-- SETTLE_TIMER_EXPIRY, R79. -/
  | settleTimerExpiry
  /-- LOAD_TIMER_EXPIRY, R80. -/
  | loadTimerExpiry
  /-- QUIET_COUNT_END, R95. -/
  | quietCountEnd
  /-- BACKOFF_END, R96. -/
  | backoffEnd
  /-- RADIO_READY_SEEN, R97. -/
  | radioReadySeen
  /-- READY_TIMER_EXPIRY, R97. -/
  | readyTimerExpiry
  /-- READY_DROP, R99; `sent` are the bytes of the radio frame whose start bit has gone out when RRDY falls, and `back` tells
  whether RRDY is present again at the READY test before the next byte (log 42); left out, RRDY falls before the first byte and
  stays away. -/
  | readyDrop (sent : Nat := 0) (back : Bool := false)
  /-- ABORT_SENT, R99. -/
  | abortSent
  /-- COPY_SENT, R92. -/
  | copySent
  /-- KEY_DOWN_EXPIRY, R100. -/
  | keyDownExpiry
  /-- JABBER_EXPIRY, R101. -/
  | jabberExpiry
  /-- CARRIER_CHANGE, R95. -/
  | carrierChange (present : Bool)
  /-- RADIO_BYTE, R103. -/
  | radioByte (rx : LineByte)
  /-- RECEIVE_GAP_TIMEOUT, R106. -/
  | receiveGapTimeout
  /-- BEACON_TIMER_EXPIRY, R119. -/
  | beaconTimerExpiry
  /-- PEER_SILENT, R127. -/
  | peerSilent (id : Nat)
  /-- PEER_REMOVAL, R127. -/
  | peerRemoval (id : Nat)
  /-- WAND_ABORT, R145; the WAND line since the last command of the wand (log 37). -/
  | wandAbort (runs : List WandRun)
  /-- CREW_CODE_COMPLETE, R146; the WAND line since the last command of the wand. -/
  | crewCodeComplete (runs : List WandRun := [])
  /-- CREW_WINDOW_EXPIRY, R147. -/
  | crewWindowExpiry
  /-- ERROR_TONE_EXPIRY, R148. -/
  | errorToneExpiry
  /-- TONE_TOGGLE, R148. -/
  | toneToggle
  /-- TRIP_KEY, R149; `pressed` is the level of the key's input, at its edge or held for its span (log 11). -/
  | tripKey (pressed : Bool) (moment : InputMoment := .held)
  /-- CLOSE_KEY, R149. -/
  | closeKey (pressed : Bool) (moment : InputMoment := .held)
  /-- TAG_ON_KEY, R150. -/
  | tagOnKey (pressed : Bool) (moment : InputMoment := .held)
  /-- TAG_OFF_KEY, R150. -/
  | tagOffKey (pressed : Bool) (moment : InputMoment := .held)
  /-- BATTERY_TEST_KEY, R76. -/
  | batteryTestKey (pressed : Bool) (moment : InputMoment := .held)
  /-- HANDLE_DOWN, R44, at an edge or the end of its span (log 11); `btuFirst` picks the order that R82 and R151 leave open (log 8). -/
  | handleDown (btuFirst : Bool) (moment : InputMoment := .held)
  /-- HANDLE_UP, R151, at an edge or the end of its span (log 11). -/
  | handleUp (moment : InputMoment := .held)
  /-- OPERATOR_TRIP, R39. -/
  | operatorTrip
  /-- OPERATOR_CLOSE, R40. -/
  | operatorClose
  /-- TAG_APPLY, R153. -/
  | tagApply (code : Word16)
  /-- TAG_REMOVE, R154. -/
  | tagRemove (code : Word16)
  /-- TAG_STORE_WRITE_END, R160. -/
  | tagStoreWriteEnd (acknowledged : Bool)
  /-- BATTERY_TEST, R76. -/
  | batteryTest
  /-- READ_STATUS, R173. -/
  | readStatus (part : StatusPart)
  /-- READ_RECORDS_FROM, R168. -/
  | readRecordsFrom (number : Word32)
  /-- READ_PEER_TABLE, R174. -/
  | readPeerTable
  /-- READ_TAG_TABLE, R174. -/
  | readTagTable
  /-- SETTINGS_RESTART, R180. -/
  | settingsRestart
  /-- SETTINGS_RESTART_APPLY, R181; the contact levels are those R66 reads afresh. -/
  | settingsRestartApply (event : ReadEvent) (closedMade : Bool) (openMade : Bool)
  /-- BAD_REQUEST, R171. -/
  | badRequest (code : Byte) (payload : List Byte)
  /-- REQUEST_DISCARDED, R170. -/
  | requestDiscarded (cause : DiscardCause)
  /-- SERVICE_GAP_TIMEOUT, R170. -/
  | serviceGapTimeout
  /-- RESPONSE_SENT, R171. -/
  | responseSent
  /-- WAND_MARK, R145; the WAND line since the last command of the wand. -/
  | wandMark (runs : List WandRun)
  /-- SERVICE_BYTE, R170. -/
  | serviceByte (rx : LineByte)
  deriving DecidableEq, Repr

end Sys2Proof
end

