-- ==== Sys2Proof/Config.lean ====
section
/-! DEFINITION. What the part fixes once and for all: the constants of the manual's own tables, and the values that the
manual leaves open, which have no body (logs 13 and 44). -/

namespace Sys2Proof.Config

/-- F, the full-scale accumulator value (1.3). -/
def fullScale : Nat := 1048576

/-- The highest multiple of pickup, 40.00 (R10). -/
def maxMultiple : Nat := 10240

/-- The multiple at which an element picks up, 1.00 (R11). -/
def pickupLevel : Nat := 256

/-- The lowest multiple at which a PICKED element stays PICKED, 94.9 % (R11). -/
def dropoutLevel : Nat := 243

/-- The free value that stands for I1 where the negation of battery I lies outside the 16-bit format of I1
(R80, 4.1; DESIGN CHOICE: the spec states no result there, log 13). It is applied to `State.free`, and nothing can be
proved of it. Safe. -/
opaque freeI1 : Nat → BitVec 16

/-- The free value that stands for the milliseconds from the beginning of a tag store write to the moment its last byte has gone,
for a write begun at the given station time (R160, R175; DESIGN CHOICE: R175's bit clock makes it less than 1 ms, the worked
case of 8.8 makes it 9 ms, and no rule states it, log 44). Nothing can be proved of it. Safe. -/
opaque writeSending : Word32 → Nat

end Sys2Proof.Config
end

