-- ==== Sys2Proof/Machine/Types.lean ====
section
/-! DEFINITION. The data of the ten blocks: the named states of their state machines, the records they hold, and one
structure of state for each block, field by field as the tables "State held" of chapters 01 to 10 list them. -/

namespace Sys2Proof.Machine

/-- A running or idle timer: `none` idle, `some n` with n ms of station time left. A timer with 0 left is due. -/
abbrev Timer := Option Nat

/-- One value for each of the elements A, B, C and G (1.3). -/
structure PerElem (α : Type) where
  a : α
  b : α
  c : α
  g : α
  deriving DecidableEq, Repr

/-- A set of elements among A, B, C and G (R19). -/
abbrev ElementSet := PerElem Bool

/-! ### The debounced inputs (R62, R67, R149, R151) -/

/-- The input lines that the part debounces: POSC and POSO, ACP, the five panel keys, and HNDL. -/
inductive InputPin where
  | posc
  | poso
  | acp
  | tripKey
  | closeKey
  | tagOnKey
  | tagOffKey
  | batteryKey
  | hndl
  deriving DecidableEq, Repr

/-- A debounced input: its level as it stands, and the milliseconds left until it has held that level for its whole span, which run
only while the level differs from the debounced state. -/
structure InputLine where
  level : Bool
  count : Timer
  deriving DecidableEq, Repr

/-- The nine debounced inputs; a level is true for a contact made, AC present, a key pressed and the handle down. -/
structure Inputs where
  posc : InputLine
  poso : InputLine
  acp : InputLine
  tripKey : InputLine
  closeKey : InputLine
  tagOnKey : InputLine
  tagOffKey : InputLine
  batteryKey : InputLine
  hndl : InputLine
  deriving DecidableEq, Repr

/-! ### MFP (01) -/

/-- The fields of a good measurement frame (R2). -/
structure MeasFields where
  count : Byte
  ia : Nat
  ib : Nat
  ic : Nat
  ig : Nat
  source : Bool
  battV : Nat
  battI : Int
  temperature : Int
  tripV : Nat
  closeV : Nat
  deriving DecidableEq, Repr

/-- The state of the MFP (R1 to R8). `frame` holds the bits of the frame in progress, first bit first; it is none while bits
are discarded until the next frame start (R1). -/
structure Mfp where
  frame : Option (List Bool)
  lastGood : Option MeasFields
  stallTimer : Timer
  lostTimer : Timer
  stalled : Bool
  lost : Bool
  recovery : Timer
  badFrames : Nat
  framesMissed : Nat
  deriving DecidableEq, Repr

/-! ### OCU (01, 07) -/

/-- The state of one element (1.3): last multiple, pickup state, accumulator, instantaneous count, run and peak. -/
structure Element where
  m : Nat
  picked : Bool
  acc : Nat
  count : Nat
  run : Nat
  peak : Nat
  deriving DecidableEq, Repr

/-- A standing hold (7.1). -/
structure Hold where
  holder : Nat
  position : Nat
  begunAt : Word32
  endsAt : Word32
  deriving DecidableEq, Repr

/-- What the OCU holds for one kind: its hold record, its own-order mark (R132), and whether a release test put off by a
freeze is still to be made (R17, R21; log 26). -/
structure KindState where
  hold : Option Hold
  ownOrder : Bool
  releaseDue : Bool
  deriving DecidableEq, Repr

/-- The state of the OCU (R9 to R24, R132 to R142). -/
structure Ocu where
  elems : PerElem Element
  longestRun : Nat
  orderRaised : Bool
  phase : KindState
  ground : KindState
  deriving DecidableEq, Repr

/-! ### SQC (02) -/

/-- The sequence states (2.1). -/
inductive SeqState where
  | ready
  | resetTiming
  | tripping
  | recloseWait
  | closeCharge
  | closing
  | lockout
  | breakerFail
  deriving DecidableEq, Repr

/-- The lockout reasons (R38). -/
inductive LockReason where
  | shots
  | tagged
  | battery
  | measurement
  | startHold
  | manualClose
  | operator
  | handle
  | unexplainedOpen
  | closeEnergy
  | closeFail
  | mechanism
  | start
  deriving DecidableEq, Repr

/-- The causes of a trip (R19, R39). -/
inductive TripCause where
  | time
  | inst
  | operator
  | tagProfile
  deriving DecidableEq, Repr

/-- A trip order as the OCU hands it (R20). -/
structure TripOrder where
  cause : TripCause
  elements : ElementSet
  peak : Nat
  deriving DecidableEq, Repr

/-- The current trip (2.1). The final flag is the presence of the final reason: a trip is final exactly when it has one
(R26, R39). -/
structure CurrentTrip where
  cause : TripCause
  elements : ElementSet
  peak : Nat
  number : Nat
  finalReason : Option LockReason
  deriving DecidableEq, Repr

/-- The close kinds (2.1). -/
inductive CloseKind where
  | automatic
  | operator
  deriving DecidableEq, Repr

/-- The state of the SQC (2.1). The manual-close window is open, and start hold on, while its timer runs (R45, R46). -/
structure Sqc where
  seq : SeqState
  shots : Nat
  trip : Option CurrentTrip
  closeKind : CloseKind
  closeBegun : Bool
  reason : Option LockReason
  reclose : Timer
  charge : Timer
  reset : Timer
  manualWindow : Timer
  startHold : Timer
  stepped : Bool
  stepSet : ElementSet
  memory : Option ElementSet
  sourcePresent : Bool
  deriving DecidableEq, Repr

/-! ### CDU (03) -/

/-- The coil pulse in progress (R54). -/
inductive Pulse where
  | none
  | trip
  | close
  deriving DecidableEq, Repr

/-- The states of the trip request (3.3). -/
inductive TripRequest where
  | none
  | wait
  | first
  | retripWait
  | retrip
  | attempt
  deriving DecidableEq, Repr

/-- The breaker positions (R62). -/
inductive Position where
  | closed
  | opened
  | indeterminate
  deriving DecidableEq, Repr

/-- The state of the CDU (3.1). `closeRequest` is true for CLOSE; `lastClosed` is true when the last definite position is
Closed; `tripOwed` and `closeOwed` mark a capacitor ready report that waits for the end of the pulse (R50; log 25). -/
structure Cdu where
  tripV : Nat
  closeV : Nat
  tripReady : Bool
  closeReady : Bool
  tripSpent : Bool
  closeSpent : Bool
  tripOwed : Bool
  closeOwed : Bool
  tcen : Bool
  ccen : Bool
  closeCharge : Timer
  closeBarred : Bool
  pulse : Pulse
  pulseTimer : Timer
  tripWindow : Timer
  closeWindow : Timer
  tripRequest : TripRequest
  tripWait : Timer
  retripWait : Timer
  withdrawn : Bool
  closeRequest : Bool
  closedMade : Bool
  openMade : Bool
  lastClosed : Bool
  indeterminate : Timer
  positionFault : Bool
  operations : Word32
  deriving DecidableEq, Repr

/-! ### BTU (04) -/

/-- The reserve states (4.3). -/
inductive Reserve where
  | normal
  | reserve
  | critical
  | disconnect
  deriving DecidableEq, Repr

/-- The charger modes (4.2). -/
inductive Charger where
  | off
  | float
  | boost
  deriving DecidableEq, Repr

/-- The states of the battery test (4.4). -/
inductive TestState where
  | idle
  | pending
  | settle
  | loaded
  deriving DecidableEq, Repr

/-- Who asked for the battery test (R76). -/
inductive TestSource where
  | panel
  | service
  | schedule
  deriving DecidableEq, Repr

/-- The set of request sources (4.1). -/
structure TestSources where
  panel : Bool
  service : Bool
  schedule : Bool
  deriving DecidableEq, Repr

/-- The results of a battery test (R81, R82). -/
inductive TestResult where
  | pass
  | fail
  | abandoned
  deriving DecidableEq, Repr

/-- The causes of an abandoned test (R82). -/
inductive AbandonCause where
  | pickup
  | acLoss
  | sequence
  | handle
  | measurement
  deriving DecidableEq, Repr

/-- The state of the BTU (4.1). `sending` is the setpoint word on its way out on CHSD (R69); `resumeBoost` is true when the
resume mode is BOOST; `measured` tells that a good frame has delivered battery values since the cold start, from which on the
reserve state is judged (R84); `testMoment` marks a moment at which R78 has the start conditions tested (log 34). -/
structure Btu where
  battV : Nat
  battI : Int
  temperature : Int
  measured : Bool
  acPresent : Bool
  reserve : Reserve
  discharged : Bool
  lowVoltage : Timer
  shutdownPending : Bool
  disconnect : Timer
  charger : Charger
  resumeBoost : Bool
  vf : Nat
  setpointSent : Nat
  sending : Option Nat
  taper : Timer
  boostLimit : Timer
  test : TestState
  sources : TestSources
  settle : Timer
  load : Timer
  v0 : Option Nat
  v1 : Option Nat
  i1 : Option Int
  lastResult : Option TestResult
  lastResistance : Option Nat
  failed : Bool
  schedule : Timer
  scheduleDue : Bool
  testMoment : Bool
  deriving DecidableEq, Repr

/-! ### CHC (05) -/

/-- The report kinds (R112). -/
inductive ReportKind where
  | beacon
  | pickup
  | trip
  | clear
  | lockout
  | tag
  | untag
  | shutdown
  deriving DecidableEq, Repr

/-- The report classes (5.3). -/
inductive ReportClass where
  | fault
  | crew
  | status
  deriving DecidableEq, Repr

/-- An entry of the transmit queue (R90); its class is that of its kind (R112). -/
structure TxEntry where
  kind : ReportKind
  seq : Byte
  payload : List Byte
  copies : Nat
  attempts : Nat
  inService : Bool
  deriving DecidableEq, Repr

/-- The transmit states (R94). -/
inductive TxState where
  | idle
  | defer
  | backoff
  | keyUp
  | sending
  | keyDown
  deriving DecidableEq, Repr

/-- A backoff count with the window it was drawn for (R96). -/
structure Backoff where
  count : Nat
  window : Nat
  deriving DecidableEq, Repr

/-- The causes of a failed attempt (R98). -/
inductive AttemptCause where
  | noReady
  | readyDrop
  deriving DecidableEq, Repr

/-- The receive states of the channel (5.5). -/
inductive RxState where
  | hunt
  | sync1
  | body
  deriving DecidableEq, Repr

/-- A record of the receive queue (R108). The length is that of the payload. -/
structure RxRecord where
  sender : Nat
  position : Nat
  kind : Byte
  seq : Byte
  payload : List Byte
  arrival : Word32
  deriving DecidableEq, Repr

/-- The state of the CHC (chapter 05's table and R109); `airFrame` is the radio frame built for FTXD (R86), or what of it goes
out before the abort bytes while `aborting` is set (R99), `carr` and `rrdy` are the levels last seen (log 21). -/
structure Chc where
  front : List TxEntry
  status : List TxEntry
  tx : TxState
  quiet : Nat
  backoff : Option Backoff
  slot : Timer
  readyTimer : Timer
  readyLatch : Bool
  jabber : Timer
  keyDown : Timer
  airFrame : List Byte
  aborting : Bool
  rx : RxState
  escape : Bool
  latch : Bool
  body : List Byte
  queue : List RxRecord
  lfsr : Word16
  reportsLost : Nat
  framesSent : Nat
  attemptsFailed : Nat
  framesAccepted : Nat
  checkFailures : Nat
  receiveAborts : Nat
  receiveOverruns : Nat
  carr : Bool
  rrdy : Bool
  deriving DecidableEq, Repr

/-! ### PRU (06) -/

/-- The running beacon timer (R119): it expires when `span` ms have passed since `reference`; `drawn` tells a drawn delay
from an interval (R120). -/
structure BeaconTimer where
  reference : Word32
  span : Nat
  drawn : Bool
  deriving DecidableEq, Repr

/-- The last fault notice of a peer table entry (6.6). -/
structure FaultNotice where
  kind : ReportKind
  time : Word32
  payload : List Byte
  deriving DecidableEq, Repr

/-- An entry of the peer table (6.6). -/
structure PeerEntry where
  id : Nat
  position : Nat
  lastSeq : Option Byte
  lastHeard : Word32
  silent : Bool
  summary : Option (List Byte)
  fault : Option FaultNotice
  deriving DecidableEq, Repr

/-- The state of the PRU (6.1): the peer table is the list of its 16 places; `pace` is idle when the take is frame-paced. -/
structure Pru where
  nextSeq : Byte
  lastEvent : Byte
  beacon : Option BeaconTimer
  pace : Timer
  peers : List (Option PeerEntry)
  reportsRefused : Nat
  duplicates : Nat
  framesUnentered : Nat
  deriving DecidableEq, Repr

/-! ### TGU (08) -/

/-- The states of the wand decoder (R145). -/
inductive Decoder where
  | wait
  | hspace
  | mark (i : Nat)
  | space (i : Nat)
  | trailer
  | silence
  deriving DecidableEq, Repr

/-- The WAND line as the decoder times it, in whole units of 10 µs (R144): a space that has run for a width since the last confirmed
mark; a mark not yet confirmed, of a width below 10, in a space that had run for its own width at that mark's rising edge; a
confirmed mark that has run for a width since its rising edge. -/
inductive WandLine where
  | space (width : Nat)
  | rising (space : Nat) (width : Nat)
  | mark (width : Nat)
  deriving DecidableEq, Repr

/-- The open crew window (R147). -/
structure CrewWindow where
  code : Word16
  slot : Nat
  left : Nat
  deriving DecidableEq, Repr

/-- The debounced panel keys, true for pressed (R149). -/
structure Keys where
  trip : Bool
  close : Bool
  tagOn : Bool
  tagOff : Bool
  battery : Bool
  deriving DecidableEq, Repr

/-- The source of a tag table entry (R152). -/
inductive TagSource where
  | localPanel
  | service
  | store
  | peer (id : Nat)
  deriving DecidableEq, Repr

/-- An entry of the tag table (R152). -/
structure TagEntry where
  source : TagSource
  code : Word16
  applied : Word32
  slot : Option Nat
  deriving DecidableEq, Repr

/-- A remote pair of peer id and crew code (R157). -/
structure RemotePair where
  peer : Nat
  code : Word16
  deriving DecidableEq, Repr

/-- The state of the TGU (chapter 08's table); `writing` is true in WRITING, `writeImage` is the image on the link. -/
structure Tgu where
  decoder : Decoder
  line : WandLine
  bits : List Bool
  wandRejects : Nat
  window : Option CrewWindow
  errorTone : Timer
  toneOn : Bool
  tonePhase : Timer
  keys : Keys
  handleDown : Bool
  tags : List TagEntry
  overflow : Option RemotePair
  writing : Bool
  writeAgain : Bool
  writeImage : List Byte
  storeFault : Bool
  deriving DecidableEq, Repr

/-! ### RCS (09) -/

/-- The kinds of event record (R164). -/
inductive RecordKind where
  | start
  | settingsRestart
  | settingsFault
  | measurementLost
  | measurementBack
  | trip
  | close
  | lockout
  | step
  | breakerFail
  | tripFree
  | energyFault
  | positionFault
  | reserveChange
  | shutdown
  | batteryTest
  | holdBegun
  | holdEnded
  | radioNotReady
  | channelFault
  | tagOn
  | tagOff
  | tagOverflow
  | unknownCrew
  | tagStoreFault
  deriving DecidableEq, Repr

/-- The reasons an event record may carry (R165): a lockout reason, or one of the further codes. -/
inductive Reason where
  | lock (r : LockReason)
  | tripEnergy
  | neither
  | both
  | holderTrip
  | holderClear
  | expiry
  | tripConfirmed
  | noReady
  | readyDrop
  | jabber
  | write
  | image
  | pickup
  | acLoss
  | sequence
  | sum
  | version
  | range
  | curve
  deriving DecidableEq, Repr

/-- The test outcome of a BATTERY_TEST record (R164, R165). -/
structure TestOutcome where
  result : TestResult
  sources : TestSources
  deriving DecidableEq, Repr

/-- The kind of an event record and the fields it carries, in the order of their presence bits (R164, R165). -/
structure RecordBody where
  kind : RecordKind
  elements : Option ElementSet := none
  peak : Option Nat := none
  tripNumber : Option Nat := none
  shots : Option Nat := none
  reason : Option Reason := none
  crewCode : Option Word16 := none
  peerId : Option Nat := none
  tagSource : Option TagSource := none
  seqState : Option SeqState := none
  reserve : Option Reserve := none
  battV : Option Nat := none
  v0 : Option Nat := none
  v1 : Option Nat := none
  i1 : Option Int := none
  resistance : Option Nat := none
  outcome : Option TestOutcome := none
  operations : Option Word32 := none
  deriving DecidableEq, Repr

/-- An event record as the RCS writes it (R163). -/
structure EventRecord where
  number : Word32
  time : Word32
  body : RecordBody
  deriving DecidableEq, Repr

/-- The state of the RCS (chapter 09's table); the ring is oldest first. -/
structure Rcs where
  ring : List EventRecord
  next : Word32
  unread : Nat
  deriving DecidableEq, Repr

/-! ### SVP and the settings (10) -/

/-- A plan entry (R176). -/
structure PlanEntry where
  phaseCurve : Nat
  phaseDial : Nat
  groundCurve : Nat
  groundDial : Nat
  instantaneous : Nat
  deriving DecidableEq, Repr

/-- A partner filter entry (R128). -/
structure FilterEntry where
  idValue : Byte
  idMask : Byte
  kindSet : Byte
  deriving DecidableEq, Repr

/-- A breakpoint of a curve table (R13). -/
structure Breakpoint where
  m : Nat
  r : Nat
  deriving DecidableEq, Repr

/-- The settings image, field by field as R176 lays it out: currents in 0.5 A, dials in hundredths, times in ms but the
beacon interval in s and D in days. -/
structure Settings where
  version : Nat
  feeder : Nat
  stationId : Nat
  position : Nat
  pickupPh : Nat
  pickupGd : Nat
  instPh : Nat
  instGd : Nat
  resetMode : Nat
  decay : Nat
  tripsToLockout : Nat
  plan : List PlanEntry
  intervals : List Nat
  resetTime : Nat
  tagCurve : Nat
  tagDial : Nat
  tagInst : Nat
  tripWidth : Nat
  closeWidth : Nat
  holdTime : Nat
  options : Byte
  filter : List FilterEntry
  crewCodes : List Word16
  wandTolerance : Nat
  beaconInterval : Nat
  resistanceLimit : Nat
  schedule : Nat
  attention : Nat
  curves : List (List Breakpoint)
  deriving DecidableEq, Repr

/-- Why a settings image was refused (R177). -/
inductive SettingsFault where
  | sum
  | version
  | range
  | curve
  deriving DecidableEq, Repr

/-- The receive states of the service port (R170). -/
inductive SvcRx where
  | hunt
  | length
  | body
  deriving DecidableEq, Repr

/-- The service states (chapter 10's table). -/
inductive ServiceState where
  | starting
  | listen
  | answering
  | restarting
  deriving DecidableEq, Repr

/-- What the memory link carries: a tag store write, a settings read that waits for the memory's 0x5C, or the image that follows
the 0x5C (R160, R175). -/
inductive LinkState where
  | free
  | write
  | read
  | image
  deriving DecidableEq, Repr

/-- The state of the SVP (chapter 10's table). `linkTimer` runs the 20 ms in which a settings read waits for the 0x5C, and in a
tag store write the time to its last byte and the 20 ms after it (R160, R175; log 44). `startSent` holds the bytes that
COLD_START's two reads have sent on NVDO, until the next millisecond (R175, R179; log 10). -/
structure Svp where
  rx : SvcRx
  buffer : List Byte
  gap : Timer
  service : ServiceState
  discarded : Nat
  badRequests : Nat
  response : List Byte
  settings : Settings
  fromImage : Bool
  faultReason : Option SettingsFault
  link : LinkState
  linkTimer : Timer
  readWaits : Bool
  startSent : List Byte
  deriving DecidableEq, Repr

/-- The service requests (R172). -/
inductive Request where
  | readStatus (part : StatusPart)
  | readRecordsFrom (number : Word32)
  | readPeerTable
  | readTagTable
  | operatorTrip
  | operatorClose
  | tagApply (code : Word16)
  | tagRemove (code : Word16)
  | batteryTest
  | settingsRestart
  deriving DecidableEq, Repr

/-- The answer codes (R171). -/
inductive Answer where
  | done
  | badRequest
  | refusedState
  | refusedTagged
  | refusedHandle
  | refusedEnergy
  | refusedUnknown
  | refusedFull
  deriving DecidableEq, Repr

end Sys2Proof.Machine
end

