-- ==== Sys2Proof/Machine/Bytes.lean ====
section
/-! DEFINITION. Byte order, two's complement, the CRC and the escape of the radio frame, and the numeric codes that payloads,
records and responses share (00 Serial links and byte order; R87, R88, R112, R121, R164, R165, R171). -/

namespace Sys2Proof.Machine

/-! ### Byte order (00) -/

/-- `n` bytes of a number, most significant byte first. -/
def beBytes : Nat → Nat → List Byte
  | 0, _ => []
  | n + 1, v => BitVec.ofNat 8 (v / 256 ^ n) :: beBytes n v

/-- The number that bytes spell, most significant byte first. -/
def fromBe (bytes : List Byte) : Nat := bytes.foldl (fun acc b => acc * 256 + b.toNat) 0

/-- The number in the `n` bytes at offset `off`. -/
def field (bytes : List Byte) (off n : Nat) : Nat := fromBe ((bytes.drop off).take n)

/-- The two's complement number in the 2 bytes at offset `off`. -/
def signedField (bytes : List Byte) (off : Nat) : Int := (BitVec.ofNat 16 (field bytes off 2)).toInt

/-- Two bytes of a signed number in two's complement. -/
def signedBytes (v : Int) : List Byte := beBytes 2 (BitVec.ofInt 16 v).toNat

/-- The plain sum of bytes (R2, R160, R170, R177). -/
def byteSum (bytes : List Byte) : Nat := (bytes.map BitVec.toNat).sum

/-- The byte that brings the sum of a frame to 0 modulo 256 (R170, R171). -/
def closingSum (bytes : List Byte) : Byte := 0 - BitVec.ofNat 8 (byteSum bytes)

/-! ### The check and the escape of the radio frame (R87, R88) -/

/-- One shift of the CRC register (R87). -/
def crcShift (reg : Word16) : Word16 :=
  if reg.msb then (reg <<< 1) ^^^ 0x1021#16 else reg <<< 1

/-- One byte into the CRC register: XOR into the high 8 bits, then eight shifts (R87). -/
def crcByte (reg : Word16) (b : Byte) : Word16 :=
  let r := reg ^^^ (b.setWidth 16 <<< 8)
  crcShift (crcShift (crcShift (crcShift (crcShift (crcShift (crcShift (crcShift r)))))))

/-- The check over bytes, initial value 0xFFFF, no final inversion (R87). -/
def crc16 (bytes : List Byte) : Word16 := bytes.foldl crcByte 0xFFFF#16

/-- One body byte as it is sent (R88). -/
def escapeByte (b : Byte) : List Byte :=
  if b = 0xB4#8 ∨ b = 0xA5#8 then [0xA5#8, b ^^^ 0x20#8] else [b]

/-- The body in escaped form (R88). -/
def escapeBody (body : List Byte) : List Byte := body.flatMap escapeByte

/-- A whole radio frame on the air: preamble, sync, escaped body, trailer (R86). -/
def airBytes (body : List Byte) : List Byte :=
  [0x55#8, 0x55#8, 0x55#8, 0xB4#8, 0x2D#8] ++ escapeBody body ++ [0xFF#8]

/-! ### The LFSR (R89) -/

/-- One advance of the LFSR (R89). -/
def lfsrAdvance (r : Word16) : Word16 :=
  if r.getLsbD 0 then (r >>> 1) ^^^ 0xB400#16 else r >>> 1

/-- The seed from station id and feeder code (R89). -/
def lfsrSeed (stationId feeder : Nat) : Word16 :=
  let seed := BitVec.ofNat 16 (stationId * 256 + feeder) ^^^ 0xACE1#16
  if seed = 0 then 1 else seed

/-! ### Codes -/

/-- Bit `k` set or clear. -/
def bit (k : Nat) (b : Bool) : Nat := if b then 2 ^ k else 0

/-- An element set as a byte: bit 0 A, bit 1 B, bit 2 C, bit 3 G (R121, R165). -/
def PerElem.code (e : ElementSet) : Nat := bit 0 e.a + bit 1 e.b + bit 2 e.c + bit 3 e.g

/-- The element set that a byte names; bits not named are not examined (R121). -/
def elementSetOf (b : Byte) : ElementSet :=
  { a := b.getLsbD 0, b := b.getLsbD 1, c := b.getLsbD 2, g := b.getLsbD 3 }

/-- The sequence state codes (R121). -/
def SeqState.code : SeqState → Nat
  | .ready => 0
  | .resetTiming => 1
  | .tripping => 2
  | .recloseWait => 3
  | .closeCharge => 4
  | .closing => 5
  | .lockout => 6
  | .breakerFail => 7

/-- The reason codes 1 to 13 (R121, R165). -/
def LockReason.code : LockReason → Nat
  | .shots => 1
  | .tagged => 2
  | .battery => 3
  | .measurement => 4
  | .startHold => 5
  | .manualClose => 6
  | .operator => 7
  | .handle => 8
  | .unexplainedOpen => 9
  | .closeEnergy => 10
  | .closeFail => 11
  | .mechanism => 12
  | .start => 13

/-- The reason codes of event records (R165). -/
def Reason.code : Reason → Nat
  | .lock r => r.code
  | .tripEnergy => 14
  | .neither => 15
  | .both => 16
  | .holderTrip => 17
  | .holderClear => 18
  | .expiry => 19
  | .tripConfirmed => 20
  | .noReady => 21
  | .readyDrop => 22
  | .jabber => 23
  | .write => 24
  | .image => 25
  | .pickup => 26
  | .acLoss => 27
  | .sequence => 28
  | .sum => 29
  | .version => 30
  | .range => 31
  | .curve => 32

/-- The trip cause codes (R121). -/
def TripCause.code : TripCause → Nat
  | .time => 1
  | .inst => 2
  | .operator => 3
  | .tagProfile => 4

/-- The breaker position as a BEACON sends it (R121). -/
def Position.beaconCode : Position → Nat
  | .opened => 0
  | .closed => 1
  | .indeterminate => 2

/-- The reserve state codes (R121, R165); DISCONNECT, which no beacon and no record carries, takes the next place. -/
def Reserve.code : Reserve → Nat
  | .normal => 0
  | .reserve => 1
  | .critical => 2
  | .disconnect => 3

/-- The report kind codes (R112). -/
def ReportKind.code : ReportKind → Nat
  | .beacon => 0x11
  | .pickup => 0x21
  | .trip => 0x22
  | .clear => 0x23
  | .lockout => 0x24
  | .tag => 0x31
  | .untag => 0x32
  | .shutdown => 0x41

/-- The report class of each kind (R112). -/
def ReportKind.cls : ReportKind → ReportClass
  | .beacon => .status
  | .tag => .crew
  | .untag => .crew
  | .pickup => .fault
  | .trip => .fault
  | .clear => .fault
  | .lockout => .fault
  | .shutdown => .fault

/-- The kind that a code names, if it is one of the eight (R112, R123). -/
def reportKindOf (code : Byte) : Option ReportKind :=
  [ReportKind.beacon, .pickup, .trip, .clear, .lockout, .tag, .untag, .shutdown].find? fun k => k.code == code.toNat

/-- The event record kind codes (R164). -/
def RecordKind.code : RecordKind → Nat
  | .start => 1
  | .settingsRestart => 2
  | .settingsFault => 3
  | .measurementLost => 4
  | .measurementBack => 5
  | .trip => 6
  | .close => 7
  | .lockout => 8
  | .step => 9
  | .breakerFail => 10
  | .tripFree => 11
  | .energyFault => 12
  | .positionFault => 13
  | .reserveChange => 14
  | .shutdown => 15
  | .batteryTest => 16
  | .holdBegun => 17
  | .holdEnded => 18
  | .radioNotReady => 19
  | .channelFault => 20
  | .tagOn => 21
  | .tagOff => 22
  | .tagOverflow => 23
  | .unknownCrew => 24
  | .tagStoreFault => 25

/-- The tag source codes (R160, R165, R174). -/
def TagSource.sourceCode : TagSource → Nat
  | .localPanel => 1
  | .service => 2
  | .store => 3
  | .peer _ => 4

/-- LOCAL_PANEL, SERVICE and STORE are the local sources (R152). -/
def TagSource.isLocal : TagSource → Bool
  | .peer _ => false
  | _ => true

/-- The peer id of a remote source. -/
def TagSource.peerId : TagSource → Option Nat
  | .peer id => some id
  | _ => none

/-- The request sources as bits 0 PANEL, 1 SERVICE, 2 SCHEDULE (R173). -/
def TestSources.code (t : TestSources) : Nat := bit 0 t.panel + bit 1 t.service + bit 2 t.schedule

/-- The test result codes (R165, R173). -/
def TestResult.code : TestResult → Nat
  | .pass => 1
  | .fail => 2
  | .abandoned => 3

/-- The answer codes (R171). -/
def Answer.code : Answer → Nat
  | .done => 0
  | .badRequest => 1
  | .refusedState => 2
  | .refusedTagged => 3
  | .refusedHandle => 4
  | .refusedEnergy => 5
  | .refusedUnknown => 6
  | .refusedFull => 7

/-- The reason a SETTINGS_FAULT record carries (R177). -/
def SettingsFault.reason : SettingsFault → Reason
  | .sum => .sum
  | .version => .version
  | .range => .range
  | .curve => .curve

/-- The reason a BATTERY_TEST record of an abandoned test carries (R165). -/
def AbandonCause.reason : AbandonCause → Reason
  | .pickup => .pickup
  | .acLoss => .acLoss
  | .sequence => .sequence
  | .handle => .lock .handle
  | .measurement => .lock .measurement

/-- The reason a RADIO_NOT_READY record carries (R98). -/
def AttemptCause.reason : AttemptCause → Reason
  | .noReady => .noReady
  | .readyDrop => .readyDrop

/-! ### Sets of elements -/

/-- The empty element set. -/
def noElements : ElementSet := { a := false, b := false, c := false, g := false }

/-- The elements of a kind (1.3). -/
def kindElements : Kind → ElementSet
  | .phase => { a := true, b := true, c := true, g := false }
  | .ground => { a := false, b := false, c := false, g := true }

/-- The four values in the order A, B, C, G. -/
def PerElem.toList {α : Type} (e : PerElem α) : List α := [e.a, e.b, e.c, e.g]

/-- A function on each of the four values. -/
def PerElem.map {α β : Type} (f : α → β) (e : PerElem α) : PerElem β :=
  { a := f e.a, b := f e.b, c := f e.c, g := f e.g }

/-- A function of two values on each element. -/
def PerElem.zip {α β γ : Type} (f : α → β → γ) (x : PerElem α) (y : PerElem β) : PerElem γ :=
  { a := f x.a y.a, b := f x.b y.b, c := f x.c y.c, g := f x.g y.g }

/-- Whether an element set names some element. -/
def PerElem.anySet (e : ElementSet) : Bool := e.a || e.b || e.c || e.g

/-- Whether an element set names an element of a kind; a partner pickup covers the kinds its set names (R132). -/
def PerElem.covers (e : ElementSet) : Kind → Bool
  | .phase => e.a || e.b || e.c
  | .ground => e.g

/-- The largest of the values of the elements named, 0 for none (R12, R19). -/
def PerElem.maxOver (e : PerElem Nat) (which : ElementSet) : Nat :=
  ((e.zip (fun v b => if b then v else 0) which).toList).foldl max 0

end Sys2Proof.Machine
end

