-- ==== Sys2Proof/Machine/SettingsImage.lean ====
section
/-! DEFINITION. The settings image: its layout, the judgement of a read, the built-in defaults and the settings' own small
accessors (R128, R143, R175 to R178). -/

namespace Sys2Proof.Machine

/-- The length of the settings image (R176). -/
def imageLength : Nat := 356

/-- Curve table `t` of an image (R176, bytes 114 + 60t on). -/
def decodeCurve (l : List Byte) (t : Nat) : List Breakpoint :=
  (List.range 12).map fun k => { m := field l (114 + 60 * t + 5 * k) 2, r := field l (116 + 60 * t + 5 * k) 3 }

/-- The settings that an image spells, field by field (R176). -/
def decodeImage (l : List Byte) : Settings where
  version := field l 0 1
  feeder := field l 1 1
  stationId := field l 2 1
  position := field l 3 1
  pickupPh := field l 4 2
  pickupGd := field l 6 2
  instPh := field l 8 2
  instGd := field l 10 2
  resetMode := field l 12 1
  decay := field l 13 3
  tripsToLockout := field l 16 1
  plan := (List.range 4).map fun p =>
    { phaseCurve := field l (17 + 7 * p) 1, phaseDial := field l (18 + 7 * p) 2, groundCurve := field l (20 + 7 * p) 1,
      groundDial := field l (21 + 7 * p) 2, instantaneous := field l (23 + 7 * p) 1 }
  intervals := (List.range 3).map fun k => field l (45 + 3 * k) 3
  resetTime := field l 54 3
  tagCurve := field l 57 1
  tagDial := field l 58 2
  tagInst := field l 60 2
  tripWidth := field l 62 1
  closeWidth := field l 63 1
  holdTime := field l 64 2
  options := BitVec.ofNat 8 (field l 66 1)
  filter := (List.range 8).map fun j =>
    { idValue := BitVec.ofNat 8 (field l (67 + 3 * j) 1), idMask := BitVec.ofNat 8 (field l (68 + 3 * j) 1),
      kindSet := BitVec.ofNat 8 (field l (69 + 3 * j) 1) }
  crewCodes := (List.range 8).map fun j => BitVec.ofNat 16 (field l (91 + 2 * j) 2)
  wandTolerance := field l 107 1
  beaconInterval := field l 108 2
  resistanceLimit := field l 110 2
  schedule := field l 112 1
  attention := field l 113 1
  curves := (List.range 4).map (decodeCurve l)

/-- A plan entry in the image (R176). -/
def encodePlan (p : PlanEntry) : List Byte :=
  beBytes 1 p.phaseCurve ++ beBytes 2 p.phaseDial ++ beBytes 1 p.groundCurve ++ beBytes 2 p.groundDial ++
    beBytes 1 p.instantaneous

/-- Bytes 0..353 of the image of some settings (R176). -/
def encodeFields (st : Settings) : List Byte :=
  beBytes 1 st.version ++ beBytes 1 st.feeder ++ beBytes 1 st.stationId ++ beBytes 1 st.position ++
  beBytes 2 st.pickupPh ++ beBytes 2 st.pickupGd ++ beBytes 2 st.instPh ++ beBytes 2 st.instGd ++
  beBytes 1 st.resetMode ++ beBytes 3 st.decay ++ beBytes 1 st.tripsToLockout ++
  st.plan.flatMap encodePlan ++ st.intervals.flatMap (beBytes 3) ++ beBytes 3 st.resetTime ++
  beBytes 1 st.tagCurve ++ beBytes 2 st.tagDial ++ beBytes 2 st.tagInst ++
  beBytes 1 st.tripWidth ++ beBytes 1 st.closeWidth ++ beBytes 2 st.holdTime ++ [st.options] ++
  st.filter.flatMap (fun f => [f.idValue, f.idMask, f.kindSet]) ++
  st.crewCodes.flatMap (fun c => beBytes 2 c.toNat) ++
  beBytes 1 st.wandTolerance ++ beBytes 2 st.beaconInterval ++ beBytes 2 st.resistanceLimit ++
  beBytes 1 st.schedule ++ beBytes 1 st.attention ++
  st.curves.flatMap (fun c => c.flatMap fun k => beBytes 2 k.m ++ beBytes 3 k.r)

/-- The whole 356-byte image with its sum computed afresh (R173, R176). -/
def encodeImage (st : Settings) : List Byte :=
  encodeFields st ++ beBytes 2 (byteSum (encodeFields st))

/-- Whether a value lies in a range, both ends included. -/
def inRange (lo hi v : Nat) : Bool := decide (lo ≤ v) && decide (v ≤ hi)

/-- Whether an instantaneous multiple is 0 for off or 512..10240 (R176). -/
def multipleOk (q : Nat) : Bool := q == 0 || inRange 512 10240 q

/-- Whether a plan entry is in range (R176). -/
def planOk (p : PlanEntry) : Bool :=
  decide (p.phaseCurve ≤ 3) && inRange 5 1000 p.phaseDial && decide (p.groundCurve ≤ 3) && inRange 5 1000 p.groundDial &&
    decide (p.instantaneous ≤ 1)

/-- RANGE: every judged field in its range and every reserved bit 0; plan entries beyond N and intervals with k ≥ N are not
judged (R176, R177). -/
def rangesOk (st : Settings) : Bool :=
  inRange 1 255 st.feeder && decide (st.stationId ≤ 250) && inRange 1 63 st.position &&
  inRange 2 4000 st.pickupPh && inRange 2 4000 st.pickupGd && multipleOk st.instPh && multipleOk st.instGd &&
  decide (st.resetMode ≤ 1) && inRange 1 1048576 st.decay && inRange 1 4 st.tripsToLockout &&
  (st.plan.take st.tripsToLockout).all planOk &&
  (st.intervals.take (st.tripsToLockout - 1)).all (inRange 500 180000) &&
  inRange 5000 180000 st.resetTime &&
  decide (st.tagCurve ≤ 3) && inRange 5 1000 st.tagDial && multipleOk st.tagInst &&
  inRange 10 100 st.tripWidth && inRange 20 200 st.closeWidth && inRange 50 2000 st.holdTime &&
  (st.options &&& 0xF8#8 == 0#8) && st.filter.all (fun f => f.kindSet &&& 0xF8#8 == 0#8) &&
  inRange 5 50 st.wandTolerance && inRange 10 600 st.beaconInterval && inRange 20 1000 st.resistanceLimit &&
  decide (st.schedule ≤ 90) && inRange 1 64 st.attention

/-- Whether breakpoints rise strictly in M and do not decrease in r (R13). -/
def breakpointsRise : List Breakpoint → Bool
  | x :: y :: rest => decide (x.m < y.m) && decide (x.r ≤ y.r) && breakpointsRise (y :: rest)
  | _ => true

/-- CURVE: the conditions of R13 on one table (R177). -/
def curveOk (c : List Breakpoint) : Bool :=
  (c.head?.map (·.m) == some 256) && breakpointsRise c && c.all (fun k => decide (k.m ≤ 10240)) &&
    c.all (fun k => inRange 1 1048576 k.r)

/-- The judgement of a settings read, the first failing step of four giving the fault reason (R177). Data of another length
than the image's is a read that the memory did not complete. -/
def judgeImage : MemRead → Except SettingsFault Settings
  | .incomplete => .error .sum
  | .complete bytes =>
    let st := decodeImage bytes
    if bytes.length ≠ imageLength ∨ byteSum (bytes.take 354) % 65536 ≠ field bytes 354 2 then .error .sum
    else if st.version ≠ 2 then .error .version
    else if !rangesOk st then .error .range
    else if !st.curves.all curveOk then .error .curve
    else .ok st

/-- The curve table at the head of 1.4, which is every table of the defaults (R178). -/
def defaultCurve : List Breakpoint :=
  [⟨256, 60⟩, ⟨384, 210⟩, ⟨512, 520⟩, ⟨640, 900⟩, ⟨768, 1500⟩, ⟨1024, 3100⟩, ⟨1536, 5200⟩, ⟨2048, 7400⟩, ⟨3072, 11000⟩,
    ⟨4096, 14200⟩, ⟨6144, 19000⟩, ⟨10240, 24000⟩]

/-- The built-in defaults (R178). -/
def defaultSettings : Settings where
  version := 2
  feeder := 1
  stationId := 0
  position := 1
  pickupPh := 400
  pickupGd := 200
  instPh := 2048
  instGd := 2048
  resetMode := 0
  decay := 65536
  tripsToLockout := 1
  plan := List.replicate 4 { phaseCurve := 0, phaseDial := 10, groundCurve := 0, groundDial := 10, instantaneous := 1 }
  intervals := List.replicate 3 2000
  resetTime := 30000
  tagCurve := 0
  tagDial := 10
  tagInst := 2048
  tripWidth := 30
  closeWidth := 60
  holdTime := 50
  options := 0
  filter := List.replicate 8 { idValue := 0, idMask := 0, kindSet := 0 }
  crewCodes := List.replicate 8 0
  wandTolerance := 20
  beaconInterval := 60
  resistanceLimit := 150
  schedule := 0
  attention := 1
  curves := List.replicate 4 defaultCurve

/-! ### Accessors -/

/-- Option bit 0, send-pickup (R176). -/
def Settings.sendPickup (st : Settings) : Bool := st.options.getLsbD 0

/-- Option bit 1, the step setting (R176). -/
def Settings.step (st : Settings) : Bool := st.options.getLsbD 1

/-- Option bit 2, latch-ready (R176). -/
def Settings.latchReady (st : Settings) : Bool := st.options.getLsbD 2

/-- Reset mode TIMED (R176). -/
def Settings.timedReset (st : Settings) : Bool := st.resetMode == 1

/-- The beacon interval B in milliseconds. -/
def Settings.beaconMs (st : Settings) : Nat := st.beaconInterval * 1000

/-- interval[k] for k = 1..3 (R176). -/
def Settings.interval (st : Settings) (k : Nat) : Nat := st.intervals.getD (k - 1) 0

/-- Plan entry p for p = 1..4 (R176). -/
def Settings.planEntry (st : Settings) (p : Nat) : PlanEntry :=
  st.plan.getD (p - 1) { phaseCurve := 0, phaseDial := 0, groundCurve := 0, groundDial := 0, instantaneous := 0 }

/-- Curve table t for t = 0..3 (R176). -/
def Settings.curve (st : Settings) (t : Nat) : List Breakpoint := st.curves.getD t []

/-- The crew slot of a code: the lowest slot that holds it; absent for an unknown code, 0 included (R143). -/
def Settings.crewSlot (st : Settings) (code : Word16) : Option Nat :=
  if code = 0 then none else st.crewCodes.findIdx? (· == code)

/-- The place of a kind in a partner filter entry's kind set (R176). -/
def filterBit : ReportKind → Option Nat
  | .pickup => some 0
  | .trip => some 1
  | .clear => some 2
  | _ => none

/-- Whether a record matches one filter entry; an entry with an empty kind set matches nothing (R128). -/
def FilterEntry.admits (f : FilterEntry) (sender : Nat) (kind : ReportKind) : Bool :=
  match filterBit kind with
  | some k => f.kindSet.getLsbD k && (BitVec.ofNat 8 sender &&& f.idMask) == (f.idValue &&& f.idMask)
  | none => false

/-- Whether a record matches the partner filter (R128). -/
def Settings.partner (st : Settings) (sender : Nat) (kind : ReportKind) : Bool :=
  st.filter.any fun f => f.admits sender kind

end Sys2Proof.Machine
end

