-- ==== Sys2Proof/Machine/ResetValues.lean ====
section
/-! DEFINITION. The values each block takes at a start, from the "Values after reset" sections of the chapters: R8, R24, R49,
R66, R84, R110, R131, R142, R162, R169, R182. -/

namespace Sys2Proof.Machine

/-- The MFP after a cold start and after a settings restart: stalled, both spans running from the reset (R8). -/
def mfpStart : Mfp where
  frame := none
  lastGood := none
  stallTimer := some 12
  lostTimer := some 250
  stalled := true
  lost := false
  recovery := none
  badFrames := 0
  framesMissed := 0

/-- An element after a start (R24). -/
def elementStart : Element := { m := 0, picked := false, acc := 0, count := 0, run := 0, peak := 0 }

/-- One kind of the OCU after a start: no hold, mark clear (R24, R142). -/
def kindStart : KindState := { hold := none, ownOrder := false, releaseDue := false }

/-- The OCU after a cold start and after a settings restart (R24, R142). -/
def ocuStart : Ocu where
  elems := { a := elementStart, b := elementStart, c := elementStart, g := elementStart }
  longestRun := 0
  orderRaised := false
  phase := kindStart
  ground := kindStart

/-- The position that two contacts form (R62). -/
def positionOf (closedMade openMade : Bool) : Position :=
  if closedMade && !openMade then .closed else if openMade && !closedMade then .opened else .indeterminate

/-- The CDU after a cold start with the contacts at the given levels (R66). -/
def cduStart (closedMade openMade : Bool) : Cdu where
  tripV := 0
  closeV := 0
  tripReady := false
  closeReady := false
  tripSpent := false
  closeSpent := false
  tripOwed := false
  closeOwed := false
  tcen := false
  ccen := false
  closeCharge := none
  closeBarred := false
  pulse := .none
  pulseTimer := none
  tripWindow := none
  closeWindow := none
  tripRequest := .none
  tripWait := none
  retripWait := none
  withdrawn := false
  closeRequest := false
  closedMade := closedMade
  openMade := openMade
  lastClosed := positionOf closedMade openMade == .closed
  indeterminate := if positionOf closedMade openMade == .indeterminate then some 500 else none
  positionFault := false
  operations := 0

/-- The SQC as it is set up from the position and the handle, start hold not yet set; the current trip is empty and
everything else idle, clear or empty (R49). -/
def sqcStart (closedUp handleDown : Bool) (resetTime : Nat) : Sqc where
  seq := if closedUp then .ready else .lockout
  shots := 0
  trip := none
  closeKind := .automatic
  closeBegun := false
  reason := if closedUp then none else if handleDown then some .handle else some .start
  reclose := none
  charge := none
  reset := none
  manualWindow := if closedUp then some resetTime else none
  startHold := none
  stepped := false
  stepSet := noElements
  memory := none
  sourcePresent := false

/-- The schedule timer at its full value, idle for D = 0 (R77). -/
def scheduleStart (st : Settings) : Timer :=
  if st.schedule = 0 then none else some (st.schedule * 86400000)

/-- No request source (R84). -/
def noSources : TestSources := { panel := false, service := false, schedule := false }

/-- The BTU after a cold start with ACP at the given level; the target setpoint is on its way at once (R84). -/
def btuStart (acPresent : Bool) (st : Settings) : Btu where
  battV := 0
  battI := 0
  temperature := 50
  measured := false
  acPresent := acPresent
  reserve := .normal
  discharged := !acPresent
  lowVoltage := none
  shutdownPending := false
  disconnect := none
  charger := if acPresent then .boost else .off
  resumeBoost := false
  vf := 2700
  setpointSent := 0
  sending := some (if acPresent then 2820 else 2700)
  taper := none
  boostLimit := if acPresent then some 28800000 else none
  test := .idle
  sources := noSources
  settle := none
  load := none
  v0 := none
  v1 := none
  i1 := none
  lastResult := none
  lastResistance := none
  failed := false
  schedule := scheduleStart st
  scheduleDue := false
  testMoment := false

/-- The CHC after a cold start and after a settings restart, its LFSR seeded from the settings in force (R110). -/
def chcStart (st : Settings) (carr rrdy : Bool) : Chc where
  front := []
  status := []
  tx := .idle
  quiet := 0
  backoff := none
  slot := none
  readyTimer := none
  readyLatch := false
  jabber := none
  keyDown := none
  airFrame := []
  aborting := false
  rx := .hunt
  escape := false
  latch := false
  body := []
  queue := []
  lfsr := lfsrSeed st.stationId st.feeder
  reportsLost := 0
  framesSent := 0
  attemptsFailed := 0
  framesAccepted := 0
  checkFailures := 0
  receiveAborts := 0
  receiveOverruns := 0
  carr := carr
  rrdy := rrdy

/-- The PRU after a cold start and after a settings restart, other than its draws (R131). -/
def pruStart : Pru where
  nextSeq := 0
  lastEvent := 0
  beacon := none
  pace := none
  peers := List.replicate 16 none
  reportsRefused := 0
  duplicates := 0
  framesUnentered := 0

/-- The TGU after a cold start with the keys and the handle at the given levels, the tag store not yet read (R162). -/
def tguStart (keys : Keys) (handleDown : Bool) : Tgu where
  decoder := .wait
  line := .space 0
  bits := []
  wandRejects := 0
  window := none
  errorTone := none
  toneOn := false
  tonePhase := none
  keys := keys
  handleDown := handleDown
  tags := []
  overflow := none
  writing := false
  writeAgain := false
  writeImage := []
  storeFault := false

/-- The RCS after a cold start (R169). -/
def rcsStart : Rcs := { ring := [], next := 0, unread := 0 }

/-- The SVP at the beginning of a cold start, with some settings in force (R182). -/
def svpStart (st : Settings) (fromImage : Bool) (fault : Option SettingsFault) : Svp where
  rx := .hunt
  buffer := []
  gap := none
  service := .starting
  discarded := 0
  badRequests := 0
  response := []
  settings := st
  fromImage := fromImage
  faultReason := fault
  link := .free
  linkTimer := none
  readWaits := false
  startSent := []

/-- An input that stands at a level, its debounced state with it (R66, R84, R162). -/
def InputLine.steady (level : Bool) : InputLine := { level := level, count := none }

/-- The debounced inputs at a start, each debounced state taken at once from its level (R66, R84, R162). -/
def inputsStart (i : InputLevels) : Inputs where
  posc := .steady i.closedMade
  poso := .steady i.openMade
  acp := .steady i.acPresent
  tripKey := .steady i.tripKey
  closeKey := .steady i.closeKey
  tagOnKey := .steady i.tagOnKey
  tagOffKey := .steady i.tagOffKey
  batteryKey := .steady i.batteryKey
  hndl := .steady i.handleDown

/-- Every input idle: contacts open, AC absent, keys released, handle up, no carrier, radio not ready (log 1). -/
def idleLevels : InputLevels where
  closedMade := false
  openMade := false
  acPresent := false
  handleDown := false
  tripKey := false
  closeKey := false
  tagOnKey := false
  tagOffKey := false
  batteryKey := false
  carrier := false
  radioReady := false

/-- All keys released. -/
def keysReleased : Keys := { trip := false, close := false, tagOn := false, tagOff := false, battery := false }

end Sys2Proof.Machine
end

