-- ==== Sys2Proof/Machine/State.lean ====
section
/-! DEFINITION. The state of the station as plain data, the state after reset, the reasons a step could stop, and the block
updates that every operation is written with. -/

namespace Sys2Proof.Machine

/-- The state of the station: station time, the ten blocks, the debounced inputs as they stand (R62, R67, R149, R151), the counter of
free values (log 13) and the queue of waiting commands. -/
structure State where
  now : Word32
  mfp : Mfp
  ocu : Ocu
  sqc : Sqc
  cdu : Cdu
  btu : Btu
  chc : Chc
  pru : Pru
  tgu : Tgu
  rcs : Rcs
  svp : Svp
  inputs : Inputs
  free : Nat
  pending : List Instr
  deriving DecidableEq, Repr

/-- The reasons the machine could stop with a fault. There are none: the manual names no event that stops the part, and no
command of the model raises a fault (log 28). Safe. -/
inductive Fault where
  deriving DecidableEq, Repr

/-- The reasons a command could be refused. -/
inductive Refusal where
  /-- A command whose meaning is not written yet; exec's own arm would raise it, and none does (log 28). Safe. -/
  | notModelled (mnemonic : String)
  deriving DecidableEq, Repr

/-- The station held in power-on reset, before COLD_START: station time 0, every block at the values its chapter gives for
a start, under the built-in defaults and with every input idle; SVP STARTING; no command waiting (R179; log 1). -/
def State.reset : State where
  now := 0
  mfp := mfpStart
  ocu := ocuStart
  sqc := sqcStart false false defaultSettings.resetTime
  cdu := cduStart false false
  btu := btuStart false defaultSettings
  chc := chcStart defaultSettings false false
  pru := pruStart
  tgu := tguStart keysReleased false
  rcs := rcsStart
  svp := svpStart defaultSettings false none
  inputs := inputsStart idleLevels
  free := 0
  pending := []

/-! ### Block updates -/

/-- Update the MFP. -/
def State.withMfp (s : State) (f : Mfp → Mfp) : State := { s with mfp := f s.mfp }

/-- Update the OCU. -/
def State.withOcu (s : State) (f : Ocu → Ocu) : State := { s with ocu := f s.ocu }

/-- Update the SQC. -/
def State.withSqc (s : State) (f : Sqc → Sqc) : State := { s with sqc := f s.sqc }

/-- Update the CDU. -/
def State.withCdu (s : State) (f : Cdu → Cdu) : State := { s with cdu := f s.cdu }

/-- Update the BTU. -/
def State.withBtu (s : State) (f : Btu → Btu) : State := { s with btu := f s.btu }

/-- Update the CHC. -/
def State.withChc (s : State) (f : Chc → Chc) : State := { s with chc := f s.chc }

/-- Update the PRU. -/
def State.withPru (s : State) (f : Pru → Pru) : State := { s with pru := f s.pru }

/-- Update the TGU. -/
def State.withTgu (s : State) (f : Tgu → Tgu) : State := { s with tgu := f s.tgu }

/-- Update the RCS. -/
def State.withRcs (s : State) (f : Rcs → Rcs) : State := { s with rcs := f s.rcs }

/-- Update the SVP. -/
def State.withSvp (s : State) (f : Svp → Svp) : State := { s with svp := f s.svp }

/-- Update the debounced inputs. -/
def State.withInputs (s : State) (f : Inputs → Inputs) : State := { s with inputs := f s.inputs }

end Sys2Proof.Machine
end

