-- ==== Sys2Proof/Machine/Ops.lean ====
section
/-! DEFINITION. The operations that every block shares: timers, saturating counts, the writing of a record, a draw from the
LFSR, and the guard that holds every command back until COLD_START has run. -/

namespace Sys2Proof.Machine

/-! ### Timers and counts -/

/-- A timer is due when it runs and has no time left (log 4). -/
def due (t : Timer) : Bool := t == some 0

/-- One millisecond off a running timer (00, Time). -/
def tickTimer (t : Timer) : Timer := t.map (· - 1)

/-- A count that rises by `by_` and saturates at `limit` (00, Arithmetic). -/
def satAdd (limit n by_ : Nat) : Nat := min limit (n + by_)

/-- A 16-bit counter one up, saturating (R3, R109, R123). -/
def count16 (n : Nat) : Nat := satAdd 65535 n 1

/-- An 8-bit counter one up, saturating (R93). -/
def count8 (n : Nat) : Nat := satAdd 255 n 1

/-! ### The station -/

/-- The settings in force (R177). -/
def State.cfg (s : State) : Settings := s.svp.settings

/-- Whether the cold start order has run: the service state leaves STARTING at its step 7 (R179, R182). -/
def State.started (s : State) : Bool := s.svp.service != .starting

/-- What a command does once the station has started; until COLD_START has run, every other command is discarded
(R111, R170, R179; log 2). -/
def State.whenStarted (s : State) (f : State → State) : State := if s.started then f s else s

/-- Apply an effect only when a condition holds; an event whose condition does not hold has no effect (log 4). -/
def State.onlyIf (s : State) (c : Bool) (f : State → State) : State := if c then f s else s

/-! ### The memory link (R160, R175) -/

/-- The last byte of the write on the link has gone: no more than its 20 ms are left (R160, R175). -/
def Svp.lastByteGone (v : Svp) : Bool := v.linkTimer.any fun left => decide (left ≤ 20)

/-! ### Records (R163, R166) -/

/-- The RCS writes a record: it takes the next number and the station time, goes to the newest end of the ring, pushes out
the oldest of 64, and raises the unread count, which saturates at 64 (R163, R166). -/
def State.record (s : State) (body : RecordBody) : State :=
  s.withRcs fun r =>
    { ring := (r.ring ++ [(⟨r.next, s.now, body⟩ : EventRecord)]).drop (r.ring.length + 1 - 64)
      next := r.next + 1
      unread := satAdd 64 r.unread 1 }

/-! ### Draws (R89) -/

/-- One advance of the LFSR (R89). -/
def State.advanceLfsr (s : State) : State := s.withChc fun c => { c with lfsr := lfsrAdvance c.lfsr }

/-- The value that the next draw hands out; a draw is `advanceLfsr` and then the register (R89). -/
def State.drawn (s : State) : Nat := (lfsrAdvance s.chc.lfsr).toNat

end Sys2Proof.Machine
end

