-- ==== Sys2Proof/Machine/Flags.lean ====
section
/-! DEFINITION. The judgements that blocks read from one another at their own decisions, and the output lines as views of the
state (the "Gates" of 00_scope.md; R5, R25, R33, R40, R51, R69, R78, R94, R95, R102, R148, R158, R167, R180). -/

namespace Sys2Proof.Machine

/-! ### Gates between blocks -/

/-- Tag in force: the tag table is not empty or the overflow flag is set (R158). -/
def State.tagInForce (s : State) : Bool := !s.tgu.tags.isEmpty || s.tgu.overflow.isSome

/-- Measurement good: stalled and measurement lost are both clear (R5). -/
def State.measurementGood (s : State) : Bool := !s.mfp.stalled && !s.mfp.lost

/-- The breaker position, formed from the two contacts (R62). -/
def State.position (s : State) : Position := positionOf s.cdu.closedMade s.cdu.openMade

/-- READY and RESET_TIMING are the closed states (2.1). -/
def SeqState.isClosed : SeqState → Bool
  | .ready => true
  | .resetTiming => true
  | _ => false

/-- Start hold is on while its timer runs (R46). -/
def State.startHoldOn (s : State) : Bool := s.sqc.startHold.isSome

/-- No pulse is in progress (R54). -/
def State.noPulse (s : State) : Bool := s.cdu.pulse == .none

/-- The reserve state is NORMAL or RESERVE (R33, R40, R51, R94). -/
def State.reserveHolds (s : State) : Bool := s.btu.reserve == .normal || s.btu.reserve == .reserve

/-- Some element is PICKED (R12, R78). -/
def State.anyPicked (s : State) : Bool := (s.ocu.elems.map (·.picked)).anySet

/-- What the OCU holds for a kind (7.1). -/
def Ocu.kind (o : Ocu) : Kind → KindState
  | .phase => o.phase
  | .ground => o.ground

/-- Update what the OCU holds for a kind. -/
def Ocu.withKind (o : Ocu) (k : Kind) (f : KindState → KindState) : Ocu :=
  match k with
  | .phase => { o with phase := f o.phase }
  | .ground => { o with ground := f o.ground }

/-- Whether a kind's hold record is empty (R16, R132). -/
def Ocu.unheld (o : Ocu) (k : Kind) : Bool := (o.kind k).hold.isNone

/-- One value for each kind, spread over the elements: the phase value for A, B and C, the ground value for G (1.3). -/
def spread {α : Type} (phase ground : α) : PerElem α := { a := phase, b := phase, c := phase, g := ground }

/-- Trip charging is permitted (R51), in every reserve state but DISCONNECT (R31). -/
def State.tripChargePermitted (s : State) : Bool :=
  s.cdu.pulse != .trip && !s.mfp.stalled && s.btu.reserve != .disconnect

/-- Close charging is permitted (R51). -/
def State.closeChargePermitted (s : State) : Bool :=
  s.reserveHolds && s.cdu.pulse != .close && !s.mfp.stalled && !s.cdu.closeBarred

/-- The target setpoint: Vf + 120 in BOOST, Vf in FLOAT and OFF (R69). -/
def Btu.target (b : Btu) : Nat := if b.charger == .boost then b.vf + 120 else b.vf

/-- The start conditions of a battery test (R78). -/
def State.testConditions (s : State) : Bool :=
  s.btu.acPresent && s.btu.reserve == .normal && s.sqc.seq == .ready && !s.anyPicked && s.cdu.tripReady &&
    s.cdu.closeReady && s.noPulse

/-- The conditions under which a scheduled test is asked for (R77). -/
def State.scheduleConditions (s : State) : Bool :=
  s.btu.scheduleDue && s.btu.reserve == .normal && s.btu.charger == .float

/-- The conditions of a settings restart (R180). -/
def State.restartConditions (s : State) : Bool :=
  s.sqc.seq == .lockout && s.noPulse && (s.btu.test == .idle || s.btu.test == .pending)

/-! ### The channel -/

/-- An entry is servable: Fault or Crew, or Status while the reserve state is NORMAL or RESERVE and shutdown pending is
clear (R94). -/
def State.servable (s : State) (e : TxEntry) : Bool :=
  e.kind.cls != .status || (s.reserveHolds && !s.btu.shutdownPending)

/-- The first servable entry in queue order, the front part before the Status part (R90, R94). -/
def State.firstServable (s : State) : Option TxEntry := (s.chc.front ++ s.chc.status).find? s.servable

/-- The entry in service (R90). -/
def Chc.inService (c : Chc) : Option TxEntry := (c.front ++ c.status).find? (·.inService)

/-- The number of entries in the transmit queue (R90). -/
def Chc.queued (c : Chc) : Nat := c.front.length + c.status.length

/-- The channel is busy while CARR is present or the receiver is out of HUNT (R95). -/
def State.channelBusy (s : State) : Bool := s.chc.carr || s.chc.rx != .hunt

/-- KEY is asserted in KEY_UP, SENDING and KEY_DOWN (R94). -/
def TxState.keyed : TxState → Bool
  | .keyUp => true
  | .sending => true
  | .keyDown => true
  | _ => false

/-- The receiver is deaf while KEY is asserted (R102). -/
def State.deaf (s : State) : Bool := s.chc.tx.keyed

/-- The beacon interval in force, in milliseconds: B in NORMAL, 4 × B in RESERVE, none otherwise (R119). -/
def State.beaconIntervalInForce (s : State) : Option Nat :=
  match s.btu.reserve with
  | .normal => some s.cfg.beaconMs
  | .reserve => some (4 * s.cfg.beaconMs)
  | _ => none

/-! ### Output lines (log 21) -/

/-- The output lines of the terminal summary (00). The lines that carry words or bytes show the word or the bytes going
out. -/
structure Pins where
  key : Bool
  ftxd : List Byte
  trpd : Bool
  clsd : Bool
  tcen : Bool
  ccen : Bool
  tone : Bool
  ltag : Bool
  lbat : Bool
  llko : Bool
  chen : Bool
  chbs : Bool
  chsd : Option Nat
  tlod : Bool
  bcon : Bool
  stxd : List Byte
  attn : Bool
  nvcs : Bool
  nvdo : List Byte
  deriving DecidableEq, Repr

/-- ATTN is active while the unread count is at or above the attention level (R167). -/
def State.attention (s : State) : Bool := decide (s.cfg.attention ≤ s.rcs.unread)

/-- TONE: on continuously under the error tone, else in the on phase of an open crew window (R148). -/
def State.tone (s : State) : Bool := s.tgu.errorTone.isSome || (s.tgu.window.isSome && s.tgu.toneOn)

/-- The bytes on FTXD: the frame in SENDING, or what of it was sent and the two abort bytes; at rest otherwise (R85, R99). -/
def State.ftxd (s : State) : List Byte :=
  if s.chc.tx == .sending then s.chc.airFrame ++ (if s.chc.aborting then [0xA5#8, 0xA5#8] else []) else []

/-- The bytes on NVDO during a transaction: the read command 0x03 with the address 0x0000 of the settings image, or the write
command 0x02 with the address 0x0400 of the tag store, the image and, from its last byte on, a status read 0x05, which is
repeated to the end of the transaction (R160, R175). After COLD_START the bytes of its two reads show for a millisecond
(log 10). -/
def State.nvdo (s : State) : List Byte :=
  match s.svp.link with
  | .free => s.svp.startSent
  | .read => [0x03#8, 0x00#8, 0x00#8]
  | .image => [0x03#8, 0x00#8, 0x00#8]
  | .write => [0x02#8, 0x04#8, 0x00#8] ++ s.tgu.writeImage ++ (if s.svp.lastByteGone then [0x05#8] else [])

/-- Every output line (R25, R51, R54, R69, R75, R79, R81, R94, R148, R158, R167). After the release of the contactor the test
load and the charger lines are off, CHSD with its word counted among them (R75; log 21); before the cold start has set up the
SQC every lamp is off (R179). -/
def State.pins (s : State) : Pins where
  key := s.chc.tx.keyed
  ftxd := s.ftxd
  trpd := s.cdu.pulse == .trip
  clsd := s.cdu.pulse == .close
  tcen := s.cdu.tcen
  ccen := s.cdu.ccen
  tone := s.tone
  ltag := s.tagInForce
  lbat := s.btu.failed
  llko := s.started && (s.sqc.seq == .lockout || s.sqc.seq == .breakerFail)
  chen := s.btu.charger != .off && s.btu.reserve != .disconnect
  chbs := s.btu.charger == .boost && s.btu.reserve != .disconnect
  chsd := if s.btu.reserve == .disconnect then none else s.btu.sending
  tlod := s.btu.test == .loaded && s.btu.reserve != .disconnect
  bcon := s.btu.reserve != .disconnect
  stxd := if s.svp.service == .answering then s.svp.response else []
  attn := s.attention
  nvcs := s.svp.link != .free
  nvdo := s.nvdo

end Sys2Proof.Machine
end

