-- ==== Sys2Proof/Machine/Channel.lean ====
section
/-! DEFINITION. The transmit side of the CHC: the transmit queue, channel access, failed attempts, the channel reset and the
radio frame (R86, R90 to R101). -/

namespace Sys2Proof.Machine

/-- The first entry of a list that a test picks leaves it. -/
def removeFirst {α : Type} (p : α → Bool) (l : List α) : List α := l.eraseP p

/-- The last entry of a list that a test picks leaves it. -/
def removeLast {α : Type} (p : α → Bool) (l : List α) : List α := (l.reverse.eraseP p).reverse

/-! ### Channel access (R94 to R96) -/

/-- Enter DEFER with the quiet count at 0 (R95). A kept backoff count stays; the slot in progress is not counted (R96). -/
def State.enterDefer (s : State) : State := s.withChc fun c => { c with tx := .defer, quiet := 0, slot := none }

/-- Enter IDLE: no backoff count is kept (R94, R96). -/
def State.enterIdle (s : State) : State :=
  s.withChc fun c => { c with tx := .idle, quiet := 0, backoff := none, slot := none }

/-- Where the transmitter goes when it is free: DEFER if a servable entry exists, IDLE otherwise (R94, R97, R100). -/
def State.deferOrIdle (s : State) : State := if s.firstServable.isSome then s.enterDefer else s.enterIdle

/-- A Fault or Crew entry is first while a count drawn for the window 16 runs or is kept: draw at once with the window 4 and
keep the smaller count (R96). -/
def State.redraw (s : State) (e : TxEntry) : State :=
  match s.chc.backoff with
  | some b =>
    if e.kind.cls != .status && b.window == 16 then
      s.advanceLfsr.withChc fun c => { c with backoff := some { count := min b.count (s.drawn % 4), window := 4 } }
    else s
  | none => s

/-- The transmitter looks at its queue again after the queue, the reserve state or shutdown pending has changed: IDLE is left
for DEFER when a servable entry exists, DEFER and BACKOFF are left for IDLE when none does, and a kept or running count may
be drawn again (R94, R96). -/
def State.settleTransmitter (s : State) : State :=
  match s.chc.tx, s.firstServable with
  | .idle, some _ => s.enterDefer
  | .defer, none => s.enterIdle
  | .backoff, none => s.enterIdle
  | .defer, some e => s.redraw e
  | .backoff, some e => s.redraw e
  | _, _ => s

/-- The channel has become busy: the quiet count returns to 0 in DEFER, and BACKOFF returns to DEFER with its count kept; a
quiet channel changes nothing (R95, R96). -/
def State.judgeBusy (s : State) : State :=
  if s.channelBusy && (s.chc.tx == .defer || s.chc.tx == .backoff) then s.enterDefer else s

/-! ### The transmit queue (R90 to R93) -/

/-- One report is given up (R93). -/
def State.loseReport (s : State) : State := s.withChc fun c => { c with reportsLost := count8 c.reportsLost }

/-- An entry joins at the tail of its part (R90). -/
def State.joinQueue (s : State) (e : TxEntry) : State :=
  if e.kind.cls == .status then s.withChc fun c => { c with status := c.status ++ [e] }
  else s.withChc fun c => { c with front := c.front ++ [e] }

/-- A new report as an entry: 3 copies for Fault and Crew, 1 for Status (R91). -/
def newEntry (kind : ReportKind) (seq : Byte) (payload : List Byte) : TxEntry :=
  { kind := kind, seq := seq, payload := payload, copies := if kind.cls == .status then 1 else 3, attempts := 0,
    inService := false }

/-- The queued BEACON takes the new report's sequence and payload in its own place (R91). -/
def supersede (seq : Byte) (payload : List Byte) (e : TxEntry) : TxEntry :=
  if e.kind == .beacon then { e with seq := seq, payload := payload, copies := 1, attempts := 0 } else e

/-- The CHC takes a report that the PRU hands over, case by case in the order of R91's table. -/
def State.takeReport (s : State) (kind : ReportKind) (seq : Byte) (payload : List Byte) : State :=
  let e := newEntry kind seq payload
  if s.cfg.stationId = 0 then s
  else if kind == .beacon && s.chc.status.any (fun x => x.kind == .beacon && !x.inService) then
    s.withChc fun c => { c with status := c.status.map (supersede seq payload) }
  else if kind == .beacon && s.chc.status.any (fun x => x.kind == .beacon) then s
  else if s.chc.queued < 8 then (s.joinQueue e).settleTransmitter
  else if kind.cls != .status && s.chc.status.any (fun x => !x.inService) then
    ((s.withChc fun c => { c with status := removeLast (fun x => !x.inService) c.status }).loseReport.joinQueue
      e).settleTransmitter
  else s.loseReport

/-- The drop order: every Status entry that is not in service leaves at once, each a report lost (R93). -/
def State.dropStatus (s : State) : State :=
  (s.withChc fun c =>
    { c with
      status := c.status.filter (·.inService)
      reportsLost := satAdd 255 c.reportsLost (c.status.filter (fun e => !e.inService)).length }).settleTransmitter

/-- The entry in service leaves the queue. -/
def State.dropInService (s : State) : State :=
  s.withChc fun c =>
    { c with front := c.front.filter (fun e => !e.inService), status := c.status.filter (fun e => !e.inService) }

/-- Change the entry in service, at its place (R90). -/
def State.changeInService (s : State) (f : TxEntry → TxEntry) : State :=
  s.withChc fun c =>
    { c with
      front := c.front.map fun e => if e.inService then f e else e
      status := c.status.map fun e => if e.inService then f e else e }

/-! ### Attempts, copies, reset (R92, R98, R100, R101) -/

/-- A failed attempt: attempts rise, the in-service flag clears and attempts failed rises; the third failure drops the entry
with a RADIO_NOT_READY record (R98), and a Status entry that was in service at the drop order leaves now (R93). -/
def State.failAttempt (s : State) (cause : AttemptCause) : State :=
  match s.chc.inService with
  | none => s
  | some e =>
    let counted := s.withChc fun c => { c with attemptsFailed := count16 c.attemptsFailed }
    if e.attempts + 1 ≥ 3 then
      counted.dropInService.loseReport.record { kind := .radioNotReady, reason := some cause.reason }
    else if e.kind.cls == .status && s.btu.shutdownPending then counted.dropInService.loseReport
    else counted.changeInService fun x => { x with attempts := x.attempts + 1, inService := false }

/-- A copy is sent: copies remaining falls, frames sent rises, and the entry rejoins at the tail of its part with attempts 0
or leaves the queue (R92). -/
def State.countCopy (s : State) : State :=
  match s.chc.inService with
  | none => s
  | some e =>
    let counted := s.dropInService.withChc fun c => { c with framesSent := count16 c.framesSent }
    if e.copies ≤ 1 then counted
    else counted.joinQueue { e with copies := e.copies - 1, attempts := 0, inService := false }

/-- Enter KEY_DOWN: the jabber timer stops and the key-down timer starts at 10 ms (R100). -/
def State.enterKeyDown (s : State) : State :=
  s.withChc fun c => { c with tx := .keyDown, jabber := none, keyDown := some 10, airFrame := [], aborting := false }

/-- KEY is released: the transmit timers are idle and the ready latch is clear (R97, R99, R100, R101). -/
def State.releaseKey (s : State) : State :=
  s.withChc fun c =>
    { c with readyTimer := none, jabber := none, keyDown := none, readyLatch := false, airFrame := [], aborting := false }

/-- The channel reset that jabber makes: the entry in service is lost with all its copies, a CHANNEL_FAULT record is made, and
the transmitter starts again from IDLE (R101). -/
def State.channelReset (s : State) : State :=
  ((s.dropInService.loseReport.releaseKey.record { kind := .channelFault, reason := some .jabber }).enterIdle).settleTransmitter

/-! ### The radio frame (R86, R87) -/

/-- The unescaped body of an entry: header, payload and check, with the identity of the settings in force (R86). -/
def Settings.radioBody (st : Settings) (e : TxEntry) : List Byte :=
  let head := beBytes 1 st.feeder ++ beBytes 1 st.stationId ++ beBytes 1 st.position ++ beBytes 1 e.kind.code ++ [e.seq] ++
    beBytes 1 e.payload.length ++ e.payload
  head ++ beBytes 2 (crc16 head).toNat

/-- Enter SENDING: the radio frame is built from the entry in service and the jabber timer starts at 250 ms; with the
latch-ready setting on the ready latch is set (R97, R99). -/
def State.enterSending (s : State) : State :=
  match s.chc.inService with
  | none => s.releaseKey.deferOrIdle
  | some e =>
    s.withChc fun c =>
      { c with
        tx := .sending
        readyTimer := none
        readyLatch := s.cfg.latchReady
        jabber := some 250
        airFrame := airBytes (s.cfg.radioBody e)
        aborting := false }

/-- The READY test before each byte: RRDY with latch-ready off, the ready latch with it on (R99). -/
def State.readyTest (s : State) : Bool := if s.cfg.latchReady then s.chc.readyLatch else s.chc.rrdy

end Sys2Proof.Machine
end

