-- ==== Sys2Proof/Machine/Reports.lean ====
section
/-! DEFINITION. The building side of the PRU: report sequences, the eight reports and their payloads, and the beacon timer
(R112 to R121). -/

namespace Sys2Proof.Machine

/-- Build a report: it takes the next sequence, sets the last event sequence unless it is a Status report, and goes to the CHC
at once (R112, R113). -/
def State.buildReport (s : State) (kind : ReportKind) (payload : List Byte) : State :=
  let seq := s.pru.nextSeq
  (s.withPru fun p =>
    { p with nextSeq := p.nextSeq + 1, lastEvent := if kind.cls == .status then p.lastEvent else seq }).takeReport
      kind seq payload

/-! ### The event reports (R114 to R117, R121) -/

/-- A first pickup notice: a PICKUP report if send-pickup is on and no tag is in force (R114). -/
def State.buildPickup (s : State) (elements : ElementSet) (largest : Nat) : State :=
  s.onlyIf (s.cfg.sendPickup && !s.tagInForce) fun s =>
    s.buildReport .pickup (beBytes 1 elements.code ++ beBytes 2 largest ++ beBytes 1 s.sqc.shots)

/-- A Trip notice of the current trip: a TRIP report, its final reason from the SQC and its run from the OCU, 0 for an
operator trip (R115). -/
def State.buildTrip (s : State) (t : CurrentTrip) (failed : Bool) : State :=
  s.buildReport .trip
    (beBytes 1 t.cause.code ++ beBytes 1 t.elements.code ++ beBytes 2 t.peak ++ beBytes 1 t.number ++
      beBytes 1 (bit 0 t.finalReason.isSome + bit 1 failed) ++
      beBytes 1 ((t.finalReason.map LockReason.code).getD 0) ++
      beBytes 2 (if t.cause == .operator then 0 else s.ocu.longestRun))

/-- A Clear notice: a CLEAR report (R116). -/
def State.buildClear (s : State) (elements : ElementSet) (stepped : Bool) : State :=
  s.buildReport .clear (beBytes 1 elements.code ++ beBytes 1 (bit 0 stepped))

/-- A Lockout notice with a reason and the present s: a LOCKOUT report (R116). -/
def State.buildLockout (s : State) (reason : LockReason) : State :=
  s.buildReport .lockout (beBytes 1 reason.code ++ beBytes 1 s.sqc.shots)

/-- A Tag notice: a TAG report (R117). -/
def State.buildTag (s : State) (code : Word16) : State := s.buildReport .tag (beBytes 2 code.toNat)

/-- An Untag notice: an UNTAG report (R117). -/
def State.buildUntag (s : State) (code : Word16) : State := s.buildReport .untag (beBytes 2 code.toNat)

/-- The Shutdown notice: a SHUTDOWN report (R117). -/
def State.buildShutdown (s : State) : State := s.buildReport .shutdown (beBytes 2 s.btu.battV)

/-! ### Beacons (R118 to R120) -/

/-- The station's own tags as a BEACON lists them: the local entries, oldest applied first; a STORE entry has code 0
(R118, R152). -/
def State.localCodes (s : State) : List Word16 := (s.tgu.tags.filter (·.source.isLocal)).map (·.code)

/-- The flags of a BEACON (R118, R121). -/
def State.beaconFlags (s : State) : Nat :=
  bit 0 s.mfp.lost + bit 1 s.startHoldOn + bit 2 s.btu.failed + bit 3 s.tgu.storeFault + bit 4 s.tgu.overflow.isSome

/-- The payload of a BEACON, taken at the moment of building (R118, R121). -/
def State.beaconPayload (s : State) : List Byte :=
  beBytes 1 s.sqc.seq.code ++ beBytes 1 s.sqc.shots ++ beBytes 1 s.position.beaconCode ++ beBytes 1 s.btu.reserve.code ++
    beBytes 1 s.beaconFlags ++ beBytes 1 s.chc.reportsLost ++ [s.pru.lastEvent] ++ beBytes 1 s.localCodes.length ++
    s.localCodes.flatMap fun c => beBytes 2 c.toNat

/-- Build a BEACON (R118). -/
def State.buildBeacon (s : State) : State := s.buildReport .beacon s.beaconPayload

/-- The beacon timer becomes idle (R120). -/
def State.stopBeacon (s : State) : State := s.withPru fun p => { p with beacon := none }

/-- The beacon timer reloads: the present moment as reference, the interval in force as span (R119). -/
def State.reloadBeacon (s : State) : State :=
  s.withPru fun p =>
    { p with beacon := s.beaconIntervalInForce.map fun i => { reference := s.now, span := i, drawn := false } }

/-- An expiry of the beacon timer: a BEACON is built and the timer reloads (R119). -/
def State.expireBeacon (s : State) : State := s.buildBeacon.reloadBeacon

/-- The beacon delay draw: the draw is made in every case, and its value sets a first span of floor(v × I / 65536) unless the
reserve state is CRITICAL or shutdown pending is set, when the timer stays idle (R119). -/
def State.drawBeaconDelay (s : State) : State :=
  s.advanceLfsr.withPru fun p =>
    { p with
      beacon :=
        if s.btu.shutdownPending then none
        else s.beaconIntervalInForce.map fun i => { reference := s.now, span := s.drawn * i / 65536, drawn := true } }

/-- Whether the beacon timer has run its span (R119). -/
def State.beaconDue (s : State) : Bool :=
  match s.pru.beacon with
  | some t => decide (t.span ≤ elapsed s.now t.reference)
  | none => false

/-- A span that is an interval takes the new interval in force, its reference kept, and expires at once if it has passed; a
drawn delay is unchanged (R120). -/
def State.respanBeacon (s : State) : State :=
  match s.pru.beacon, s.beaconIntervalInForce with
  | some t, some i =>
    if t.drawn then s
    else
      let spanned := s.withPru fun p => { p with beacon := some { t with span := i } }
      spanned.onlyIf spanned.beaconDue State.expireBeacon
  | _, _ => s

/-- The beacon timer follows a change of the reserve state, which already holds its new value (R120). -/
def State.followReserve (s : State) (old : Reserve) : State :=
  if s.btu.shutdownPending then s.stopBeacon
  else
    match s.btu.reserve with
    | .critical => s.stopBeacon
    | .disconnect => s.stopBeacon
    | .normal => if old == .critical then s.drawBeaconDelay else s.respanBeacon
    | .reserve => if old == .critical then s.drawBeaconDelay else s.respanBeacon

/-- The sequence draw: the next sequence is the drawn value modulo 256, the last event sequence one less (R113). -/
def State.drawSequence (s : State) : State :=
  s.advanceLfsr.withPru fun p =>
    { p with nextSeq := BitVec.ofNat 8 s.drawn, lastEvent := BitVec.ofNat 8 s.drawn - 1 }

end Sys2Proof.Machine
end

