-- ==== Sys2Proof/Machine/Battery.lean ====
section
/-! DEFINITION. The parts of the BTU that other blocks reach: the charger and its setpoint, and the battery test from its
request to its result (R68 to R71, R76 to R83). -/

namespace Sys2Proof.Machine

/-! ### Charger (R68, R69) -/

/-- The float setpoint from the temperature: 2700 − trunc(36 × (T_half − 50) / 20), clamped to 2520..2880 (R68). -/
def floatSetpoint (temperature : Int) : Nat :=
  (max 2520 (min 2880 (2700 - Int.tdiv (36 * (temperature - 50)) 20))).toNat

/-- Whenever the target setpoint differs from the setpoint sent and no word is on its way, a word is sent (R69). -/
def State.sendSetpoint (s : State) : State :=
  s.onlyIf (s.btu.sending.isNone && s.btu.target != s.btu.setpointSent) fun s =>
    s.withBtu fun b => { b with sending := some b.target }

/-- The charger mode changes, and with it the target setpoint (R69). -/
def State.setCharger (s : State) (mode : Charger) : State := (s.withBtu fun b => { b with charger := mode }).sendSetpoint

/-- The end of a boost: FLOAT, both timers idle (R71). -/
def State.endBoost (s : State) : State :=
  (s.withBtu fun b => { b with taper := none, boostLimit := none }).setCharger .float

/-! ### Requests (R76) -/

/-- A source joins the request sources (R76). -/
def TestSources.add (t : TestSources) : TestSource → TestSources
  | .panel => { t with panel := true }
  | .service => { t with service := true }
  | .schedule => { t with schedule := true }

/-- A test request: IDLE goes to PENDING, where the start conditions are tested at once; in the other states the source
merges (R76, R78). -/
def State.requestTest (s : State) (source : TestSource) : State :=
  s.withBtu fun b =>
    if b.test == .idle then { b with test := .pending, sources := noSources.add source, testMoment := true }
    else { b with sources := b.sources.add source }

/-! ### Results (R81 to R83) -/

/-- The handling that every result shares: the BATTERY_TEST record, the last result, the schedule timer, the charger mode and
the test state after it (R83). -/
def State.handleResult (s : State) (result : TestResult) (resistance : Option Nat) (cause : Option AbandonCause) : State :=
  let recorded := s.record
    { kind := .batteryTest
      outcome := some { result := result, sources := s.btu.sources }
      reason := cause.map AbandonCause.reason
      v0 := s.btu.v0
      v1 := s.btu.v1
      i1 := s.btu.i1
      resistance := resistance }
  let kept := recorded.withBtu fun b =>
    { b with
      lastResult := some result
      lastResistance := resistance
      settle := none
      load := none
      schedule := scheduleStart s.cfg
      test := if result == .abandoned then .pending else .idle
      sources := if result == .abandoned then b.sources else noSources
      testMoment := if result == .abandoned then true else b.testMoment }
  kept.onlyIf s.btu.acPresent fun k => k.setCharger (if k.btu.resumeBoost then .boost else .float)

/-- A test in SETTLE or LOADED is abandoned; in IDLE and PENDING there is nothing to abandon (R82). -/
def State.abandonTest (s : State) (cause : AbandonCause) : State :=
  s.onlyIf (s.btu.test == .settle || s.btu.test == .loaded) fun s => s.handleResult .abandoned none (some cause)

/-- The resistance of a test, none when the load drew no current (R81). -/
def testResistance (v0 v1 : Nat) (i1 : Int) : Option Nat :=
  if i1 < 1 then none else some (min 65535 ((v0 - v1) * 1000 / i1.toNat))

/-- The result of a test against the resistance limit (R81). -/
def testVerdict (limit v1 : Nat) (resistance : Option Nat) : TestResult :=
  match resistance with
  | some r => if r ≤ limit ∧ 2280 ≤ v1 then .pass else .fail
  | none => .fail

/-- I1, the negation of the battery I last delivered; for −32768, whose negation lies outside I1's 16-bit format, the free
value of Config (R80; log 13). -/
def State.loadCurrent (s : State) : Int :=
  if s.btu.battI = -32768 then (Config.freeI1 s.free).toInt else -s.btu.battI

end Sys2Proof.Machine
end

