-- ==== Sys2Proof/Machine/Inputs.lean ====
section
/-! DEFINITION. The debounced inputs: the edge of an input, the count of the span that it holds its level, and the end of that span,
at which the debounced state follows (R62, R67, R149, R151). -/

namespace Sys2Proof.Machine

/-- The span that an input holds a new level before its debounced state follows, in milliseconds (R62, R67, R149, R151). -/
def InputPin.span : InputPin → Nat
  | .posc => 10
  | .poso => 10
  | .acp => 1000
  | .tripKey => 20
  | .closeKey => 20
  | .tagOnKey => 20
  | .tagOffKey => 20
  | .batteryKey => 20
  | .hndl => 50

/-- The input at a pin. -/
def Inputs.line (i : Inputs) : InputPin → InputLine
  | .posc => i.posc
  | .poso => i.poso
  | .acp => i.acp
  | .tripKey => i.tripKey
  | .closeKey => i.closeKey
  | .tagOnKey => i.tagOnKey
  | .tagOffKey => i.tagOffKey
  | .batteryKey => i.batteryKey
  | .hndl => i.hndl

/-- Put the input at a pin. -/
def Inputs.put (i : Inputs) (pin : InputPin) (line : InputLine) : Inputs :=
  match pin with
  | .posc => { i with posc := line }
  | .poso => { i with poso := line }
  | .acp => { i with acp := line }
  | .tripKey => { i with tripKey := line }
  | .closeKey => { i with closeKey := line }
  | .tagOnKey => { i with tagOnKey := line }
  | .tagOffKey => { i with tagOffKey := line }
  | .batteryKey => { i with batteryKey := line }
  | .hndl => { i with hndl := line }

/-- One millisecond off the count of an input. -/
def InputLine.tick (l : InputLine) : InputLine := { l with count := tickTimer l.count }

/-- One millisecond off every count. -/
def Inputs.tick (i : Inputs) : Inputs where
  posc := i.posc.tick
  poso := i.poso.tick
  acp := i.acp.tick
  tripKey := i.tripKey.tick
  closeKey := i.closeKey.tick
  tagOnKey := i.tagOnKey.tick
  tagOffKey := i.tagOffKey.tick
  batteryKey := i.batteryKey.tick
  hndl := i.hndl.tick

/-- The debounced state of an input, in the block that holds it (R62, R67, R149, R151). -/
def State.debounced (s : State) : InputPin → Bool
  | .posc => s.cdu.closedMade
  | .poso => s.cdu.openMade
  | .acp => s.btu.acPresent
  | .tripKey => s.tgu.keys.trip
  | .closeKey => s.tgu.keys.close
  | .tagOnKey => s.tgu.keys.tagOn
  | .tagOffKey => s.tgu.keys.tagOff
  | .batteryKey => s.tgu.keys.battery
  | .hndl => s.tgu.handleDown

/-- An input goes to a level: away from its debounced state its whole span begins; back at it the count is given up, so that it
starts anew with the next departure (R62, R67, R149, R151). An input that stands at the level already has no edge. -/
def State.inputGoes (s : State) (pin : InputPin) (level : Bool) : State :=
  s.onlyIf ((s.inputs.line pin).level != level) fun s =>
    s.withInputs fun i =>
      i.put pin { level := level, count := if level == s.debounced pin then none else some pin.span }

/-- Whether an input has held a level other than its debounced state for its whole span (R62, R67, R149, R151). -/
def State.inputHolds (s : State) (pin : InputPin) (level : Bool) : Bool :=
  (s.inputs.line pin).level == level && s.debounced pin != level && due (s.inputs.line pin).count

/-- The count of an input is over. -/
def State.endCount (s : State) (pin : InputPin) : State :=
  s.withInputs fun i => i.put pin { (i.line pin) with count := none }

/-- A command of a debounced input: at an edge the count follows; where the input has held the level for its span, the count ends and
the debounced state changes, with what follows from it. -/
def State.debounce (s : State) (pin : InputPin) (level : Bool) (moment : InputMoment) (change : State → State) : State :=
  match moment with
  | .edge => s.inputGoes pin level
  | .held => s.onlyIf (s.inputHolds pin level) fun s => change (s.endCount pin)

end Sys2Proof.Machine
end

