-- ==== Sys2Proof/Machine/Coils.lean ====
section
/-! DEFINITION. The CDU below the SQC: charge enables and the close charge attempt, the beginning and the end of pulses,
pre-emption, trip orders, attempt orders and withdrawals (R50 to R61). -/

namespace Sys2Proof.Machine

/-- The trip capacitor's fixed levels: ready at or above, charging stops at or above, charging resumes below (3.1). -/
def tripReadyLevel : Nat := 240
def tripStopLevel : Nat := 260
def tripResumeLevel : Nat := 250

/-- The close capacitor's fixed levels (3.1). -/
def closeReadyLevel : Nat := 360
def closeStopLevel : Nat := 380
def closeResumeLevel : Nat := 370

/-- A charge enable: off when charging is not permitted; else on below the resume level, off at or above the stop level, and
as it was between (R51). An enable that was off while charging was not permitted comes on at once below the resume level. -/
def chargeEnable (permitted was : Bool) (v resume stop : Nat) : Bool :=
  permitted && (decide (v < resume) || (was && decide (v < stop)))

/-- Both charge enables and the close charge attempt follow the permissions and the voltages: the attempt's timer runs exactly
while CCEN is on and the close capacitor is below 360, from 20,000 ms at the moment both hold (R51, R52). -/
def State.refreshCharge (s : State) : State :=
  let ccen := chargeEnable s.closeChargePermitted s.cdu.ccen s.cdu.closeV closeResumeLevel closeStopLevel
  s.withCdu fun c =>
    { c with
      tcen := chargeEnable s.tripChargePermitted c.tcen c.tripV tripResumeLevel tripStopLevel
      ccen := ccen
      closeCharge :=
        if ccen && decide (c.closeV < closeReadyLevel) then some (c.closeCharge.getD 20000) else none }

/-! ### Pulses (R54, R55, R60, R61) -/

/-- A trip pulse begins from the trip capacitor, which is then spent; the confirm window starts with it (R50, R54). -/
def State.beginTripPulse (s : State) (request : TripRequest) : State :=
  (s.withCdu fun c =>
    { c with
      pulse := .trip
      pulseTimer := some s.cfg.tripWidth
      tripWindow := some 100
      tripSpent := true
      tripReady := false
      tripOwed := false
      tripRequest := request
      tripWait := none
      retripWait := none }).refreshCharge

/-- A close pulse begins from the close capacitor, which is then spent; the confirm window starts with it (R50, R54, R60). DESIGN
CHOICE: a window of an earlier close pulse that still runs with the close request CLOSE is replaced, and its end never comes
(log 46). -/
def State.beginClosePulse (s : State) : State :=
  (s.withCdu fun c =>
    { c with
      pulse := .close
      pulseTimer := some s.cfg.closeWidth
      closeWindow := some 200
      closeRequest := true
      closeSpent := true
      closeReady := false
      closeOwed := false }).refreshCharge

/-- The drive line goes off and no pulse is in progress; charging that the pulse held off is permitted again (R51, R54). -/
def State.endPulse (s : State) : State :=
  (s.withCdu fun c => { c with pulse := .none, pulseTimer := none }).refreshCharge

/-- Pre-emption: a close pulse in progress ends at once with its window and its request, and a TRIP_FREE record carries s as
it stands (R61). -/
def State.preempt (s : State) : State :=
  s.onlyIf (s.cdu.pulse == .close) fun s =>
    (s.withCdu fun c => { c with closeRequest := false, closeWindow := none, tripOwed := false }).endPulse.record
      { kind := .tripFree, shots := some s.sqc.shots }

/-- A trip order from the SQC: pre-emption first; a request that stands serves the new trip, not withdrawn; else the pulse
begins at once from a ready capacitor, or waits up to 2 s for it (R55, R61). A FIRST or RETRIP request that stands with no
pulse and no window, as log 41's case can leave it, is kept as it is and begins no pulse; R55 speaks of one in progress alone
(log 41). -/
def State.cduTripOrder (s : State) : State :=
  let s := s.preempt
  match s.cdu.tripRequest with
  | .none =>
    let s := s.withCdu fun c => { c with withdrawn := false }
    if s.cdu.tripReady then s.beginTripPulse .first
    else s.withCdu fun c => { c with tripRequest := .wait, tripWait := some 2000 }
  | .attempt => s.withCdu fun c => { c with withdrawn := false, tripRequest := .first }
  | _ => s.withCdu fun c => { c with withdrawn := false }

/-- An attempt order from the SQC in BREAKER_FAIL (R59). -/
def State.cduAttemptOrder (s : State) : State :=
  s.onlyIf (s.cdu.tripRequest == .none && s.noPulse && s.cdu.tripReady) fun s => s.beginTripPulse .attempt

/-- The trip request returns to NONE and its waits end (R55, R58, R63). -/
def State.endTripRequest (s : State) : State :=
  s.withCdu fun c => { c with tripRequest := .none, tripWait := none, retripWait := none }

/-- A withdrawal: a wait ends at once with no report; a pulse or window runs on, withdrawn (R58). -/
def State.withdrawTrip (s : State) : State :=
  match s.cdu.tripRequest with
  | .none => s
  | .wait => s.endTripRequest
  | .retripWait => s.endTripRequest
  | _ => s.withCdu fun c => { c with withdrawn := true }

/-- Whether a close order would begin a close pulse (R60). -/
def State.closeOrderFires (s : State) : Bool := s.noPulse && s.cdu.closeReady

end Sys2Proof.Machine
end

