-- ==== Sys2Proof/Machine/Sequence.lean ====
section
/-! DEFINITION. The SQC: entries to its states, trips and their finality, the close gate, operator trip and close, the reactions
to the other blocks' events, and the sequence step (R25 to R48). -/

namespace Sys2Proof.Machine

/-! ### Entering a state -/

/-- Whether entering a state clears close barred (R53). -/
def SeqState.clearsBar : SeqState → Bool
  | .ready => true
  | .recloseWait => true
  | .closing => true
  | _ => false

/-- Whether a state has a lockout reason (R25). -/
def SeqState.hasReason : SeqState → Bool
  | .lockout => true
  | .breakerFail => true
  | _ => false

/-- The SQC's own part of entering a state: the timers of the state left are cancelled (R27, R34, R37, R38), a close order not
begun is withdrawn, the pickup-seen memory survives only between the closed states (R47), and the lockout reason is kept only
in LOCKOUT and BREAKER_FAIL (R25). -/
def Sqc.enter (q : Sqc) (new : SeqState) : Sqc :=
  { q with
    seq := new
    closeBegun := false
    reclose := none
    charge := none
    reset := none
    reason := if new.hasReason then q.reason else none
    memory := if new.isClosed then q.memory else none }

/-- Enter a sequence state. Beside the SQC's own part: the own-order marks are cleared at an entry to READY or RESET_TIMING
(R132), close barred at an entry to READY, RECLOSE_WAIT or CLOSING (R53), and a battery test is abandoned when READY is left
(R82). Its BATTERY_TEST record then stands before the SQC's own record of the event, an order that R163 leaves open (log 6). -/
def State.enterSeq (s : State) (new : SeqState) : State :=
  let moved := s.withSqc fun q => q.enter new
  let marked := moved.onlyIf new.isClosed fun m =>
    m.withOcu fun o => { o with phase := { o.phase with ownOrder := false }, ground := { o.ground with ownOrder := false } }
  let unbarred := marked.onlyIf new.clearsBar fun m => (m.withCdu fun c => { c with closeBarred := false }).refreshCharge
  unbarred.onlyIf (s.sqc.seq == .ready && new != .ready) fun m => m.abandonTest .sequence

/-- Every entry to LOCKOUT: the reason is set, the manual-close window closes, the stepped flag clears, s is kept, and a LOCKOUT
record and a Lockout notice carry the reason and s (R38). -/
def State.enterLockout (s : State) (reason : LockReason) : State :=
  (((s.enterSeq .lockout).withSqc fun q =>
      { q with reason := some reason, manualWindow := none, stepped := false }).record
    { kind := .lockout, reason := some (.lock reason), shots := some s.sqc.shots }).buildLockout reason

/-! ### Trips (R26 to R31) -/

/-- The finality of a trip order, tested after s has been raised to `shots`: the first condition that holds (R26). -/
def State.finality (s : State) (shots : Nat) : Option LockReason :=
  if s.tagInForce then some .tagged
  else if s.btu.reserve == .critical then some .battery
  else if s.mfp.lost then some .measurement
  else if s.startHoldOn then some .startHold
  else if s.sqc.manualWindow.isSome then some .manualClose
  else if shots == s.cfg.tripsToLockout then some .shots
  else none

/-- Go to TRIPPING with a current trip: the manual-close window closes, and the trip pulse, the Trip notice and the TRIP record
follow (R27, R28, R39). -/
def State.beginTrip (s : State) (trip : CurrentTrip) : State :=
  ((((s.enterSeq .tripping).withSqc fun q =>
      { q with trip := some trip, manualWindow := none }).cduTripOrder).buildTrip trip false).record
    { kind := .trip
      elements := some trip.elements
      peak := some trip.peak
      tripNumber := some trip.number
      shots := some s.sqc.shots
      reason := trip.finalReason.map Reason.lock }

/-- A trip order is taken: s rises by 1, to at most N, and the trip takes its number and its finality (R26, R27). -/
def State.takeTrip (s : State) (o : TripOrder) : State :=
  let shots := min s.cfg.tripsToLockout (s.sqc.shots + 1)
  (s.withSqc fun q => { q with shots := shots }).beginTrip
    { cause := o.cause, elements := o.elements, peak := o.peak, number := shots, finalReason := s.finality shots }

/-- A lockout trip: s is unchanged, and the trip is final with the held lockout reason (R28). -/
def State.takeLockoutTrip (s : State) (o : TripOrder) : State :=
  s.beginTrip
    { cause := o.cause, elements := o.elements, peak := o.peak, number := s.sqc.shots, finalReason := s.sqc.reason }

/-- A trip order arrives from the OCU (R27, R28). -/
def State.sqcTripOrder (s : State) (o : TripOrder) : State :=
  match s.sqc.seq with
  | .ready => s.takeTrip o
  | .resetTiming => s.takeTrip o
  | .closing => if s.sqc.closeBegun then s.takeTrip o else s
  | .lockout => if s.position == .closed then s.takeLockoutTrip o else s
  | .tripping => s
  | .recloseWait => s
  | .closeCharge => s
  | .breakerFail => s

/-- A trip confirm as the SQC takes it, before it hands trip confirmed to the OCU (R29, R31). -/
def State.sqcTripConfirm (s : State) : State :=
  match s.sqc.seq with
  | .tripping =>
    match s.sqc.trip.bind (·.finalReason) with
    | some reason => s.enterLockout reason
    | none =>
      if s.tagInForce then s.enterLockout .tagged
      else (s.enterSeq .recloseWait).withSqc fun q => { q with reclose := some (s.cfg.interval s.sqc.shots) }
  | .breakerFail => s.enterLockout .mechanism
  | _ => s

/-- A trip energy fault or a mechanism failure: from TRIPPING to BREAKER_FAIL with a failed Trip notice, a Lockout notice and a
BREAKER_FAIL record; elsewhere nothing (R30). -/
def State.tripFailed (s : State) : State :=
  s.onlyIf (s.sqc.seq == .tripping) fun s =>
    let moved := (s.enterSeq .breakerFail).withSqc fun q => { q with reason := some .mechanism }
    let noticed :=
      match s.sqc.trip with
      | some trip => moved.buildTrip trip true
      | none => moved
    (noticed.buildLockout .mechanism).record
      { kind := .breakerFail, reason := some (.lock .mechanism), shots := some s.sqc.shots }

/-! ### Closes (R33 to R35, R41, R60) -/

/-- A close failure as the SQC takes it (R35, R38, R41). -/
def State.closeFailure (s : State) : State := s.onlyIf (s.sqc.seq == .closing) fun s => s.enterLockout .closeFail

/-- The SQC orders the close pulse, and close begun is yes; an order that finds a pulse in progress or the close capacitor not
ready begins none and comes back as a close failure (R35, R41, R60). -/
def State.fireClose (s : State) : State :=
  let ordered := s.withSqc fun q => { q with closeBegun := true, charge := none }
  if s.closeOrderFires then ordered.beginClosePulse else ordered.closeFailure

/-- The close gate of an automatic close; `wait` tells whether its last row, CLOSE_CHARGE, applies (R33, R34). A reserve state
that is neither NORMAL nor RESERVE locks out with BATTERY, which carries the CRITICAL row and the law of R33 to DISCONNECT
(log 16). -/
def State.closeGate (s : State) (wait : Bool) : State :=
  if s.tgu.handleDown then s.enterLockout .handle
  else if s.tagInForce then s.enterLockout .tagged
  else if s.mfp.lost then s.enterLockout .measurement
  else if !s.reserveHolds then s.enterLockout .battery
  else if s.startHoldOn then s.enterLockout .startHold
  else if s.closeOrderFires then ((s.enterSeq .closing).withSqc fun q => { q with closeKind := .automatic }).fireClose
  else if wait then (s.enterSeq .closeCharge).withSqc fun q => { q with charge := some 20000 }
  else s

/-- READY after an operator's or an unordered close: s is 0, the stepped flag clear, the manual-close window opens for the
reset time, and a CLOSE record carries s 0 (R41, R43, R45). -/
def State.readyByHand (s : State) : State :=
  ((s.enterSeq .ready).withSqc fun q =>
      { q with shots := 0, stepped := false, manualWindow := some s.cfg.resetTime }).record
    { kind := .close, shots := some 0 }

/-- A close confirm as the SQC takes it (R35, R38, R41). -/
def State.closeConfirm (s : State) : State :=
  s.onlyIf (s.sqc.seq == .closing) fun s =>
    match s.sqc.closeKind with
    | .operator => s.readyByHand
    | .automatic =>
      let recorded := s.record { kind := .close, shots := some s.sqc.shots }
      if s.tagInForce then (recorded.enterSeq .ready).withSqc fun q => { q with shots := 0, stepped := false }
      else (recorded.enterSeq .resetTiming).withSqc fun q => { q with reset := some s.cfg.resetTime }

/-! ### Capacitor reports (R31, R34, R41, R50, R55, R57) -/

/-- A trip capacitor ready report: it serves the CDU's own waiting request, or brings an attempt in BREAKER_FAIL. -/
def State.tripReadyReport (s : State) : State :=
  match s.cdu.tripRequest with
  | .wait => s.beginTripPulse .first
  | .retripWait => s.beginTripPulse .retrip
  | _ => s.onlyIf (s.sqc.seq == .breakerFail) State.cduAttemptOrder

/-- A close capacitor ready report: the gate again in CLOSE_CHARGE, the pulse of a waiting operator close if the handle is up
and no tag is in force. -/
def State.closeReadyReport (s : State) : State :=
  match s.sqc.seq with
  | .closeCharge => s.closeGate false
  | .closing =>
    s.onlyIf (s.sqc.closeKind == .operator && !s.sqc.closeBegun && !s.tgu.handleDown && !s.tagInForce) State.fireClose
  | _ => s

/-- Hand the ready reports that wait, trip first; none is handed while a pulse is in progress (R50). -/
def State.handReports (s : State) : State :=
  let afterTrip :=
    if s.cdu.tripOwed && s.noPulse then (s.withCdu fun c => { c with tripOwed := false }).tripReadyReport else s
  if afterTrip.cdu.closeOwed && afterTrip.noPulse then
    (afterTrip.withCdu fun c => { c with closeOwed := false }).closeReadyReport
  else afterTrip

/-- The voltages of a good frame: spent marks clear when the window or the pulse was over at the frame's arrival, readiness is
judged, a capacitor that becomes ready owes its report, the enables follow, and reports that may be handed are handed (R50,
R51, R52). A close pulse that `closing` tells of at the arrival keeps its capacitor spent, though this frame's own trip order
may have pre-empted it since (R50, R61). -/
def State.deliverVoltages (s : State) (tripV closeV : Nat) (closing : Bool) : State :=
  let tripSpent := s.cdu.tripSpent && s.cdu.tripWindow.isSome
  let closeSpent := s.cdu.closeSpent && (closing || s.cdu.pulse == .close)
  let tripReady := decide (tripReadyLevel ≤ tripV) && !tripSpent
  let closeReady := decide (closeReadyLevel ≤ closeV) && !closeSpent
  (s.withCdu fun c =>
    { c with
      tripV := tripV
      closeV := closeV
      tripSpent := tripSpent
      closeSpent := closeSpent
      tripReady := tripReady
      closeReady := closeReady
      tripOwed := tripReady && (c.tripOwed || !c.tripReady)
      closeOwed := closeReady && (c.closeOwed || !c.closeReady) }).refreshCharge.handReports

/-! ### Operator trip and close (R39, R40) -/

/-- The answer to an operator trip (R39). -/
def State.operatorTripAnswer (s : State) : Answer :=
  match s.sqc.seq with
  | .lockout => if s.position == .closed then .done else .refusedState
  | .breakerFail => .refusedState
  | _ => .done

/-- The current trip of an operator trip (R39). -/
def operatorTripOf : CurrentTrip :=
  { cause := .operator, elements := noElements, peak := 0, number := 0, finalReason := some .operator }

/-- An operator trip acts by state (R39). -/
def State.operatorTrip (s : State) : State :=
  match s.sqc.seq with
  | .ready => s.beginTrip operatorTripOf
  | .resetTiming => s.beginTrip operatorTripOf
  | .closing => if s.sqc.closeBegun then s.beginTrip operatorTripOf else s.enterLockout .operator
  | .lockout => if s.position == .closed then s.beginTrip operatorTripOf else s
  | .tripping =>
    s.withSqc fun q =>
      { q with trip := q.trip.map fun t : CurrentTrip => { t with finalReason := some LockReason.operator } }
  | .recloseWait => s.enterLockout .operator
  | .closeCharge => s.enterLockout .operator
  | .breakerFail => s

/-- The answer to an operator close, the first failing test giving it (R40). -/
def State.operatorCloseAnswer (s : State) : Answer :=
  if !(s.sqc.seq == .lockout && s.noPulse && s.position == .opened) then .refusedState
  else if s.tgu.handleDown then .refusedHandle
  else if s.tagInForce then .refusedTagged
  else if !(s.cdu.closeReady || s.reserveHolds) then .refusedEnergy
  else .done

/-- A taken operator close enters CLOSING with close kind OPERATOR and orders the pulse, or waits for the close capacitor with
the charge timer at 20,000 ms; a refused one changes nothing (R40, R41). -/
def State.operatorClose (s : State) : State :=
  s.onlyIf (s.operatorCloseAnswer == .done) fun s =>
    let closing := (s.enterSeq .closing).withSqc fun q => { q with closeKind := .operator }
    if s.cdu.closeReady then closing.fireClose else closing.withSqc fun q => { q with charge := some 20000 }

/-! ### Opens and closes the SQC did not order (R42, R43) -/

/-- Whether a change to Open without a pulse hands trip confirmed to the OCU in a sequence state (R31, R42). -/
def SeqState.confirmsOpen : SeqState → Bool
  | .ready => true
  | .resetTiming => true
  | .breakerFail => true
  | .lockout => true
  | _ => false

/-- A change to Open without a pulse as the SQC takes it, before trip confirmed (R31, R42). -/
def State.openWithoutPulse (s : State) : State :=
  match s.sqc.seq with
  | .ready => s.enterLockout .unexplainedOpen
  | .resetTiming => s.enterLockout .unexplainedOpen
  | .breakerFail => s.enterLockout .mechanism
  | _ => s

/-- Whether a change to Closed without a pulse is an unordered close in the present state (R43). -/
def State.closesUnordered (s : State) : Bool :=
  match s.sqc.seq with
  | .lockout => true
  | .recloseWait => true
  | .closeCharge => true
  | .closing => !s.sqc.closeBegun
  | _ => false

/-- A change to Closed without a pulse (R43). With the handle down in LOCKOUT the SQC stays there with the reason HANDLE, which
is no entry and makes no record (log 24). -/
def State.closedWithoutPulse (s : State) : State :=
  s.onlyIf s.closesUnordered fun s =>
    if !s.tgu.handleDown then s.readyByHand
    else if s.sqc.seq == .lockout then s.withSqc fun q => { q with reason := some .handle }
    else s.enterLockout .handle

/-! ### Events from the other blocks -/

/-- A tag comes into force (R36). -/
def State.sqcTagOn (s : State) : State :=
  match s.sqc.seq with
  | .recloseWait => s.enterLockout .tagged
  | .closeCharge => s.enterLockout .tagged
  | .closing => if s.sqc.closeBegun then s else s.enterLockout .tagged
  | _ => s

/-- Measurement lost is set (R34). -/
def State.sqcMeasurementLost (s : State) : State :=
  s.onlyIf (s.sqc.seq == .closeCharge) fun s => s.enterLockout .measurement

/-- The reserve state becomes CRITICAL (R34, R41). -/
def State.sqcCritical (s : State) : State :=
  match s.sqc.seq with
  | .closeCharge => s.enterLockout .battery
  | .closing => if s.sqc.closeBegun then s else s.enterLockout .closeEnergy
  | _ => s

/-- No close energy came in time: the charge timer has expired or the CDU reports a close energy fault (R34, R41, R52). -/
def State.sqcCloseEnergyFault (s : State) : State :=
  match s.sqc.seq with
  | .closeCharge => s.enterLockout .closeEnergy
  | .closing => if s.sqc.closeBegun then s else s.enterLockout .closeEnergy
  | _ => s

/-- The lock handle goes down: a trip request of TRIPPING or BREAKER_FAIL is withdrawn, and the SQC enters LOCKOUT with reason
HANDLE from any state (R44, R58). -/
def State.sqcHandleDown (s : State) : State :=
  let withdrawn := s.onlyIf (s.sqc.seq == .tripping || s.sqc.seq == .breakerFail) State.withdrawTrip
  withdrawn.enterLockout .handle

/-- The end of the reset time (R37). -/
def State.sqcResetExpiry (s : State) : State :=
  let ready := (s.enterSeq .ready).withSqc fun q => { q with shots := 0, stepped := false }
  if s.sqc.stepped then ready.buildClear s.sqc.stepSet false else ready

/-! ### The sequence step (R47, R48) -/

/-- A first pickup notice at the SQC: the memory is eligible with the notice's set, or empty (R47). -/
def State.sqcFirstPickup (s : State) (elements : ElementSet) : State :=
  s.withSqc fun q =>
    { q with
      memory :=
        if q.seq.isClosed && s.cfg.step && q.sourcePresent && s.measurementGood then some elements else none }

/-- Source-voltage-present as delivered; absent empties the memory (R4, R47). -/
def State.sqcSource (s : State) (present : Bool) : State :=
  s.withSqc fun q => { q with sourcePresent := present, memory := if present then q.memory else none }

/-- The step itself: s one up, stepped set, RESET_TIMING entered or kept with the full reset time, a STEP record and a Clear
notice (R48). -/
def State.stepSequence (s : State) (elements : ElementSet) : State :=
  let raised := s.withSqc fun q => { q with shots := q.shots + 1, stepped := true, stepSet := elements }
  let moved := raised.onlyIf (s.sqc.seq != .resetTiming) fun m => m.enterSeq .resetTiming
  let timed := moved.withSqc fun q => { q with reset := some s.cfg.resetTime }
  (timed.record { kind := .step, elements := some elements, shots := some (s.sqc.shots + 1) }).buildClear elements true

/-- An episode end notice: the sequence steps when every condition holds, and the memory becomes empty in every case (R48). -/
def State.sqcEpisodeEnd (s : State) (longestRun : Nat) (orderRaised : Bool) : State :=
  let stepped :=
    match s.sqc.memory with
    | some elements =>
      s.onlyIf (s.sqc.seq.isClosed && decide (2 ≤ longestRun) && !orderRaised &&
          decide (s.sqc.shots + 1 < s.cfg.tripsToLockout)) fun s => s.stepSequence elements
    | none => s
  stepped.withSqc fun q => { q with memory := none }

end Sys2Proof.Machine
end

