-- ==== Sys2Proof/Machine/Overcurrent.lean ====
section
/-! DEFINITION. The OCU: multiples, rates, increments and accumulators, the frame step, trip orders, the hold records and the
clearing of the elements (R9 to R24, R132 to R140). -/

namespace Sys2Proof.Machine

/-! ### The stages of one element (R10 to R15, R18) -/

/-- Stage 1, the multiple: floor(I × 256 / P), clamped to 10240 (R10). -/
def multiple (current pickup : Nat) : Nat := min Config.maxMultiple (current * 256 / pickup)

/-- Stage 3, the rate: r of the last breakpoint at or above it, else the interpolation between the breakpoints on either side,
carried exactly (R13). -/
def curveRate : List Breakpoint → Nat → Nat
  | x :: y :: rest, m =>
    if m < y.m then x.r + (y.r - x.r) * (m - x.m) / (y.m - x.m) else curveRate (y :: rest) m
  | [x], _ => x.r
  | [], _ => 0

/-- Stage 4, the increment: floor(r × 100 / d), raised to 1 and capped at F (R14). -/
def increment (rate dial : Nat) : Nat := min Config.fullScale (max 1 (rate * 100 / dial))

/-- What one element's step works on: its current and the settings in force for the step; `inst` is Q, absent when the
instantaneous test is off (R9). -/
structure ElemInput where
  current : Nat
  pickup : Nat
  curve : List Breakpoint
  dial : Nat
  inst : Option Nat
  deriving DecidableEq, Repr

/-- Stage 2, the pickup state after the step (R11). -/
def pickedAfter (was : Bool) (m : Nat) : Bool :=
  if was then decide (Config.dropoutLevel ≤ m) else decide (Config.pickupLevel ≤ m)

/-- Stage 5, the accumulator: rise at or over pickup, hold in the hysteresis band, reset otherwise (R11, R15). -/
def accumulate (timed : Bool) (decay : Nat) (i : ElemInput) (was : Bool) (m acc : Nat) : Nat :=
  if Config.pickupLevel ≤ m then min Config.fullScale (acc + increment (curveRate i.curve m) i.dial)
  else if pickedAfter was m then acc
  else if timed then acc - decay
  else 0

/-- The instantaneous count after the step (R18). -/
def countAfter (inst : Option Nat) (m count : Nat) : Nat :=
  match inst with
  | some q => if q ≤ m then min 2 (count + 1) else 0
  | none => 0

/-- One element through one frame step (R9 to R15, R18). -/
def stepElement (timed : Bool) (decay : Nat) (i : ElemInput) (e : Element) : Element :=
  let m := multiple i.current i.pickup
  let picked := pickedAfter e.picked m
  { m := m
    picked := picked
    acc := accumulate timed decay i e.picked m e.acc
    count := countAfter i.inst m e.count
    run := if picked then count16 e.run else 0
    peak := if picked then (if e.picked then max e.peak i.current else i.current) else e.peak }

/-! ### The settings in force for a step (R9, R159) -/

/-- Q as the test uses it: off for 0 (R9, R159). -/
def instOf (on : Bool) (q : Nat) : Option Nat := if on && q != 0 then some q else none

/-- The four elements' inputs: the tag profile for all four while a tag is in force, else plan entry min(s + 1, N), with the
phase and ground pickups in either case (R9). -/
def State.elemInputs (s : State) (f : MeasFields) : PerElem ElemInput :=
  let st := s.cfg
  let entry := st.planEntry (min (s.sqc.shots + 1) st.tripsToLockout)
  let tag := s.tagInForce
  let phase (current : Nat) : ElemInput :=
    { current := current
      pickup := st.pickupPh
      curve := st.curve (if tag then st.tagCurve else entry.phaseCurve)
      dial := if tag then st.tagDial else entry.phaseDial
      inst := if tag then instOf true st.tagInst else instOf (entry.instantaneous == 1) st.instPh }
  { a := phase f.ia
    b := phase f.ib
    c := phase f.ic
    g :=
      { current := f.ig
        pickup := st.pickupGd
        curve := st.curve (if tag then st.tagCurve else entry.groundCurve)
        dial := if tag then st.tagDial else entry.groundDial
        inst := if tag then instOf true st.tagInst else instOf (entry.instantaneous == 1) st.instGd } }

/-! ### Trip orders (R16, R17, R19, R20) -/

/-- An order is handed to the SQC: the episode's order-raised flag and the own-order marks of its kinds are set first
(R12, R20, R132). -/
def State.raiseOrder (s : State) (o : TripOrder) : State :=
  (s.withOcu fun u =>
    { u with
      orderRaised := true
      phase := { u.phase with ownOrder := u.phase.ownOrder || o.elements.covers .phase }
      ground := { u.ground with ownOrder := u.ground.ownOrder || o.elements.covers .ground } }).sqcTripOrder o

/-- The elements that stand at F and whose kind is not held (R16, R17). -/
def Ocu.freeAtFull (o : Ocu) : ElementSet :=
  (o.elems.map fun e => e.acc == Config.fullScale).zip (· && ·) (spread (o.unheld .phase) (o.unheld .ground))

/-- The elements of a kind that stand at F with their last M at 243 or more (R17). -/
def Ocu.heldBack (o : Ocu) (k : Kind) : ElementSet :=
  (o.elems.map fun e => e.acc == Config.fullScale && decide (Config.dropoutLevel ≤ e.m)).zip (· && ·) (kindElements k)

/-- The release test of a kind whose hold has ended: put off to the next frame step while the OCU is frozen, else an order for
every unheld element at F if one of the kind stands at F (R17, R21). -/
def State.releaseTest (s : State) (k : Kind) : State :=
  if s.mfp.stalled then s.withOcu fun o => o.withKind k fun x => { x with releaseDue := true }
  else
    s.onlyIf (s.ocu.heldBack k).anySet fun s =>
      s.raiseOrder
        { cause := if s.tagInForce then .tagProfile else .time
          elements := s.ocu.freeAtFull
          peak := (s.ocu.elems.map (·.peak)).maxOver s.ocu.freeAtFull }

/-! ### Hold records (R132 to R140) -/

/-- A hold ends: the record is empty, a HOLD_ENDED record carries holder, elements and cause, and the release test follows; an
empty record stays as it is (R138). -/
def State.endHold (s : State) (k : Kind) (cause : Reason) : State :=
  match (s.ocu.kind k).hold with
  | none => s
  | some h =>
    ((s.withOcu fun o => o.withKind k fun x => { x with hold := none }).record
      { kind := .holdEnded, peerId := some h.holder, elements := some (kindElements k), reason := some cause }).releaseTest k

/-- Both standing holds end for one cause, the phase record first (R139, R140; log 31). -/
def State.endHolds (s : State) (cause : Reason) : State := (s.endHold .phase cause).endHold .ground cause

/-- Whether a station time lies after another, their difference taken modulo 2^32 (00, Time). -/
def laterThan (a b : Word32) : Bool := decide (0 < elapsed a b) && decide (elapsed a b < 2147483648)

/-- The earlier of two station times (R134). -/
def earlier (a b : Word32) : Word32 := if laterThan a b then b else a

/-- A partner pickup at one kind: late while the own-order mark is set and refused while a tag is in force; it starts a hold in
an empty record if its span has not run out, and replaces the holder of a standing one (R133, R134, R135, R140). -/
def State.partnerPickup (s : State) (k : Kind) (sender position : Nat) (arrival : Word32) : State :=
  let ends := arrival + BitVec.ofNat 32 s.cfg.holdTime
  if (s.ocu.kind k).ownOrder || s.tagInForce then s
  else
    match (s.ocu.kind k).hold with
    | none =>
      s.onlyIf (laterThan ends s.now) fun s =>
        (s.withOcu fun o => o.withKind k fun x =>
            { x with hold := some { holder := sender, position := position, begunAt := arrival, endsAt := ends } }).record
          { kind := .holdBegun, peerId := some sender, elements := some (kindElements k) }
    | some h =>
      s.withOcu fun o => o.withKind k fun x =>
        { x with
          hold := some
            { holder := sender
              position := position
              begunAt := h.begunAt
              endsAt := earlier ends (h.begunAt + BitVec.ofNat 32 s.cfg.holdTime) } }

/-- A partner pickup acts on each kind that its element set covers, phase before ground, so of two holds begun at once the phase
hold's HOLD_BEGUN record takes the lower number; the spec gives the two no order (R132, R133; log 31). -/
def State.partnerPickups (s : State) (sender position : Nat) (elements : ElementSet) (arrival : Word32) : State :=
  let phased := s.onlyIf (elements.covers .phase) fun s => s.partnerPickup .phase sender position arrival
  phased.onlyIf (elements.covers .ground) fun s => s.partnerPickup .ground sender position arrival

/-- A partner trip or clear at one kind ends the hold of its present holder alone (R136). -/
def State.partnerEnd (s : State) (k : Kind) (sender : Nat) (cause : Reason) : State :=
  match (s.ocu.kind k).hold with
  | some h => if h.holder = sender then s.endHold k cause else s
  | none => s

/-- A partner trip or clear acts on both records (R136). -/
def State.partnerEnds (s : State) (sender : Nat) (cause : Reason) : State :=
  (s.partnerEnd .phase sender cause).partnerEnd .ground sender cause

/-- Whether a standing hold has reached its ends-at time (R137). -/
def State.holdDue (s : State) (k : Kind) : Bool :=
  match (s.ocu.kind k).hold with
  | some h => !laterThan h.endsAt s.now
  | none => false

/-! ### Clearing and freezing (R21, R22) -/

/-- An element cleared: everything but its last multiple (R22). -/
def clearElement (e : Element) : Element := { e with picked := false, acc := 0, count := 0, run := 0, peak := 0 }

/-- The OCU clears its elements; an open episode ends without a notice, and the episode record is empty (R22; log 15). -/
def State.clearElements (s : State) : State :=
  s.withOcu fun o => { o with elems := o.elems.map clearElement, longestRun := 0, orderRaised := false }

/-- Trip confirmed reaches the OCU: the clearing and the ends of both holds, in the order the command picks (R22, R139). -/
def State.tripConfirmed (s : State) (clearFirst : Bool) : State :=
  if clearFirst then s.clearElements.endHolds .tripConfirmed else (s.endHolds .tripConfirmed).clearElements

/-- The freeze: every instantaneous count returns to 0 (R21). -/
def State.freezeCounts (s : State) : State :=
  s.withOcu fun o => { o with elems := o.elems.map fun e => { e with count := 0 } }

/-! ### The frame step (R9, R12, R16, R18, R19) -/

/-- An element arrives at F: its accumulator was below F before the step, or its release test was put off, and it is at F
after (R16, R17). -/
def arrives (before after : PerElem Element) (released : ElementSet) : ElementSet :=
  (before.zip (fun b a => (decide (b.acc < Config.fullScale), a.acc == Config.fullScale)) after).zip
    (fun x r => (x.1 || r) && x.2) released

/-- The elements whose instantaneous count went from 1 to 2 (R18). -/
def instFired (before after : PerElem Element) : ElementSet :=
  before.zip (fun b a => b.count == 1 && a.count == 2) after

/-- What a frame step comes to: the elements after it, its element sets and its notices. -/
structure StepOutcome where
  elems : PerElem Element
  picked : ElementSet
  largest : Nat
  first : Bool
  ended : Bool
  longest : Nat
  order : Option TripOrder
  deriving DecidableEq, Repr

/-- The frame step computed, nothing yet handed out (R9 to R19). On a later step of the episode the longest run is the largest
run held by any element (R12); the step that ends the episode keeps it for its notice (log 14). -/
def State.computeStep (s : State) (f : MeasFields) : StepOutcome :=
  let inputs := s.elemInputs f
  let before := s.ocu.elems
  let after := inputs.zip (stepElement s.cfg.timedReset s.cfg.decay) before
  let wasPicked := (before.map (·.picked)).anySet
  let picked := after.map (·.picked)
  let first := !wasPicked && picked.anySet
  let runs := (after.map (·.run)).maxOver picked
  let unheld := spread (s.ocu.unheld .phase) (s.ocu.unheld .ground)
  let released := spread s.ocu.phase.releaseDue s.ocu.ground.releaseDue
  let arrived := (arrives before after released).zip (· && ·) unheld
  let timed : ElementSet :=
    if arrived.anySet then (after.map fun e => e.acc == Config.fullScale).zip (· && ·) unheld else noElements
  let instant := instFired before after
  let named := timed.zip (· || ·) instant
  { elems := after
    picked := picked
    largest := (inputs.map (·.current)).maxOver picked
    first := first
    ended := wasPicked && !picked.anySet
    longest := if first then 1 else if picked.anySet then runs else s.ocu.longestRun
    order :=
      if named.anySet then
        some
          { cause := if s.tagInForce then .tagProfile else if instant.anySet then .inst else .time
            elements := named
            peak := (after.map (·.peak)).maxOver named }
      else none }

/-- A first pickup notice goes to the PRU, the SQC and the BTU (R12). -/
def State.firstPickup (s : State) (elements : ElementSet) (largest : Nat) : State :=
  ((s.buildPickup elements largest).sqcFirstPickup elements).abandonTest .pickup

/-- The frame step of the OCU: the state after the step, then the notices and the order of the step (R9, R12, R19). Where one step
raises a first pickup and an order, the notice is handed before the order, so the PICKUP report takes the lower sequence and a
running test is abandoned with PICKUP; R112 leaves the two in no order (log 6). -/
def State.frameStep (s : State) (f : MeasFields) : State :=
  let out := s.computeStep f
  let stepped := s.withOcu fun o =>
    { o with
      elems := out.elems
      longestRun := out.longest
      orderRaised := if out.first then false else o.orderRaised
      phase := { o.phase with releaseDue := false }
      ground := { o.ground with releaseDue := false } }
  let noticed := if out.first then stepped.firstPickup out.picked out.largest else stepped
  let ordered :=
    match out.order with
    | some o => noticed.raiseOrder o
    | none => noticed
  if out.ended then ordered.sqcEpisodeEnd ordered.ocu.longestRun ordered.ocu.orderRaised else ordered

end Sys2Proof.Machine
end

