-- ==== Sys2Proof/Machine/Breaker.lean ====
section
/-! DEFINITION. The breaker position: contact changes, the classing of definite changes, and the reports of the CDU's windows and
waits (R52, R55 to R65). -/

namespace Sys2Proof.Machine

/-- Trip confirmed reaches the OCU at every trip confirm, after the SQC has moved (R22, R29): the SQC's LOCKOUT record stands
before the OCU's HOLD_ENDED records, an order that R163 leaves open (log 6). -/
def State.confirmTrip (s : State) (clearFirst : Bool) : State :=
  s.endTripRequest.sqcTripConfirm.tripConfirmed clearFirst

/-- A definite change to Open is classed: a trip confirm while a trip request stands, else a change without a pulse, which
hands trip confirmed to the OCU where R31 and R42 say so (R63). There too the SQC's record comes first (R163; log 6). -/
def State.changeToOpen (s : State) (clearFirst : Bool) : State :=
  if s.cdu.tripRequest != .none then s.confirmTrip clearFirst
  else
    s.openWithoutPulse.onlyIf s.sqc.seq.confirmsOpen fun m => m.tripConfirmed clearFirst

/-- A definite change to Closed is classed: a close confirm while the close request is CLOSE, else a change without a pulse
(R60, R63). -/
def State.changeToClosed (s : State) : State :=
  if s.cdu.closeRequest then
    (s.withCdu fun c => { c with closeRequest := false, closeWindow := none }).closeConfirm
  else s.closedWithoutPulse

/-- A definite change: the last definite position follows, Closed to Open counts one operation, and the change is classed
(R62, R63, R65). -/
def State.definiteChange (s : State) (closed : Bool) (clearFirst : Bool) : State :=
  if closed then (s.withCdu fun c => { c with lastClosed := true }).changeToClosed
  else
    (s.withCdu fun c => { c with lastClosed := false, operations := c.operations + 1 }).changeToOpen clearFirst

/-- The position after a contact has changed: entering Indeterminate starts its 500 ms, a definite position ends them and
clears position fault, and a position other than the last definite one is a definite change (R62, R64). -/
def State.judgePosition (s : State) (before : Position) (clearFirst : Bool) : State :=
  match s.position with
  | .indeterminate =>
    s.onlyIf (before != .indeterminate) fun s => s.withCdu fun c => { c with indeterminate := some 500 }
  | .closed =>
    let settled := s.withCdu fun c => { c with indeterminate := none, positionFault := false }
    settled.onlyIf (!s.cdu.lastClosed) fun s => s.definiteChange true clearFirst
  | .opened =>
    let settled := s.withCdu fun c => { c with indeterminate := none, positionFault := false }
    settled.onlyIf s.cdu.lastClosed fun s => s.definiteChange false clearFirst

/-- The pins of the contacts that a command names. -/
def contactPins : Contact → List InputPin
  | .closedContact => [.posc]
  | .openContact => [.poso]
  | .bothContacts => [.posc, .poso]

/-- The contacts of some pins go to a debounced state, their counts over. -/
def State.setContacts (s : State) (pins : List InputPin) (made : Bool) : State :=
  (pins.foldl State.endCount s).withCdu fun c =>
    { c with
      closedMade := if pins.contains .posc then made else c.closedMade
      openMade := if pins.contains .poso then made else c.openMade }

/-- A contact that has held a level for its 10 ms takes it as its debounced state, or both at the same moment, which alone leads from
one Indeterminate form to the other without a definite position between (R62, R64). -/
def State.changeContact (s : State) (contact : Contact) (made clearFirst : Bool) : State :=
  let pins := (contactPins contact).filter fun pin => s.inputHolds pin made
  s.onlyIf (!pins.isEmpty) fun s => (s.setContacts pins made).judgePosition s.position clearFirst

/-- The edges of the contacts that a command names (R62). -/
def State.contactsGo (s : State) (contact : Contact) (made : Bool) : State :=
  (contactPins contact).foldl (fun s pin => s.inputGoes pin made) s

/-- A mechanism failure report: the request becomes NONE and the SQC takes the report (R30, R55, R57, R58). -/
def State.mechanismFailure (s : State) : State := s.endTripRequest.tripFailed

/-- The end of a trip confirm window: with the position not Open, a retrip, a mechanism failure or the end of an attempt, by the
request (R55, R57, R58, R59). With the position Open and no definite change taken, which a close pre-empted before the breaker
moved can leave, no rule gives a result: FIRST and RETRIP stand as they are, and ATTEMPT returns to NONE with no report
(log 41). -/
def State.endTripWindow (s : State) : State :=
  let ended := s.withCdu fun c => { c with tripWindow := none }
  match s.cdu.tripRequest with
  | .first =>
    if s.position == .opened then ended
    else if s.cdu.withdrawn then ended.mechanismFailure
    else ended.withCdu fun c => { c with tripRequest := .retripWait, retripWait := some 2000 }
  | .retrip => if s.position == .opened then ended else ended.mechanismFailure
  | .attempt => ended.endTripRequest
  | _ => ended

/-- The end of the close window: a close failure if the request is still CLOSE (R60). -/
def State.endCloseWindow (s : State) : State :=
  let ended := s.withCdu fun c => { c with closeWindow := none, closeRequest := false }
  if s.cdu.closeRequest then ended.closeFailure else ended

/-- A trip energy fault (R56). -/
def State.tripEnergyFault (s : State) : State :=
  ((s.record { kind := .energyFault, reason := some .tripEnergy, battV := some s.btu.battV }).endTripRequest).tripFailed

/-- A close energy fault: the record, close barred, and the report to the SQC (R52). -/
def State.closeEnergyFault (s : State) : State :=
  (((s.record { kind := .energyFault, reason := some (.lock .closeEnergy), battV := some s.btu.battV }).withCdu fun c =>
    { c with closeBarred := true }).refreshCharge).sqcCloseEnergyFault

/-- Position fault is set with its record, whose reason is the state of the two contacts (R64). -/
def State.raisePositionFault (s : State) : State :=
  (s.withCdu fun c => { c with indeterminate := none, positionFault := true }).record
    { kind := .positionFault, reason := some (if s.cdu.closedMade then .both else .neither) }

end Sys2Proof.Machine
end

