-- ==== Sys2Proof/Machine/Reserve.lean ====
section
/-! DEFINITION. The BTU's judgements that reach other blocks: the reserve state, AC-present, shutdown and the release of the
contactor, and the values of a good frame (R67 to R75). -/

namespace Sys2Proof.Machine

/-- The judgement of the reserve state from AC-present, the state before and battery V (R72). -/
def judgeReserve (acPresent : Bool) (before : Reserve) (v : Nat) : Reserve :=
  match before with
  | .disconnect => .disconnect
  | .normal => if acPresent then .normal else if 2440 ≤ v then .normal else if 2300 ≤ v then .reserve else .critical
  | .reserve => if acPresent then .normal else if 2470 ≤ v then .normal else if 2300 ≤ v then .reserve else .critical
  | .critical => if acPresent then .normal else if 2470 ≤ v then .normal else if 2330 ≤ v then .reserve else .critical

/-- A change of the reserve state: the discharged mark is set on leaving NORMAL, the low-voltage timer ends on leaving CRITICAL,
a RESERVE_CHANGE record is made, and the SQC, the CDU, the PRU and the CHC follow (R70, R73, R74). -/
def State.changeReserve (s : State) (new : Reserve) : State :=
  let old := s.btu.reserve
  let moved := s.withBtu fun b =>
    { b with
      reserve := new
      discharged := b.discharged || old == .normal
      lowVoltage := if old == .critical then none else b.lowVoltage }
  let recorded := moved.record { kind := .reserveChange, reserve := some new, battV := some s.btu.battV }
  (((recorded.onlyIf (new == .critical) State.sqcCritical).refreshCharge).followReserve old).settleTransmitter

/-- The reserve state is judged from the battery V last delivered, first at the first good frame after a cold start
(R72, R73, R84). -/
def State.judgeBattery (s : State) : State :=
  let new := judgeReserve s.btu.acPresent s.btu.reserve s.btu.battV
  s.onlyIf (s.btu.measured && new != s.btu.reserve) fun s => s.changeReserve new

/-- The low-voltage timer at a good frame: in CRITICAL it starts below 2100 while shutdown pending is clear, and a reading at or
above 2100 cancels it (R74). -/
def State.watchLowVoltage (s : State) : State :=
  s.withBtu fun b =>
    { b with
      lowVoltage :=
        if b.battV < 2100 then
          if b.reserve == .critical && b.lowVoltage.isNone && !b.shutdownPending then some 10000 else b.lowVoltage
        else none }

/-- The taper timer at a good frame, in BOOST: it starts below 0.5 A and is cancelled at or above (R71). -/
def State.watchTaper (s : State) : State :=
  s.onlyIf (s.btu.charger == .boost) fun s =>
    s.withBtu fun b => { b with taper := if b.battI < 50 then some (b.taper.getD 60000) else none }

/-- The battery values of a good frame: kept, Vf computed again, the reserve state judged, and the low-voltage and taper timers
followed (R67, R68, R71, R72, R74). DESIGN CHOICE: the reserve state is judged before the low-voltage test of the same frame, so a
frame that itself takes it to CRITICAL with V below 2100 starts the low-voltage timer (log 48). -/
def State.deliverBattery (s : State) (v : Nat) (i temperature : Int) : State :=
  let delivered := (s.withBtu fun b =>
    { b with battV := v, battI := i, temperature := temperature, vf := floatSetpoint temperature, measured := true }).sendSetpoint
  delivered.judgeBattery.watchLowVoltage.watchTaper

/-- AC-present goes present: BOOST with its 8 h limit when the discharged mark is set, FLOAT otherwise, and the reserve state is
judged (R69, R70, R72). -/
def State.acReturns (s : State) : State :=
  let charged :=
    if s.btu.discharged then
      (s.withBtu fun b =>
        { b with acPresent := true, boostLimit := some 28800000, taper := none, discharged := false }).setCharger .boost
    else (s.withBtu fun b => { b with acPresent := true }).setCharger .float
  charged.judgeBattery

/-- AC-present goes absent: OFF with both charge timers cancelled, a running test abandoned, and the reserve state judged
(R69, R71, R72, R82). -/
def State.acGoes (s : State) : State :=
  (((s.withBtu fun b => { b with acPresent := false, taper := none, boostLimit := none }).setCharger .off).abandonTest
    .acLoss).judgeBattery

/-- Shutdown pending is set: the disconnect timer starts, and the SHUTDOWN record, the Shutdown notice, the drop order and the
PRU's idle beacon timer follow (R75, R93, R120). -/
def State.setShutdown (s : State) : State :=
  let pended := s.withBtu fun b =>
    { b with lowVoltage := none, shutdownPending := true, disconnect := some 5000 }
  (((pended.record { kind := .shutdown, battV := some s.btu.battV }).buildShutdown).dropStatus).stopBeacon

/-- The release of the contactor: DISCONNECT, handed to no block and with no record; both charge enables fall (R51). A second
release finds it done (R73, R75). -/
def State.releaseContactor (s : State) : State :=
  s.onlyIf (s.btu.reserve != .disconnect) fun s =>
    (s.withBtu fun b => { b with reserve := .disconnect, disconnect := none }).refreshCharge

/-! ### Charger and test timers (R69, R71, R79 to R81) -/

/-- The last bit of a setpoint word has gone: setpoint sent takes its value, and a newer target follows (R69). DESIGN CHOICE: where
the changes made during the word end at the word's own value, nothing more is sent (log 47). -/
def State.endSetpointWord (s : State) : State :=
  (s.withBtu fun b => { b with setpointSent := b.sending.getD b.setpointSent, sending := none }).sendSetpoint

/-- The boost limit timer expires: the boost ends, or in SETTLE and LOADED the resume mode becomes FLOAT (R71). -/
def State.boostLimitEnds (s : State) : State :=
  if s.btu.test == .settle || s.btu.test == .loaded then
    s.withBtu fun b => { b with boostLimit := none, resumeBoost := false }
  else s.endBoost

/-- A test goes to SETTLE: the resume mode is kept, the charger goes OFF, the taper timer is cancelled and the settle timer starts
at 5,000 ms; no value of this test is taken yet (R71, R79; log 23). -/
def State.startTest (s : State) : State :=
  (s.withBtu fun b =>
    { b with
      test := .settle
      testMoment := false
      resumeBoost := b.charger == .boost
      taper := none
      settle := some 5000
      v0 := none
      v1 := none
      i1 := none }).setCharger .off

/-- The settle timer expires: V0 is taken, the load goes on for 10,000 ms (R79). -/
def State.settleEnds (s : State) : State :=
  s.withBtu fun b => { b with test := .loaded, settle := none, load := some 10000, v0 := some b.battV }

/-- The load timer expires: V1 and I1 are taken, and the result is computed, handled and shown in battery failed
(R80, R81, R83). The counter of free values moves on (log 13). -/
def State.loadEnds (s : State) : State :=
  let i1 := s.loadCurrent
  let resistance := testResistance (s.btu.v0.getD 0) s.btu.battV i1
  let verdict := testVerdict s.cfg.resistanceLimit s.btu.battV resistance
  let taken := { s with free := s.free + 1 }
  (taken.withBtu fun b => { b with load := none, v1 := some b.battV, i1 := some i1, failed := verdict == .fail }).handleResult
    verdict resistance none

end Sys2Proof.Machine
end

