-- ==== Sys2Proof/Machine/Tags.lean ====
section
/-! DEFINITION. The tag table of the TGU: entering and removing tags, the overflow record, tag in force, the tag store and the
memory link (R152 to R161). -/

namespace Sys2Proof.Machine

/-! ### Entries (R152) -/

/-- Whether the table holds an entry with this source and code (R152, R153, R155). -/
def State.hasTag (s : State) (source : TagSource) (code : Word16) : Bool :=
  s.tgu.tags.any fun e => e.source == source && e.code == code

/-- An entry is entered at the tail with the present moment as its time applied, and a TAG_ON record (R152). -/
def State.enterTag (s : State) (source : TagSource) (code : Word16) (slot : Option Nat) : State :=
  (s.withTgu fun t =>
      { t with tags := t.tags ++ [{ source := source, code := code, applied := s.now, slot := slot }] }).record
    { kind := .tagOn, tagSource := some source, crewCode := some code, peerId := source.peerId }

/-- An entry is removed, which closes the gap, with a TAG_OFF record (R152). -/
def State.removeTag (s : State) (source : TagSource) (code : Word16) : State :=
  (s.withTgu fun t => { t with tags := t.tags.filter fun e => !(e.source == source && e.code == code) }).record
    { kind := .tagOff, tagSource := some source, crewCode := some code, peerId := source.peerId }

/-! ### The overflow record (R157) -/

/-- The overflow record is empty (R157). -/
def State.clearOverflow (s : State) : State := s.withTgu fun t => { t with overflow := none }

/-- A freed place is offered to the overflow record: a pair it holds is entered with a TAG_ON record (R157). -/
def State.offerPlace (s : State) : State :=
  match s.tgu.overflow with
  | some p => s.clearOverflow.enterTag (.peer p.peer) p.code none
  | none => s

/-- A remote pair is entered at the tail, or goes to the overflow record of a full table with a TAG_OVERFLOW record, replacing
the pair that stood there (R155, R157). -/
def State.enterRemote (s : State) (peer : Nat) (code : Word16) : State :=
  if s.tgu.tags.length < 8 then s.enterTag (.peer peer) code none
  else
    (s.withTgu fun t => { t with overflow := some { peer := peer, code := code } }).record
      { kind := .tagOverflow, peerId := some peer, crewCode := some code }

/-- Whether the table or the overflow record holds a remote pair (R155, R156). -/
def State.holdsPair (s : State) (peer : Nat) (code : Word16) : Bool :=
  s.hasTag (.peer peer) code || s.tgu.overflow == some { peer := peer, code := code }

/-! ### Tag in force (R158) -/

/-- An event that touches the table or the overflow record, applied whole and then judged: when tag in force begins, the SQC acts
by its state and the OCU ends both holds (R36, R140, R158). Its end moves nothing. -/
def State.tagEvent (s : State) (event : State → State) : State :=
  let after := event s
  after.onlyIf (!s.tagInForce && after.tagInForce) fun s => s.sqcTagOn.endHolds (.lock .tagged)

/-! ### The tag store and the memory link (R160, R161, R175) -/

/-- The tag store image of some table: count, up to four local entries in table order, zeros, and the sum (R160). -/
def storeImage (tags : List TagEntry) : List Byte :=
  let locals := (tags.filter (·.source.isLocal)).take 4
  let body := beBytes 1 locals.length ++ locals.flatMap (fun e => beBytes 1 e.source.sourceCode ++ beBytes 2 e.code.toNat) ++
    List.replicate (12 - 3 * locals.length) 0#8
  body ++ beBytes 2 (byteSum body)

/-- A settings read takes the memory link; the memory has 20 ms to answer its 0x5C (R175). -/
def Svp.beginRead (v : Svp) : Svp := { v with link := .read, linkTimer := some 20 }

/-- A tag store write takes the memory link at a station time; 20 ms from its last byte it ends without acknowledgement (R160,
R175). When the last byte has gone is free (log 44). -/
def Svp.beginWrite (v : Svp) (now : Word32) : Svp :=
  { v with link := .write, linkTimer := some (Config.writeSending now + 20) }

/-- The memory link is free (R175). -/
def Svp.release (v : Svp) : Svp := { v with link := .free, linkTimer := none }

/-- Whether a write on the link may end so: with its acknowledgement once its last byte has gone, without it when its 20 ms are
over (R160, R175). -/
def Svp.writeEnds (v : Svp) (acknowledged : Bool) : Bool :=
  v.link == .write && (if acknowledged then v.lastByteGone else due v.linkTimer)

/-- Whether a settings read on the link may end so: incomplete when its 20 ms are over and no 0x5C has come, complete while it
waits for the 0x5C, which then comes with it, or after it (R175; log 19). -/
def Svp.readEnds (v : Svp) : MemRead → Bool
  | .incomplete => v.link == .read && due v.linkTimer
  | .complete _ => v.link == .read || v.link == .image

/-- The memory has answered 0x5C: the image follows, and the 20 ms are over with it (R175). -/
def Svp.answerRead (v : Svp) : Svp := if v.link == .read then { v with link := .image, linkTimer := none } else v

/-- A tag store write starts, with the image built from the local entries as they stand (R160). -/
def State.startWrite (s : State) : State :=
  (s.withTgu fun t =>
    { t with writing := true, writeAgain := false, writeImage := storeImage t.tags }).withSvp fun v => v.beginWrite s.now

/-- A tag store write is asked for: at once in IDLE, else write again. While a settings read holds the link, the write waits as
write again and begins when the read ends (R160, R180; log 20). -/
def State.requestWrite (s : State) : State :=
  if s.tgu.writing then s.withTgu fun t => { t with writeAgain := true }
  else if s.svp.link == .free then s.startWrite
  else s.withTgu fun t => { t with writing := true, writeAgain := true }

/-- The write state returns to IDLE (R160). -/
def State.idleWrite (s : State) : State := s.withTgu fun t => { t with writing := false, writeImage := [] }

/-- What follows on the link when a write has ended: a waiting settings read first, then a write asked for again (R160). -/
def State.afterWrite (s : State) : State :=
  if s.svp.readWaits then
    (s.onlyIf (!s.tgu.writeAgain) State.idleWrite).withSvp fun v =>
      { v.beginRead with readWaits := false }
  else if s.tgu.writeAgain then s.startWrite
  else s.idleWrite.withSvp Svp.release

/-- The end of a tag store write: an acknowledgement clears tag store fault, its absence sets it with a TAG_STORE_FAULT record
(R160). -/
def State.endWrite (s : State) (acknowledged : Bool) : State :=
  let judged :=
    if acknowledged then s.withTgu fun t => { t with storeFault := false }
    else (s.withTgu fun t => { t with storeFault := true }).record { kind := .tagStoreFault, reason := some .write }
  judged.afterWrite

/-- The end of a settings read on the link: a write that waits begins (R160, R180). -/
def State.freeLink (s : State) : State :=
  if s.tgu.writeAgain then s.startWrite else s.withSvp Svp.release

/-- A settings read is asked for: at once on a free link, else it waits for the write in progress (R160, R180). -/
def State.requestRead (s : State) : State :=
  s.withSvp fun v => if v.link == .free then v.beginRead else { v with readWaits := true }

/-! ### Local changes (R153, R154) -/

/-- How a local apply is judged (R153). -/
inductive ApplyResult where
  | unchanged
  | full
  | entered
  deriving DecidableEq, Repr

/-- The judgement of a local apply, in the order of R153's table. -/
def State.applyResult (s : State) (source : TagSource) (code : Word16) : ApplyResult :=
  if s.hasTag source code then .unchanged
  else if 4 ≤ (s.tgu.tags.filter (·.source.isLocal)).length ∨ 8 ≤ s.tgu.tags.length then .full
  else .entered

/-- A local apply: an entry entered at the tail with its Tag notice and a tag store write, or no change (R153). -/
def State.localApply (s : State) (source : TagSource) (code : Word16) (slot : Option Nat) : State :=
  s.onlyIf (s.applyResult source code == .entered) fun s =>
    s.tagEvent fun s => ((s.enterTag source code slot).buildTag code).requestWrite

/-- The entry that a local removal takes out: the key's own source first, then the other, the STORE entry, and the oldest
unclaimed local entry (R143, R154). -/
def State.removalChoice (s : State) (own other : TagSource) (code : Word16) : Option TagEntry :=
  let held (source : TagSource) := s.tgu.tags.find? fun e => e.source == source && e.code == code
  (((held own).or (held other)).or (s.tgu.tags.find? fun e => e.source == .store)).or
    (s.tgu.tags.find? fun e => e.source.isLocal && e.slot.isNone)

/-- A local removal: the entry chosen leaves with its Untag notice and a tag store write, and its place is offered to the
overflow record; nothing is changed when none is found (R154, R157). -/
def State.localRemoval (s : State) (own other : TagSource) (code : Word16) : State :=
  match s.removalChoice own other code with
  | none => s
  | some e =>
    s.tagEvent fun s => (((s.removeTag e.source e.code).buildUntag e.code).requestWrite).offerPlace

/-! ### Peers' tags (R155, R156) -/

/-- A peer tag (R155). -/
def State.peerTag (s : State) (peer : Nat) (code : Word16) : State :=
  s.onlyIf (!s.holdsPair peer code) fun s => s.tagEvent fun s => s.enterRemote peer code

/-- A peer untag (R155). -/
def State.peerUntag (s : State) (peer : Nat) (code : Word16) : State :=
  s.tagEvent fun s =>
    if s.hasTag (.peer peer) code then (s.removeTag (.peer peer) code).offerPlace
    else s.onlyIf (s.tgu.overflow == some { peer := peer, code := code }) State.clearOverflow

/-- The sender's remote entries whose code is not in its list (R156). -/
def State.strayTags (s : State) (peer : Nat) (codes : List Word16) : List TagEntry :=
  s.tgu.tags.filter fun e => e.source == .peer peer && !codes.contains e.code

/-- The first step of a peer tag list: strays leave the table and the overflow record. Several strays make their TAG_OFF records
in table order, oldest first; R156 and R163 give them no order (log 6). -/
def State.dropStrays (s : State) (peer : Nat) (codes : List Word16) : State :=
  let removed := (s.strayTags peer codes).foldl (fun s e => s.removeTag e.source e.code) s
  match removed.tgu.overflow with
  | some p => removed.onlyIf (p.peer == peer && !codes.contains p.code) State.clearOverflow
  | none => removed

/-- The third step of a peer tag list: each code not yet held is entered, in list order, a repeated code once, at its first place
(R156). -/
def State.enterList (s : State) (peer : Nat) (codes : List Word16) : State :=
  codes.eraseDups.foldl (fun s code => s.onlyIf (!s.holdsPair peer code) fun s => s.enterRemote peer code) s

/-- A peer tag list, one event in three steps: strays out, freed places offered, missing codes in (R156). -/
def State.peerTagList (s : State) (peer : Nat) (codes : List Word16) : State :=
  s.tagEvent fun s =>
    let dropped := s.dropStrays peer codes
    let offered := dropped.onlyIf (!(s.strayTags peer codes).isEmpty) State.offerPlace
    offered.enterList peer codes

/-! ### The restore at cold start (R161) -/

/-- Entry `k` of a tag store image, as a local source and code where it is one (R160, R161). -/
def storeEntry (bytes : List Byte) (k : Nat) : Option (TagSource × Word16) :=
  let code : Word16 := BitVec.ofNat 16 (field bytes (2 + 3 * k) 2)
  match field bytes (1 + 3 * k) 1 with
  | 1 => if code = 0 then none else some (.localPanel, code)
  | 2 => if code = 0 then none else some (.service, code)
  | 3 => if code = 0 then some (.store, code) else none
  | _ => none

/-- The entries of a good tag store image; none for a bad image or an incomplete read (R161). -/
def judgeStore : MemRead → Option (List (TagSource × Word16))
  | .incomplete => none
  | .complete bytes =>
    let count := field bytes 0 1
    let entries := (List.range count).filterMap (storeEntry bytes)
    if bytes.length = 15 ∧ byteSum (bytes.take 13) % 65536 = field bytes 13 2 ∧ count ≤ 4 ∧ entries.length = count ∧
        entries.Nodup ∧ ((bytes.take 13).drop (1 + 3 * count)).all (· == 0#8) then some entries
    else none

/-- The restore of the tag store into the empty table: the stored entries, or one STORE entry with tag store fault and a
TAG_STORE_FAULT record (R161). -/
def State.restoreTags (s : State) (read : MemRead) : State :=
  match judgeStore read with
  | some entries =>
    s.withTgu fun t =>
      { t with
        tags := entries.map fun e => { source := e.1, code := e.2, applied := s.now, slot := s.cfg.crewSlot e.2 }
        storeFault := false }
  | none =>
    (s.withTgu fun t =>
        { t with tags := [{ source := .store, code := 0, applied := s.now, slot := none }], storeFault := true }).record
      { kind := .tagStoreFault, reason := some .image }

end Sys2Proof.Machine
end

