-- ==== Sys2Proof/Machine/Crew.lean ====
section
/-! DEFINITION. The wand decoder, the crew window, the tone and the panel keys of the TGU (R144 to R151). -/

namespace Sys2Proof.Machine

/-! ### The decoder (R144, R145) -/

/-- Whether a width lies within its nominal value ± T (R145). -/
def widthOk (nominal tolerance width : Nat) : Bool := decide (nominal ≤ width + tolerance) && decide (width ≤ nominal + tolerance)

/-- What the decoder makes of one judgement of R145: nothing, an abort, a next state with the bits received after it, or a complete
code. -/
inductive Verdict where
  | nothing
  | abort
  | goes (place : Decoder) (bits : List Bool)
  | complete
  deriving DecidableEq, Repr

/-- Whether a verdict moves the decoder on (R145). -/
def Verdict.moves : Verdict → Bool
  | .goes _ _ => true
  | _ => false

/-- Where the decoder goes after bit `i` (R145). -/
def nextMark (i : Nat) : Decoder := if 31 ≤ i then .trailer else .mark (i + 1)

/-- A mark is confirmed, and so closes a space of the given width (R145). -/
def judgeSpace (d : Decoder) (tolerance : Nat) (bits : List Bool) (space : Nat) : Verdict :=
  match d with
  | .wait => .nothing
  | .hspace => if widthOk 200 tolerance space then .goes (.mark 0) bits else .abort
  | .mark _ => .nothing
  | .space i =>
    if widthOk 50 tolerance space then .goes (nextMark i) (bits ++ [false])
    else if widthOk 150 tolerance space then .goes (nextMark i) (bits ++ [true])
    else .abort
  | .trailer => .nothing
  | .silence => if space < 1000 then .abort else .nothing

/-- A confirmed mark ends with the given width (R145). -/
def judgeMark (d : Decoder) (tolerance : Nat) (bits : List Bool) (width : Nat) : Verdict :=
  match d with
  | .wait => if widthOk 400 tolerance width then .goes .hspace [] else .nothing
  | .hspace => .nothing
  | .mark i => if widthOk 50 tolerance width then .goes (.space i) bits else .abort
  | .space _ => .nothing
  | .trailer => if widthOk 50 tolerance width then .goes .silence bits else .abort
  | .silence => .nothing

/-- A space still running has reached the given width with no mark in it but glitches: it is judged when it has passed its longest
range, and after the trailer the code is complete at 1000 units (R144, R145). -/
def judgeSpacePassing (d : Decoder) (tolerance width : Nat) : Verdict :=
  match d with
  | .wait => .nothing
  | .hspace => if 200 + tolerance < width then .abort else .nothing
  | .mark _ => .nothing
  | .space _ => if 150 + tolerance < width then .abort else .nothing
  | .trailer => .nothing
  | .silence => if 1000 ≤ width then .complete else .nothing

/-- A confirmed mark still running has reached the given width; it is judged when it has passed its range (R145). -/
def judgeMarkPassing (d : Decoder) (tolerance width : Nat) : Verdict :=
  match d with
  | .wait => .nothing
  | .hspace => .nothing
  | .mark _ => if 50 + tolerance < width then .abort else .nothing
  | .space _ => .nothing
  | .trailer => if 50 + tolerance < width then .abort else .nothing
  | .silence => .nothing

/-- A verdict is carried out: an abort returns to WAIT, empties the bits and counts one reject; a complete code returns to WAIT with
its bits (R145). -/
def Tgu.follow (t : Tgu) : Verdict → Tgu
  | .nothing => t
  | .abort => { t with decoder := .wait, bits := [], wandRejects := count16 t.wandRejects }
  | .goes place bits => { t with decoder := place, bits := bits }
  | .complete => { t with decoder := .wait }

/-- A space runs at the given width (R144, R145). -/
def Tgu.spaceAt (t : Tgu) (tolerance width : Nat) : Tgu × List Verdict :=
  let verdict := judgeSpacePassing t.decoder tolerance width
  ({ t.follow verdict with line := .space width }, [verdict])

/-- A confirmed mark runs at the given width (R144, R145). -/
def Tgu.markAt (t : Tgu) (tolerance width : Nat) : Tgu × List Verdict :=
  let verdict := judgeMarkPassing t.decoder tolerance width
  ({ t.follow verdict with line := .mark width }, [verdict])

/-- A mark that has run for a width since it rose in a space of a given width: below 10 units it is not confirmed, and the decoder
judges nothing; at 10 it is, and closes the space (R144, R145). -/
def Tgu.markFrom (t : Tgu) (tolerance space width : Nat) : Tgu × List Verdict :=
  if width < 10 then ({ t with line := .rising space width }, [])
  else
    let verdict := judgeSpace t.decoder tolerance t.bits space
    let (after, later) := (t.follow verdict).markAt tolerance width
    (after, verdict :: later)

/-- A confirmed mark of a given width ends, and a space has run since (R144, R145). -/
def Tgu.markEnds (t : Tgu) (tolerance width space : Nat) : Tgu × List Verdict :=
  let verdict := judgeMark t.decoder tolerance t.bits width
  let (after, later) := (t.follow verdict).spaceAt tolerance space
  (after, verdict :: later)

/-- A run of the WAND line at the decoder, with the verdicts it brings. A mark that falls before it is confirmed is a glitch, and the
space goes on as though there had been none (R144). -/
def Tgu.wandRun (t : Tgu) (tolerance : Nat) (run : WandRun) : Tgu × List Verdict :=
  match t.line, run.active with
  | .space space, true => t.markFrom tolerance space run.units
  | .space space, false => t.spaceAt tolerance (space + run.units)
  | .rising space width, true => t.markFrom tolerance space (width + run.units)
  | .rising space width, false => t.spaceAt tolerance (space + width + run.units)
  | .mark width, true => t.markAt tolerance (width + run.units)
  | .mark width, false => t.markEnds tolerance width run.units

/-- Runs of the WAND line at the decoder, one after another. -/
def Tgu.wandRuns (t : Tgu) (tolerance : Nat) : List WandRun → Tgu × List Verdict
  | [] => (t, [])
  | run :: rest =>
    let (after, verdicts) := t.wandRun tolerance run
    let (last, later) := after.wandRuns tolerance rest
    (last, verdicts ++ later)

/-- Whether runs of the WAND line bring no verdict but those of a command's own kind (log 37). -/
def State.wandBrings (s : State) (runs : List WandRun) (own : Verdict → Bool) : Bool :=
  (s.tgu.wandRuns s.cfg.wandTolerance runs).2.all fun v => v == .nothing || own v

/-- The WAND line followed by a command of the wand: runs that bring no verdict, or verdicts of the command's own kind alone, are
carried out, and runs that bring another change nothing (R144, R145; log 37). -/
def State.followWand (s : State) (runs : List WandRun) (own : Verdict → Bool) : State :=
  s.onlyIf (s.wandBrings runs own) fun s => s.withTgu fun t => (t.wandRuns s.cfg.wandTolerance runs).1

/-! ### The code (R146) -/

/-- The number that bits spell, least significant first (R145). -/
def bitsValue : List Bool → Nat
  | [] => 0
  | b :: rest => (if b then 1 else 0) + 2 * bitsValue rest

/-- Bits 0..15 and bits 16..31 of the bits received, as two numbers (R146). -/
def lowCode (bits : List Bool) : Word16 := BitVec.ofNat 16 (bitsValue (bits.take 16))
def highCode (bits : List Bool) : Word16 := BitVec.ofNat 16 (bitsValue ((bits.drop 16).take 16))

/-! ### The crew window and the tone (R147, R148) -/

/-- The error tone starts, or starts again, at 1,000 ms (R148). -/
def State.startErrorTone (s : State) : State := s.withTgu fun t => { t with errorTone := some 1000 }

/-- The crew window opens, or takes a new code, with its 10,000 ms and the tone's on phase (R147, R148; log 38). -/
def State.openWindow (s : State) (code : Word16) (slot : Nat) : State :=
  s.withTgu fun t =>
    { t with window := some { code := code, slot := slot, left := 10000 }, toneOn := true, tonePhase := some 250 }

/-- The crew window closes, and the toggling with it (R147, R148). -/
def State.closeWindow (s : State) : State :=
  s.withTgu fun t => { t with window := none, toneOn := false, tonePhase := none }

/-- The next 250 ms phase of the window's tone (R148). -/
def State.toggleTone (s : State) : State :=
  s.withTgu fun t => { t with toneOn := !t.toneOn, tonePhase := some 250 }

/-- A complete code: a complement failure is a reject; a known code goes to the crew window; an unknown one makes an UNKNOWN_CREW
record, starts the error tone and closes the window (R146). -/
def State.completeCode (s : State) : State :=
  let code := lowCode s.tgu.bits
  let waiting := s.withTgu fun t => { t with decoder := .wait }
  if highCode s.tgu.bits ≠ ~~~code then waiting.withTgu fun t => { t with wandRejects := count16 t.wandRejects }
  else
    match s.cfg.crewSlot code with
    | some slot => waiting.openWindow code slot
    | none => ((waiting.record { kind := .unknownCrew, crewCode := some code }).startErrorTone).closeWindow

/-- The WAND line followed to the end of a code: where its runs bring the 1000 units of silence, and no other verdict, the code is
complete (R145, R146; log 37). -/
def State.followCode (s : State) (runs : List WandRun) : State :=
  (s.followWand runs (· == .complete)).onlyIf
    (s.wandBrings runs (· == .complete) && (s.tgu.wandRuns s.cfg.wandTolerance runs).2.contains .complete) State.completeCode

/-! ### Panel keys (R149, R150) -/

/-- A key's debounced state follows; only a change to pressed is a press (R149; log 11). -/
def State.keyChange (s : State) (pressed : Bool) (follow : Keys → Keys) (press : State → State) : State :=
  (s.withTgu fun t => { t with keys := follow t.keys }).onlyIf pressed press

/-- A Trip press: an operator trip, whose refusal starts the error tone (R39, R148, R149). -/
def State.tripPress (s : State) : State :=
  if s.operatorTripAnswer == .done then s.operatorTrip else s.startErrorTone

/-- A Close press: an operator close, whose refusal starts the error tone (R40, R148, R149). -/
def State.closePress (s : State) : State :=
  if s.operatorCloseAnswer == .done then s.operatorClose else s.startErrorTone

/-- A Tag-On press: a local apply under the open window, which closes; a refused apply starts the error tone (R150). -/
def State.tagOnPress (s : State) : State :=
  match s.tgu.window with
  | none => s
  | some w =>
    ((s.localApply .localPanel w.code (some w.slot)).closeWindow).onlyIf (s.applyResult .localPanel w.code == .full)
      State.startErrorTone

/-- A Tag-Off press: a panel removal under the open window, which closes; a removal that finds nothing starts the error tone
(R150, R154). -/
def State.tagOffPress (s : State) : State :=
  match s.tgu.window with
  | none => s
  | some w =>
    ((s.localRemoval .localPanel .service w.code).closeWindow).onlyIf
      (s.removalChoice .localPanel .service w.code).isNone State.startErrorTone

/-! ### The lock handle (R151) -/

/-- The handle goes down: handed to the SQC and the BTU, in the order the command picks (R44, R82, R151; log 8). -/
def State.handleGoesDown (s : State) (btuFirst : Bool) : State :=
  let down := s.withTgu fun t => { t with handleDown := true }
  if btuFirst then (down.abandonTest .handle).sqcHandleDown else (down.sqcHandleDown).abandonTest .handle

end Sys2Proof.Machine
end

