-- ==== Sys2Proof/Machine/Status.lean ====
section
/-! DEFINITION. What the service port sends of the part's state: the Read-Status items, the event record as software sees it, the
peer table and the tag table (R165, R168, R173, R174). The codings that R173 leaves open are those of log 18. -/

namespace Sys2Proof.Machine

/-! ### Codings (R173) -/

/-- A flag is 1 when set, a yes when yes, an enable when on (R173; log 18). -/
def flagByte (b : Bool) : List Byte := beBytes 1 (if b then 1 else 0)

/-- The place of the first of two states for true, of the second for false (R173; log 18). -/
def placeByte (first : Bool) : List Byte := beBytes 1 (if first then 0 else 1)

/-- Two bytes of a number. -/
def word (v : Nat) : List Byte := beBytes 2 v

/-- An item that may be absent: no bytes when it is (R173). -/
def optionalItem {α : Type} (f : α → List Byte) : Option α → List Byte
  | some v => f v
  | none => []

/-- The place of the trip request's state (3.1, R173). -/
def TripRequest.code : TripRequest → Nat
  | .none => 0
  | .wait => 1
  | .first => 2
  | .retripWait => 3
  | .retrip => 4
  | .attempt => 5

/-- The place of the pulse in progress (3.1, R173). -/
def Pulse.code : Pulse → Nat
  | .none => 0
  | .trip => 1
  | .close => 2

/-- The place of the position: Closed, Open, Indeterminate (3.1, R173). -/
def Position.statusCode : Position → Nat
  | .closed => 0
  | .opened => 1
  | .indeterminate => 2

/-- The place of the charger mode (4.1, R173). -/
def Charger.code : Charger → Nat
  | .off => 0
  | .float => 1
  | .boost => 2

/-- The place of the test state (4.1, R173). -/
def TestState.code : TestState → Nat
  | .idle => 0
  | .pending => 1
  | .settle => 2
  | .loaded => 3

/-- The place of the transmit state (chapter 05's table, R173). -/
def TxState.code : TxState → Nat
  | .idle => 0
  | .defer => 1
  | .backoff => 2
  | .keyUp => 3
  | .sending => 4
  | .keyDown => 5

/-- The place of the receive state (chapter 05's table, R173). -/
def RxState.code : RxState → Nat
  | .hunt => 0
  | .sync1 => 1
  | .body => 2

/-- The place of the decoder state, whatever its bit (chapter 08's table, R173). -/
def Decoder.code : Decoder → Nat
  | .wait => 0
  | .hspace => 1
  | .mark _ => 2
  | .space _ => 3
  | .trailer => 4
  | .silence => 5

/-- The place of the settings fault reason (chapter 10's table, R173). -/
def SettingsFault.code : SettingsFault → Nat
  | .sum => 1
  | .version => 2
  | .range => 3
  | .curve => 4

/-! ### Read-Status, part 0 (R173) -/

/-- One group of items: two naming bytes, a size and the value for each (R173). -/
def statusGroup (group : Nat) (items : List (List Byte)) : List Byte :=
  (items.zipIdx.map fun e => beBytes 1 group ++ beBytes 1 e.2 ++ beBytes 1 e.1.length ++ e.1).flatten

/-- An element's items: M, pickup state, accumulator (R173). -/
def elementItems (e : Element) : List (List Byte) := [word e.m, placeByte e.picked, beBytes 3 e.acc]

/-- A kind's items: hold record standing, its four fields, own-order mark (R173). -/
def kindItems (k : KindState) : List (List Byte) :=
  [flagByte k.hold.isSome, optionalItem (fun h => beBytes 1 h.holder) k.hold, optionalItem (fun h => beBytes 1 h.position) k.hold,
    optionalItem (fun h : Hold => beBytes 4 h.begunAt.toNat) k.hold, optionalItem (fun h : Hold => beBytes 4 h.endsAt.toNat) k.hold,
    flagByte k.ownOrder]

/-- The lockout reason as Read-Status shows it: none is 0 (2.1, R38, R173). -/
def reasonByte (r : Option LockReason) : List Byte := beBytes 1 ((r.map LockReason.code).getD 0)

/-- The remaining milliseconds of the beacon timer, 0 when idle (R119, R173). -/
def State.beaconLeft (s : State) : Nat :=
  match s.pru.beacon with
  | some t => t.span - elapsed s.now t.reference
  | none => 0

/-- The items of groups 1 to 5 (R173). -/
def State.statusHead (s : State) : List Byte :=
  statusGroup 1 [word s.mfp.badFrames, word s.mfp.framesMissed, flagByte s.mfp.stalled, flagByte s.mfp.lost] ++
  statusGroup 2 (s.ocu.elems.toList.flatMap elementItems ++ kindItems s.ocu.phase ++ kindItems s.ocu.ground) ++
  statusGroup 3
    [beBytes 1 s.sqc.seq.code, beBytes 1 s.sqc.shots, reasonByte s.sqc.reason, flagByte s.sqc.manualWindow.isSome,
      flagByte s.startHoldOn] ++
  statusGroup 4
    [word s.cdu.tripV, word s.cdu.closeV, flagByte s.cdu.tripReady, flagByte s.cdu.closeReady, flagByte s.cdu.tcen,
      flagByte s.cdu.ccen, flagByte s.cdu.closeBarred, beBytes 1 s.cdu.pulse.code, beBytes 1 s.cdu.tripRequest.code,
      flagByte s.cdu.closeRequest, placeByte s.cdu.closedMade, placeByte s.cdu.openMade, beBytes 1 s.position.statusCode,
      flagByte s.cdu.positionFault, beBytes 4 s.cdu.operations.toNat] ++
  statusGroup 5
    [word s.btu.battV, signedBytes s.btu.battI, signedBytes s.btu.temperature, placeByte s.btu.acPresent,
      beBytes 1 s.btu.reserve.code, beBytes 1 s.btu.charger.code, flagByte s.btu.resumeBoost, word s.btu.setpointSent,
      beBytes 1 s.btu.test.code, beBytes 1 s.btu.sources.code, beBytes 1 ((s.btu.lastResult.map TestResult.code).getD 0),
      optionalItem word s.btu.lastResistance]

/-- The items of groups 6 to 10 (R173). -/
def State.statusTail (s : State) : List Byte :=
  statusGroup 6
    [beBytes 1 s.chc.front.length, beBytes 1 s.chc.status.length, beBytes 1 s.chc.tx.code, beBytes 1 s.chc.rx.code,
      flagByte s.chc.latch, beBytes 1 s.chc.queue.length, beBytes 1 s.chc.reportsLost, word s.chc.framesSent,
      word s.chc.attemptsFailed, word s.chc.framesAccepted, word s.chc.checkFailures, word s.chc.receiveAborts,
      word s.chc.receiveOverruns] ++
  statusGroup 7
    [[s.pru.nextSeq], [s.pru.lastEvent], beBytes 3 s.beaconLeft, word s.pru.reportsRefused, word s.pru.duplicates,
      word s.pru.framesUnentered, beBytes 1 (s.pru.peers.reduceOption).length,
      beBytes 1 ((s.pru.peers.reduceOption).filter (·.silent)).length] ++
  statusGroup 8
    [flagByte s.tagInForce, flagByte s.tgu.overflow.isSome, flagByte s.tgu.storeFault, flagByte s.tgu.window.isSome,
      optionalItem (fun w : CrewWindow => word w.code.toNat) s.tgu.window, word ((s.tgu.window.map (·.left)).getD 0),
      beBytes 1 s.tgu.decoder.code, word s.tgu.wandRejects, placeByte s.tgu.keys.trip, placeByte s.tgu.keys.close,
      placeByte s.tgu.keys.tagOn, placeByte s.tgu.keys.tagOff, placeByte s.tgu.keys.battery, placeByte (!s.tgu.handleDown)] ++
  statusGroup 9
    [beBytes 1 s.rcs.unread, beBytes 4 s.rcs.next.toNat, beBytes 1 s.rcs.ring.length,
      optionalItem (fun r : EventRecord => beBytes 4 r.number.toNat) s.rcs.ring.head?] ++
  statusGroup 10
    [placeByte s.svp.fromImage, beBytes 1 ((s.svp.faultReason.map SettingsFault.code).getD 0), word s.svp.discarded,
      word s.svp.badRequests]

/-- The payload of a Read-Status answer (R173). -/
def State.statusPayload (s : State) : StatusPart → List Byte
  | .items => s.statusHead ++ s.statusTail
  | .settings => encodeImage s.cfg

/-! ### Event records (R165, R168, R174) -/

/-- The fields of a record in the order of their presence bits, absent ones as none (R165). -/
def RecordBody.fields (b : RecordBody) : List (Option (List Byte)) :=
  [b.elements.map fun e => beBytes 1 e.code, b.peak.map word, b.tripNumber.map (beBytes 1), b.shots.map (beBytes 1),
    b.reason.map fun r => beBytes 1 r.code, b.crewCode.map fun c => word c.toNat, b.peerId.map (beBytes 1),
    b.tagSource.map fun t => beBytes 1 t.sourceCode, b.seqState.map fun q => beBytes 1 q.code,
    b.reserve.map fun r => beBytes 1 r.code, b.battV.map word, b.v0.map word, b.v1.map word, b.i1.map signedBytes,
    b.resistance.map word, b.outcome.map fun o => beBytes 1 (o.result.code + 4 * o.sources.code),
    b.operations.map fun n => beBytes 4 n.toNat]

/-- The presence bits of a record (R165). -/
def RecordBody.presence (b : RecordBody) : Nat :=
  (b.fields.zipIdx.map fun e => bit e.2 e.1.isSome).sum

/-- A record as it is returned: a header of 12 bytes and the fields present (R165). -/
def EventRecord.bytes (r : EventRecord) : List Byte :=
  beBytes 4 r.number.toNat ++ beBytes 4 r.time.toNat ++ beBytes 1 r.body.kind.code ++ beBytes 3 r.body.presence ++
    (r.body.fields.reduceOption).flatten

/-- Where the answer to Read-Records-From begins in the ring: at the record named if it is held, past the end for the next
number, else at the oldest (R168). -/
def Rcs.readStart (r : Rcs) (n : Word32) : Nat :=
  match r.ring.findIdx? (·.number == n) with
  | some i => i
  | none => if n = r.next then r.ring.length else 0

/-- The records that Read-Records-From returns, up to 4 (R168). -/
def Rcs.readFrom (r : Rcs) (n : Word32) : List EventRecord := (r.ring.drop (r.readStart n)).take 4

/-- The unread count after a read: the records newer than the last returned, 0 with none returned (R168). -/
def Rcs.unreadAfter (r : Rcs) (n : Word32) : Nat := r.ring.length - (r.readStart n + 4)

/-- The payload of a Read-Records-From answer: a count and the records (R174). -/
def Rcs.readPayload (r : Rcs) (n : Word32) : List Byte :=
  beBytes 1 (r.readFrom n).length ++ (r.readFrom n).flatMap EventRecord.bytes

/-! ### Tables (R174) -/

/-- Bytes filled up with 0 to a length (R174). -/
def padTo (n : Nat) (l : List Byte) : List Byte := l ++ List.replicate (n - l.length) 0#8

/-- An entry of the peer table in 31 bytes (R174). -/
def PeerEntry.bytes (e : PeerEntry) : List Byte :=
  beBytes 1 e.id ++ beBytes 1 e.position ++
    beBytes 1 (bit 0 e.lastSeq.isSome + bit 1 e.summary.isSome + bit 2 e.fault.isSome + bit 3 e.silent) ++
    [e.lastSeq.getD 0] ++ beBytes 4 e.lastHeard.toNat ++ padTo 8 (e.summary.getD []) ++
    beBytes 1 ((e.fault.map (·.kind.code)).getD 0) ++ beBytes 4 ((e.fault.map (·.time.toNat)).getD 0) ++
    beBytes 1 ((e.fault.map (·.payload.length)).getD 0) ++ padTo 9 ((e.fault.map (·.payload)).getD [])

/-- The payload of a Read-Peer-Table answer: the entries in the order of their places (R174). -/
def State.peerPayload (s : State) : List Byte :=
  beBytes 1 (s.pru.peers.reduceOption).length ++ (s.pru.peers.reduceOption).flatMap PeerEntry.bytes

/-- An entry of the tag table in 9 bytes (R174). -/
def TagEntry.bytes (e : TagEntry) : List Byte :=
  beBytes 1 e.source.sourceCode ++ beBytes 1 (e.source.peerId.getD 0) ++ word e.code.toNat ++ beBytes 4 e.applied.toNat ++
    beBytes 1 (e.slot.getD 0xFF)

/-- The overflow record in 4 bytes: presence, peer id, crew code (R174). -/
def overflowBytes : Option RemotePair → List Byte
  | some p => [1#8] ++ beBytes 1 p.peer ++ word p.code.toNat
  | none => [0#8, 0#8, 0#8, 0#8]

/-- The write state: 0 IDLE, 1 WRITING, 2 WRITING with write again set (R174). -/
def Tgu.writeCode (t : Tgu) : Nat := if t.writing then (if t.writeAgain then 2 else 1) else 0

/-- The payload of a Read-Tag-Table answer (R174). -/
def State.tagPayload (s : State) : List Byte :=
  beBytes 1 s.tgu.tags.length ++ s.tgu.tags.flatMap TagEntry.bytes ++ overflowBytes s.tgu.overflow ++
    flagByte s.tgu.storeFault ++ beBytes 1 s.tgu.writeCode

end Sys2Proof.Machine
end

