-- ==== Sys2Proof/Machine/Port.lean ====
section
/-! DEFINITION. The service port: assembling a request frame, the requests and their answers (R170 to R174, R180). -/

namespace Sys2Proof.Machine

/-! ### Responses (R171) -/

/-- A response frame: 0xB5, a two-byte length, the request code, the answer, the payload and the closing sum (R171). -/
def responseFrame (code : Byte) (answer : Answer) (payload : List Byte) : List Byte :=
  let head := [0xB5#8] ++ word (payload.length + 3) ++ [code] ++ beBytes 1 answer.code ++ payload
  head ++ [closingSum head]

/-- A response goes out: the service state is ANSWERING (R171). -/
def State.respond (s : State) (code : Byte) (answer : Answer) (payload : List Byte) : State :=
  s.withSvp fun v => { v with service := .answering, response := responseFrame code answer payload }

/-! ### Requests (R172) -/

/-- The request codes (R172). -/
def Request.code : Request → Byte
  | .readStatus _ => 0x01#8
  | .readRecordsFrom _ => 0x02#8
  | .readPeerTable => 0x03#8
  | .readTagTable => 0x04#8
  | .operatorTrip => 0x10#8
  | .operatorClose => 0x11#8
  | .tagApply _ => 0x20#8
  | .tagRemove _ => 0x21#8
  | .batteryTest => 0x30#8
  | .settingsRestart => 0x40#8

/-- A request with no payload (R172). -/
def plainRequest (payload : List Byte) (r : Request) : Option Request := if payload.isEmpty then some r else none

/-- The request that a code and a payload make; none is a bad request (R171, R172). -/
def parseRequest (code : Byte) (payload : List Byte) : Option Request :=
  match code.toNat with
  | 0x01 => if payload = [0#8] then some (.readStatus .items) else if payload = [1#8] then some (.readStatus .settings) else none
  | 0x02 => if payload.length = 4 then some (.readRecordsFrom (BitVec.ofNat 32 (field payload 0 4))) else none
  | 0x03 => plainRequest payload .readPeerTable
  | 0x04 => plainRequest payload .readTagTable
  | 0x10 => plainRequest payload .operatorTrip
  | 0x11 => plainRequest payload .operatorClose
  | 0x20 => if payload.length = 2 then some (.tagApply (BitVec.ofNat 16 (field payload 0 2))) else none
  | 0x21 => if payload.length = 2 then some (.tagRemove (BitVec.ofNat 16 (field payload 0 2))) else none
  | 0x30 => plainRequest payload .batteryTest
  | 0x40 => plainRequest payload .settingsRestart
  | _ => none

/-- Read-Records-From: the records chosen, then the unread count set (R168, R174). -/
def State.serveRecords (s : State) (n : Word32) : State :=
  (s.withRcs fun r => { r with unread := r.unreadAfter n }).respond 0x02#8 .done (s.rcs.readPayload n)

/-- The answer to Tag-Apply (R153). -/
def State.tagApplyAnswer (s : State) (code : Word16) : Answer :=
  if (s.cfg.crewSlot code).isNone then .refusedUnknown
  else if s.applyResult .service code == .full then .refusedFull
  else .done

/-- Tag-Apply: a local apply with source SERVICE of a known code (R153). -/
def State.serveTagApply (s : State) (code : Word16) : State :=
  (s.onlyIf (s.cfg.crewSlot code).isSome fun s => s.localApply .service code (s.cfg.crewSlot code)).respond 0x20#8
    (s.tagApplyAnswer code) []

/-- Tag-Remove: a service removal of a known code, Done whether or not one was found (R154). -/
def State.serveTagRemove (s : State) (code : Word16) : State :=
  if (s.cfg.crewSlot code).isSome then (s.localRemoval .service .localPanel code).respond 0x21#8 .done []
  else s.respond 0x21#8 .refusedUnknown []

/-- Settings-Restart at its taking: RESTARTING with a read asked for, or Refused-State at once (R180). -/
def State.serveRestart (s : State) : State :=
  if s.restartConditions then (s.withSvp fun v => { v with service := .restarting }).requestRead
  else s.respond 0x40#8 .refusedState []

/-- Operator-Trip with its answer (R39). -/
def State.serveTrip (s : State) : State := s.operatorTrip.respond 0x10#8 s.operatorTripAnswer []

/-- Operator-Close with its answer (R40). -/
def State.serveClose (s : State) : State := s.operatorClose.respond 0x11#8 s.operatorCloseAnswer []

/-- A request is acted on and answered as one event (R171, R172). -/
def State.serve (s : State) : Request → State
  | .readStatus part => s.respond 0x01#8 .done (s.statusPayload part)
  | .readRecordsFrom n => s.serveRecords n
  | .readPeerTable => s.respond 0x03#8 .done s.peerPayload
  | .readTagTable => s.respond 0x04#8 .done s.tagPayload
  | .operatorTrip => s.serveTrip
  | .operatorClose => s.serveClose
  | .tagApply code => s.serveTagApply code
  | .tagRemove code => s.serveTagRemove code
  | .batteryTest => (s.requestTest .service).respond 0x30#8 .done []
  | .settingsRestart => s.serveRestart

/-- A request that is none of R172 is answered Bad-Request and counted, to 65535 at the most (R171; log 45). -/
def State.serveBad (s : State) (code : Byte) : State :=
  (s.withSvp fun v => { v with badRequests := count16 v.badRequests }).respond code .badRequest []

/-! ### Assembly (R170) -/

/-- The receive state returns to HUNT with the buffer empty and no gap running (R170). -/
def State.resetAssembly (s : State) : State := s.withSvp fun v => { v with rx := .hunt, buffer := [], gap := none }

/-- A request frame is given up: requests discarded rises, to 65535 at the most, and the receive state returns to HUNT (R170;
log 45). -/
def State.discardRequest (s : State) : State :=
  s.resetAssembly.withSvp fun v => { v with discarded := count16 v.discarded }

/-- A request is taken in LISTEN: the receive state returns to HUNT and the request is served; in the other service states it is
lost (R170, R171; log 12). -/
def State.takeRequest (s : State) (r : Request) : State :=
  s.onlyIf (s.svp.service == .listen) fun s => s.resetAssembly.serve r

/-- A complete frame is judged by its sum and taken (R170, R171). -/
def State.judgeFrame (s : State) (frame : List Byte) : State :=
  if byteSum frame % 256 ≠ 0 then s.discardRequest
  else
    let code := frame.getD 2 0
    let payload := (frame.drop 3).dropLast
    match parseRequest code payload with
    | some r => s.resetAssembly.serve r
    | none => s.resetAssembly.serveBad code

/-- A byte joins the request buffer, and the gap limit starts afresh (R170). -/
def State.bufferByte (s : State) (b : Byte) : State :=
  s.withSvp fun v => { v with buffer := v.buffer ++ [b], gap := some 10 }

/-- A byte or framing error on SRXD in LISTEN (R170). -/
def State.assemble (s : State) (rx : LineByte) : State :=
  match s.svp.rx, rx with
  | .hunt, .byte b =>
    if b = 0x5A#8 then s.withSvp fun v => { v with rx := .length, buffer := [b], gap := some 10 } else s
  | .hunt, .framingError => s
  | .length, .byte b =>
    if 2 ≤ b.toNat ∧ b.toNat ≤ 62 then (s.bufferByte b).withSvp fun v => { v with rx := .body } else s.discardRequest
  | .length, .framingError => s.discardRequest
  | .body, .byte b =>
    let frame := s.svp.buffer ++ [b]
    if frame.length = 2 + field frame 1 1 then s.judgeFrame frame else s.bufferByte b
  | .body, .framingError => s.discardRequest

/-- Whether a request frame may be given up for a cause in the present receive state (R170). -/
def Svp.mayDiscard (v : Svp) : DiscardCause → Bool
  | .badLength => v.rx == .length
  | .framingError => v.rx == .length || v.rx == .body
  | .badSum => v.rx == .body

end Sys2Proof.Machine
end

