-- ==== Sys2Proof/Machine/Peers.lean ====
section
/-! DEFINITION. The receiving side of the PRU: the judgement of a record, the peer table and the hand-offs (R121 to R130). -/

namespace Sys2Proof.Machine

/-! ### The judgement of a record (R123) -/

/-- Whether a payload has the length of its kind and every listed field among its values (R121, R123). -/
def payloadOk (kind : ReportKind) (p : List Byte) : Bool :=
  match kind with
  | .beacon =>
    decide (8 ≤ p.length) && decide (field p 7 1 ≤ 4) && p.length == 8 + 2 * field p 7 1 && decide (field p 0 1 ≤ 7) &&
      decide (field p 1 1 ≤ 4) && decide (field p 2 1 ≤ 2) && decide (field p 3 1 ≤ 2)
  | .pickup => p.length == 4 && decide (field p 3 1 ≤ 4)
  | .trip => p.length == 9 && inRange 1 4 (field p 0 1) && decide (field p 4 1 ≤ 4) && decide (field p 6 1 ≤ 13)
  | .clear => p.length == 2 && decide (field p 1 1 ≤ 1)
  | .lockout => p.length == 2 && inRange 1 13 (field p 0 1) && decide (field p 1 1 ≤ 4)
  | .tag => p.length == 2
  | .untag => p.length == 2
  | .shutdown => p.length == 2

/-- The kind of a record that is not refused (R123). -/
def RxRecord.judged (r : RxRecord) : Option ReportKind :=
  if inRange 1 250 r.sender && inRange 1 63 r.position then
    (reportKindOf r.kind).filter fun kind => payloadOk kind r.payload
  else none

/-! ### The peer table (R124 to R127) -/

/-- The entry in a place of the table. -/
def Pru.entryAt (p : Pru) (i : Nat) : Option PeerEntry := (p.peers[i]?).join

/-- Change one place of the table. -/
def Pru.setPlace (p : Pru) (i : Nat) (e : Option PeerEntry) : Pru := { p with peers := p.peers.set i e }

/-- The place that holds a station's entry (R124). -/
def Pru.placeOf (p : Pru) (id : Nat) : Option Nat :=
  p.peers.findIdx? fun e => (e.map fun x : PeerEntry => x.id == id) == some true

/-- The age of an entry: milliseconds since its last heard (R127). -/
def PeerEntry.age (e : PeerEntry) (now : Word32) : Nat := elapsed now e.lastHeard

/-- The place of the SILENT entry with the oldest last heard, the lowest of those that share it (R124). -/
def Pru.oldestSilent (p : Pru) (now : Word32) : Option Nat :=
  let older (best : Option (Nat × Nat)) (i : Nat) : Option (Nat × Nat) :=
    match p.entryAt i with
    | some e =>
      if e.silent && decide ((best.map (·.2)).all (· < e.age now)) then some (i, e.age now) else best
    | none => best
  ((List.range p.peers.length).foldl older none).map (·.1)

/-- The place a record's station takes: its own, else the lowest free place, else that of the oldest SILENT entry (R124). -/
def Pru.placeFor (p : Pru) (id : Nat) (now : Word32) : Option Nat :=
  ((p.placeOf id).or (p.peers.findIdx? (·.isNone))).or (p.oldestSilent now)

/-- A new entry for the station of a record (R124). -/
def newPeer (r : RxRecord) : PeerEntry :=
  { id := r.sender, position := r.position, lastSeq := none, lastHeard := r.arrival, silent := false, summary := none,
    fault := none }

/-- The entry of a record's station in its place: the present one, or a new one (R124). -/
def Pru.entryFor (p : Pru) (r : RxRecord) (i : Nat) : PeerEntry :=
  match p.entryAt i with
  | some e => if e.id = r.sender then e else newPeer r
  | none => newPeer r

/-- Last heard and condition, which every record sets, duplicate or not (R126). -/
def PeerEntry.heard (e : PeerEntry) (arrival : Word32) : PeerEntry := { e with lastHeard := arrival, silent := false }

/-- The fields that a record sets when it is not a duplicate (R125, R126). -/
def PeerEntry.applied (e : PeerEntry) (r : RxRecord) (kind : ReportKind) : PeerEntry :=
  { e.heard r.arrival with
    position := r.position
    lastSeq := if kind == .beacon then none else some r.seq
    summary := if kind == .beacon then some (r.payload.take 8) else e.summary
    fault := if kind.cls == .fault then some { kind := kind, time := r.arrival, payload := r.payload } else e.fault }

/-- An entry turns SILENT and forgets its last sequence (R127). -/
def PeerEntry.silenced (e : PeerEntry) : PeerEntry := { e with silent := true, lastSeq := none }

/-- Whether a HEARD entry has stood for 3 × B, and any entry for 10 × B (R127). -/
def State.silentDue (s : State) (e : PeerEntry) : Bool := !e.silent && decide (3 * s.cfg.beaconMs ≤ e.age s.now)
def State.removalDue (s : State) (e : PeerEntry) : Bool := decide (10 * s.cfg.beaconMs ≤ e.age s.now)

/-! ### Hand-offs (R129, R130) -/

/-- The crew codes of a BEACON's payload (R121). -/
def beaconCodes (p : List Byte) : List Word16 :=
  (List.range (field p 7 1)).map fun k => BitVec.ofNat 16 (field p (8 + 2 * k) 2)

/-- A record of a partner reaches the hold records (R129, R132 to R136). -/
def State.partnerHandOff (s : State) (r : RxRecord) (kind : ReportKind) : State :=
  s.onlyIf (s.cfg.partner r.sender kind) fun s =>
    match kind with
    | .pickup => s.partnerPickups r.sender r.position (elementSetOf (r.payload.headD 0)) r.arrival
    | .trip => s.partnerEnds r.sender .holderTrip
    | .clear => s.partnerEnds r.sender .holderClear
    | _ => s

/-- A record of a station further from the source is handed to the OCU or the TGU by its kind (R129, R130). -/
def State.handOff (s : State) (r : RxRecord) (kind : ReportKind) : State :=
  s.onlyIf (s.cfg.position < r.position) fun s =>
    match kind with
    | .pickup => s.partnerHandOff r kind
    | .trip => s.partnerHandOff r kind
    | .clear => s.partnerHandOff r kind
    | .tag => s.peerTag r.sender (BitVec.ofNat 16 (field r.payload 0 2))
    | .untag => s.peerUntag r.sender (BitVec.ofNat 16 (field r.payload 0 2))
    | .beacon => s.peerTagList r.sender (beaconCodes r.payload)
    | .lockout => s
    | .shutdown => s

/-! ### Taking a record (R122 to R126) -/

/-- Whether a record repeats the last sequence of its entry; a BEACON never does (R125). -/
def PeerEntry.repeats (e : PeerEntry) (r : RxRecord) (kind : ReportKind) : Bool :=
  kind != .beacon && e.lastSeq == some r.seq

/-- A record is applied whole (R123 to R130). -/
def State.applyRecord (s : State) (r : RxRecord) : State :=
  match r.judged with
  | none => s.withPru fun p => { p with reportsRefused := count16 p.reportsRefused }
  | some kind =>
    match s.pru.placeFor r.sender s.now with
    | none => (s.withPru fun p => { p with framesUnentered := count16 p.framesUnentered }).handOff r kind
    | some i =>
      let e := s.pru.entryFor r i
      if e.repeats r kind then
        s.withPru fun p =>
          { p.setPlace i (some (e.heard r.arrival)) with duplicates := count16 p.duplicates }
      else (s.withPru fun p => p.setPlace i (some (e.applied r kind))).handOff r kind

/-- The PRU takes the head record of the receive queue; an empty queue is left as it is (R108, R122). -/
def State.takeHead (s : State) : State :=
  match s.chc.queue with
  | [] => s
  | r :: rest => (s.withChc fun c => { c with queue := rest }).applyRecord r

/-! ### Ageing (R127) -/

/-- An entry that is due by a test changes or leaves its place (R127). -/
def State.agePeer (s : State) (id : Nat) (isDue : PeerEntry → Bool) (change : PeerEntry → Option PeerEntry) : State :=
  match s.pru.placeOf id with
  | none => s
  | some i =>
    match s.pru.entryAt i with
    | some e => s.onlyIf (isDue e) fun s => s.withPru fun p => p.setPlace i (change e)
    | none => s

end Sys2Proof.Machine
end

