-- ==== Sys2Proof/Machine/Receiver.lean ====
section
/-! DEFINITION. The receive side of the CHC: the hunt for a sync, the body and its escapes, aborts, the check and the receive queue
(R102 to R108). -/

namespace Sys2Proof.Machine

/-- The carrier latch: set while CARR is present out of HUNT, clear in HUNT (R104). -/
def Chc.settleLatch (c : Chc) : Chc := { c with latch := c.rx != .hunt && (c.latch || c.carr) }

/-- The receiver returns to HUNT: latch clear, no escape pending, buffer empty (R103, R104, R107). -/
def Chc.toHunt (c : Chc) : Chc := { c with rx := .hunt, escape := false, latch := false, body := [] }

/-- An abort in BODY, to HUNT or for a raw 0xB4 to SYNC1: the buffer is discarded and receive aborts rises (R105, R106). -/
def Chc.abortTo (c : Chc) (next : RxState) : Chc :=
  { c.toHunt with rx := next, receiveAborts := count16 c.receiveAborts }

/-- The length byte of a body, its sixth (R86, R105). -/
def bodyLength (body : List Byte) : Nat := field body 5 1

/-- The receive queue record of a body (R86, R108). -/
def recordOf (body : List Byte) (arrival : Word32) : RxRecord :=
  { sender := field body 1 1
    position := field body 2 1
    kind := BitVec.ofNat 8 (field body 3 1)
    seq := BitVec.ofNat 8 (field body 4 1)
    payload := (body.drop 6).take (bodyLength body)
    arrival := arrival }

/-- Whether the check of a complete body agrees (R87, R107). -/
def checkOk (body : List Byte) : Bool :=
  (crc16 (body.take (6 + bodyLength body))).toNat == field body (6 + bodyLength body) 2

/-- An accepted body joins the receive queue, or is dropped as an overrun when 6 records are held (R108). -/
def Chc.accept (c : Chc) (r : RxRecord) : Chc :=
  if c.queue.length < 6 then { c with queue := c.queue ++ [r], framesAccepted := count16 c.framesAccepted }
  else { c with receiveOverruns := count16 c.receiveOverruns }

/-- A complete body: back to HUNT, then the check, the feeder code and the sender id (R107). -/
def State.completeBody (s : State) (body : List Byte) : State :=
  s.withChc fun c =>
    if !checkOk body then { c.toHunt with checkFailures := count16 c.checkFailures }
    else if field body 0 1 ≠ s.cfg.feeder ∨ field body 1 1 = s.cfg.stationId then c.toHunt
    else c.toHunt.accept (recordOf body s.now)

/-- A byte joins the body buffer; the sixth shows the length, and the last completes the body (R105). -/
def State.addBody (s : State) (b : Byte) : State :=
  let body := s.chc.body ++ [b]
  if 6 ≤ body.length ∧ 40 < bodyLength body then s.withChc fun c => c.abortTo .hunt
  else if body.length = 6 + bodyLength body + 2 then s.completeBody body
  else s.withChc fun c => { c with body := body, escape := false }

/-- A byte in BODY, its escape undone (R105). -/
def State.bodyByte (s : State) (b : Byte) : State :=
  if b = 0xB4#8 then s.withChc fun c => c.abortTo .sync1
  else if s.chc.escape then
    if b = 0x94#8 then s.addBody 0xB4#8
    else if b = 0x85#8 then s.addBody 0xA5#8
    else s.withChc fun c => c.abortTo .hunt
  else if b = 0xA5#8 then s.withChc fun c => { c with escape := true }
  else s.addBody b

/-- A byte or framing error in each receive state (R103, R105, R106). -/
def State.hearByte (s : State) (rx : LineByte) : State :=
  match s.chc.rx, rx with
  | .hunt, .byte b => if b = 0xB4#8 then s.withChc fun c => { c with rx := .sync1 } else s
  | .hunt, .framingError => s
  | .sync1, .byte b =>
    if b = 0x2D#8 then s.withChc fun c => { c with rx := .body, body := [], escape := false }
    else if b = 0xB4#8 then s
    else s.withChc Chc.toHunt
  | .sync1, .framingError => s.withChc Chc.toHunt
  | .body, .byte b => s.bodyByte b
  | .body, .framingError => s.withChc fun c => c.abortTo .hunt

/-- A byte on FRXD; a deaf receiver discards it. The latch and the channel's busy judgement follow the receive state
(R95, R102 to R106). -/
def State.receiveByte (s : State) (rx : LineByte) : State :=
  s.onlyIf (!s.deaf) fun s => ((s.hearByte rx).withChc Chc.settleLatch).judgeBusy

/-- A reception is ended from outside its bytes: SYNC1 returns to HUNT without count, BODY aborts (R103, R104, R106). -/
def Chc.cutOff (c : Chc) : Chc :=
  match c.rx with
  | .hunt => c
  | .sync1 => c.toHunt
  | .body => c.abortTo .hunt

/-- CARR changes: absent with the latch set it ends a reception, present out of HUNT it sets the latch, and the channel's busy
judgement follows; a deaf receiver does not read it (R95, R102 to R104). -/
def State.changeCarrier (s : State) (present : Bool) : State :=
  (s.withChc fun c =>
    let c' := { c with carr := present }
    if s.deaf then c'
    else if !present && c.latch then c'.cutOff
    else c'.settleLatch).judgeBusy

end Sys2Proof.Machine
end

