-- ==== Sys2Proof/Machine/Measurement.lean ====
section
/-! DEFINITION. The MFP: the judgement of a measurement frame, the deliveries of a good one, stall, loss and recovery
(R1 to R8, R122). -/

namespace Sys2Proof.Machine

/-- The bytes that bits spell, most significant bit first (R1). -/
def bytesOfBits : List Bool → List Byte
  | b7 :: b6 :: b5 :: b4 :: b3 :: b2 :: b1 :: b0 :: rest =>
    BitVec.ofNat 8 ([b7, b6, b5, b4, b3, b2, b1, b0].foldl (fun v b => 2 * v + b.toNat) 0) :: bytesOfBits rest
  | _ => []

/-- What a sampled bit of the measurement link may bring: a short frame, or the arrival of a frame (R1). -/
inductive LinkEvent where
  | short
  | arrived (bytes : List Byte)
  deriving DecidableEq, Repr

/-- One bit at the assembly of a measurement frame: the frame in progress after it, and its event. A start begins a new frame
and makes a frame in progress a short one; the 192nd bit is the arrival; with no frame in progress a bit is discarded (R1). -/
def sampleBit (frame : Option (List Bool)) (b : LinkBit) : Option (List Bool) × Option LinkEvent :=
  if b.start then (some [b.bit], if frame.isSome then some .short else none)
  else
    match frame with
    | none => (none, none)
    | some held =>
      if held.length + 1 = 192 then (none, some (.arrived (bytesOfBits (held ++ [b.bit]))))
      else (some (held ++ [b.bit]), none)

/-- Some bits, one after another: the frame in progress after them, and their events in order (R1). -/
def sampleBits (frame : Option (List Bool)) : List LinkBit → Option (List Bool) × List LinkEvent
  | [] => (frame, [])
  | b :: rest =>
    let first := sampleBit frame b
    let others := sampleBits first.1 rest
    (others.1, first.2.toList ++ others.2)

/-- The fields of a frame (R2). -/
def measFields (b : List Byte) : MeasFields where
  count := b.getD 2 0
  ia := field b 3 2
  ib := field b 5 2
  ic := field b 7 2
  ig := field b 9 2
  source := field b 11 1 == 1
  battV := field b 13 2
  battI := signedField b 15
  temperature := signedField b 17
  tripV := field b 19 2
  closeV := field b 21 2

/-- Whether a frame that has arrived is good: 24 bytes, start code, sum, source byte and front-end status (R2). -/
def goodFrame (b : List Byte) : Bool :=
  b.length == 24 && field b 0 2 == 0xA74C && byteSum b % 256 == 0 && decide (field b 11 1 ≤ 1) && field b 12 1 == 0

/-- A bad frame is dropped whole and counted (R3). -/
def State.badFrame (s : State) : State := s.withMfp fun m => { m with badFrames := count16 m.badFrames }

/-- The MFP at a good frame: last good frame, stall and lost spans, frames missed, stalled cleared, and the recovery timer while
measurement lost is set (R4 to R7). -/
def Mfp.takeGood (m : Mfp) (f : MeasFields) : Mfp where
  frame := m.frame
  lastGood := some f
  stallTimer := some 12
  lostTimer := some 250
  stalled := false
  lost := m.lost
  recovery := if m.lost then some (m.recovery.getD 1000) else m.recovery
  badFrames := m.badFrames
  framesMissed :=
    match m.lastGood with
    | some g => satAdd 65535 m.framesMissed (f.count - g.count - 1).toNat
    | none => m.framesMissed

/-- The BTU's test of the start conditions at the arrival itself, which is then made (R78). -/
def State.testAtArrival (s : State) : State :=
  let tested := s.withBtu fun b => { b with testMoment := false }
  tested.onlyIf (s.btu.test == .pending && s.testConditions) State.startTest

/-- One delivery of a good frame; `closing` tells whether a close pulse was in progress at its arrival (R4, R50, R78, R122). -/
def State.deliver (s : State) (f : MeasFields) (closing : Bool) : Delivery → State
  | .ocu => s.frameStep f
  | .cdu => s.deliverVoltages f.tripV f.closeV closing
  | .btu => s.deliverBattery f.battV f.battI f.temperature
  | .sqc => s.sqcSource f.source
  | .lfsr => s.advanceLfsr
  | .take => s.takeHead
  | .test => s.testAtArrival

/-- The order of the deliveries: the one given, each delivery once, and any of the six left out in the order of R4; the BTU's
test stands in it only where it is given (log 7). -/
def deliveryOrder (given : List Delivery) : List Delivery :=
  (given ++ [Delivery.ocu, .cdu, .btu, .sqc, .lfsr, .take]).foldl (fun l d => if l.contains d then l else l ++ [d]) []

/-- A good frame: it ends a stall, returns the take to frame-paced, is a moment at which R78 has the start conditions of a test
tested, and is delivered (R4, R5, R7, R51, R78, R122). -/
def State.takeGoodFrame (s : State) (f : MeasFields) (order : List Delivery) : State :=
  let taken := (((s.withMfp fun m => m.takeGood f).withPru fun p => { p with pace := none }).withBtu fun b =>
    { b with testMoment := true }).refreshCharge
  (deliveryOrder order).foldl (fun t d => t.deliver f (s.cdu.pulse == .close) d) taken

/-- A frame arrives and is judged (R2 to R4). -/
def State.frameArrives (s : State) (bytes : List Byte) (order : List Delivery) : State :=
  if goodFrame bytes then s.takeGoodFrame (measFields bytes) order else s.badFrame

/-- Some bits have been sampled: the frame in progress follows (R1). -/
def State.sampled (s : State) (bits : List LinkBit) : State :=
  s.withMfp fun m => { m with frame := (sampleBits m.frame bits).1 }

/-- Bits that bring a short frame: the partial frame is dropped and counted. Bits that bring no event yet are held; bits of any
other event are no short frame and change nothing (R1; log 4). -/
def State.bitsToShort (s : State) (bits : List LinkBit) : State :=
  match (sampleBits s.mfp.frame bits).2 with
  | [] => s.sampled bits
  | [.short] => (s.sampled bits).badFrame
  | _ => s

/-- Bits that bring the arrival of a frame, which is judged. Bits that bring no event yet are held; bits of any other event are no
arrival and change nothing (R1; log 4). -/
def State.bitsToArrival (s : State) (bits : List LinkBit) (order : List Delivery) : State :=
  match (sampleBits s.mfp.frame bits).2 with
  | [] => s.sampled bits
  | [.arrived bytes] => (s.sampled bits).frameArrives bytes order
  | _ => s

/-- The stall span ends: stalled is set, the recovery timer is cancelled, the counts return to 0, the pickup-seen memory is empty,
a test is abandoned, charging is not permitted and the take is stall-paced (R5, R7, R21, R47, R51, R82, R122). After a reset
stalled is set already, and the end of the span that runs from the reset moves nothing (R5, R8). -/
def State.stall (s : State) : State :=
  let ended := s.withMfp fun m => { m with stallTimer := none }
  ended.onlyIf (!s.mfp.stalled) fun s =>
    let set := s.withMfp fun m => { m with stalled := true, recovery := none }
    let frozen := (set.freezeCounts).withSqc fun q => { q with memory := none }
    ((frozen.abandonTest .measurement).refreshCharge).withPru fun p => { p with pace := some 4 }

/-- Measurement lost is set, with its record and its hand-off to the SQC unless it was set already (R6, R34). The record stands
before the SQC's LOCKOUT record of CLOSE_CHARGE, an order that R163 leaves open (log 6). -/
def State.loseMeasurement (s : State) : State :=
  let set := s.withMfp fun m => { m with lost := true, lostTimer := none }
  set.onlyIf (!s.mfp.lost) fun s => (s.record { kind := .measurementLost }).sqcMeasurementLost

/-- Measurement lost clears with its record (R7). -/
def State.regainMeasurement (s : State) : State :=
  (s.withMfp fun m => { m with lost := false, recovery := none }).record { kind := .measurementBack }

/-- A stall-paced take; the next follows 4 ms later (R122). -/
def State.pacedTake (s : State) : State := (s.withPru fun p => { p with pace := some 4 }).takeHead

end Sys2Proof.Machine
end

