-- ==== Sys2Proof/Machine/Start.lean ====
section
/-! DEFINITION. The cold start order and the settings restart (R46, R49, R131, R175 to R182). -/

namespace Sys2Proof.Machine

/-- The settings that a read brings into force: the image, or the defaults when it is refused (R177). -/
def settingsOf (read : MemRead) : Settings :=
  match judgeImage read with
  | .ok st => st
  | .error _ => defaultSettings

/-- The fault reason of a read, none for an accepted image (R177). -/
def faultOf (read : MemRead) : Option SettingsFault :=
  match judgeImage read with
  | .ok _ => none
  | .error e => some e

/-- The SETTINGS_FAULT record of a refused image (R177). -/
def State.recordFault (s : State) (fault : Option SettingsFault) : State :=
  match fault with
  | some e => s.record { kind := .settingsFault, reason := some e.reason }
  | none => s

/-- Whether the SQC is set up in READY: position Closed and handle up (R49). -/
def State.closedUp (s : State) : Bool := s.position == .closed && !s.tgu.handleDown

/-- The SQC is set up from the position and the handle, and start hold is set at 3 × B (R46, R49). -/
def State.setUpSqc (s : State) : State :=
  s.withSqc fun _ =>
    { sqcStart s.closedUp s.tgu.handleDown s.cfg.resetTime with startHold := some (3 * s.cfg.beaconMs) }

/-- The PRU's two draws with the bits that the measurement link brings between them, and the take pace from the end of the order:
stall-paced if stalled is still set (R113, R119, R131, R179). -/
def State.drawStarts (s : State) (between : List LinkBit) (order : List Delivery) : State :=
  let drawn := ((s.drawSequence).bitsToArrival between order).drawBeaconDelay
  drawn.withPru fun p => { p with pace := if drawn.mfp.stalled then some 4 else none }

/-- A START or SETTINGS_RESTART record (R164, R179, R181). -/
def State.recordStart (s : State) (kind : RecordKind) : State :=
  s.record
    { kind := kind
      seqState := some s.sqc.seq
      reason := if s.sqc.seq == .lockout then s.sqc.reason.map Reason.lock else none
      operations := some s.cdu.operations }

/-- Steps 1 and 2 of the cold start order: the settings in force, and every block at its initial values with its inputs sampled
(R179). The command queue and the counter of free values are the model's own and stay. -/
def State.coldBlocks (s : State) (settings : MemRead) (i : InputLevels) : State :=
  let st := settingsOf settings
  { now := 0
    mfp := mfpStart
    ocu := ocuStart
    sqc := sqcStart false i.handleDown st.resetTime
    cdu := cduStart i.closedMade i.openMade
    btu := btuStart i.acPresent st
    chc := chcStart st i.carrier i.radioReady
    pru := pruStart
    tgu := tguStart
      { trip := i.tripKey, close := i.closeKey, tagOn := i.tagOnKey, tagOff := i.tagOffKey, battery := i.batteryKey }
      i.handleDown
    rcs := rcsStart
    svp := svpStart st (faultOf settings).isNone (faultOf settings)
    inputs := inputsStart i
    free := s.free
    pending := s.pending }

/-- The bytes that the two reads of the cold start order send on NVDO: 0x03 with the address 0x0000 of the settings image, and
0x03 with the address 0x0400 of the tag store (R175, R179). -/
def startReads : List Byte := [0x03#8, 0x00#8, 0x00#8, 0x03#8, 0x04#8, 0x00#8]

/-- The cold start order (R179). A frame that arrives between the two draws may make records before the START record, so that the
first record of the run is then none of those that R169 names (log 10). -/
def State.coldStart (s : State) (settings store : MemRead) (i : InputLevels) (between : List LinkBit)
    (order : List Delivery) : State :=
  let blocks := (s.coldBlocks settings i).recordFault (faultOf settings)
  let started := ((blocks.restoreTags store).setUpSqc).drawStarts between order
  (started.recordStart .start).withSvp fun v => { v with service := .listen, startSent := startReads }

/-! ### Settings restart (R180, R181) -/

/-- The CDU at a settings restart, its contacts read afresh (R66): the operations count, the voltages and the ready flags are
kept (log 33 for the windows). -/
def Cdu.restart (c : Cdu) (closedMade openMade : Bool) : Cdu :=
  { cduStart closedMade openMade with
    tripV := c.tripV
    closeV := c.closeV
    tripReady := c.tripReady
    closeReady := c.closeReady
    operations := c.operations }

/-- The BTU at a settings restart: what follows the battery and the AC supply is kept, and a word on its way runs on (R84;
log 43). -/
def Btu.restart (b : Btu) (st : Settings) : Btu :=
  { b with
    test := .idle
    sources := noSources
    settle := none
    load := none
    v0 := none
    v1 := none
    i1 := none
    lastResult := none
    lastResistance := none
    failed := false
    schedule := scheduleStart st
    scheduleDue := false
    testMoment := false }

/-- A local entry's crew slot found afresh in a crew code table (R143). -/
def TagEntry.reslot (e : TagEntry) (st : Settings) : TagEntry :=
  { e with slot := if e.source.isLocal then st.crewSlot e.code else none }

/-- The TGU at a settings restart: the table, the overflow record, tag store fault, a write in progress, the keys and the handle
are kept (R162). The bits received are emptied with the decoder's return to WAIT, which the rule names for the cold start alone
(log 43). -/
def Tgu.restart (t : Tgu) (st : Settings) : Tgu :=
  { t with
    decoder := .wait
    bits := []
    wandRejects := 0
    window := none
    errorTone := none
    toneOn := false
    tonePhase := none
    tags := t.tags.map fun e => e.reslot st }

/-- The SVP at an applied settings restart (R182). -/
def Svp.restart (v : Svp) (st : Settings) (fault : Option SettingsFault) : Svp :=
  { v with
    rx := .hunt
    buffer := []
    gap := none
    discarded := 0
    badRequests := 0
    settings := st
    fromImage := fault.isNone
    faultReason := fault }

/-- Steps 1 and 2 of an applied restart: the settings in force and every block at its settings restart values (R181). The contacts are
read at once from their levels, and the counts of the other inputs run on (R66, R84, R162; log 39). -/
def State.restartBlocks (s : State) (read : MemRead) (closedMade openMade : Bool) : State :=
  let st := settingsOf read
  let recorded := s.recordFault (faultOf read)
  { recorded with
    mfp := mfpStart
    ocu := ocuStart
    cdu := s.cdu.restart closedMade openMade
    btu := s.btu.restart st
    chc := chcStart st s.chc.carr s.chc.rrdy
    pru := pruStart
    tgu := s.tgu.restart st
    svp := s.svp.restart st (faultOf read)
    inputs := { s.inputs with posc := .steady closedMade, poso := .steady openMade } }

/-- An applied settings restart, in its steps, with the answer Done (R181). -/
def State.applyRestart (s : State) (read : MemRead) (closedMade openMade : Bool) : State :=
  let setUp := ((s.restartBlocks read closedMade openMade).setUpSqc).drawStarts [] []
  (setUp.recordStart .settingsRestart).respond 0x40#8 .done []

/-- The settings read has ended: the conditions are tested again, the restart applied or refused, and a write that waited for the
link begins (R160, R180, R181). -/
def State.endRead (s : State) (read : MemRead) (closedMade openMade : Bool) : State :=
  (if s.restartConditions then s.applyRestart read closedMade openMade else s.respond 0x40#8 .refusedState []).freeLink

/-- What a settings read comes to: the memory's answer, or its end where it may end so (R175, R181; log 19). -/
def State.followRead (s : State) (event : ReadEvent) (closedMade openMade : Bool) : State :=
  match event with
  | .ready => s.withSvp Svp.answerRead
  | .ended read => s.onlyIf (s.svp.readEnds read) fun s => s.endRead read closedMade openMade

end Sys2Proof.Machine
end

