-- ==== Sys2Proof/Machine/Radio.lean ====
section
/-! DEFINITION. The transmitter's moves from state to state: backoff, key-up, sending, abort and key-down (R92, R95 to R101). -/

namespace Sys2Proof.Machine

/-- 60 ms of quiet channel have passed in DEFER: BACKOFF with the kept count, or with a draw in the window of the first servable
entry's class; the first slot begins (R95, R96). -/
def State.enterBackoff (s : State) : State :=
  match s.firstServable with
  | none => s.enterIdle
  | some e =>
    match s.chc.backoff with
    | some _ => s.withChc fun c => { c with tx := .backoff, slot := some 20 }
    | none =>
      let window := if e.kind.cls == .status then 16 else 4
      s.advanceLfsr.withChc fun c =>
        { c with tx := .backoff, slot := some 20, backoff := some { count := s.drawn % window, window := window } }

/-- Whether the backoff count has reached 0 (R96). -/
def State.backoffOver (s : State) : Bool := s.chc.tx == .backoff && s.chc.backoff.all (·.count == 0)

/-- Mark an entry in service where a list holds it first (R97). -/
def markFirst (p : TxEntry → Bool) : List TxEntry → List TxEntry
  | [] => []
  | e :: rest => if p e then { e with inService := true } :: rest else e :: markFirst p rest

/-- KEY_UP: the first servable entry is marked in service, KEY is asserted, the backoff count is discarded and the ready timer
starts at 100 ms (R96, R97). -/
def State.enterKeyUp (s : State) : State :=
  match s.firstServable with
  | none => s.enterIdle
  | some _ =>
    s.withChc fun c =>
      { c with
        tx := .keyUp
        backoff := none
        slot := none
        readyTimer := some 100
        front := if c.front.any s.servable then markFirst s.servable c.front else c.front
        status := if c.front.any s.servable then c.status else markFirst s.servable c.status }

/-- RRDY is present, and in KEY_UP RADIO READY is thereby seen (R97, R99). -/
def State.seeReady (s : State) : State :=
  (s.withChc fun c => { c with rrdy := true }).onlyIf (s.chc.tx == .keyUp) State.enterSending

/-- RRDY falls when `sent` bytes of the frame have begun, and is present again at the next byte's test or not. In SENDING the test
before that byte, if one is left and it fails, puts the abort bytes in place of the rest of the frame; a fall during the trailer
or one that is over by the next test aborts nothing (R99; log 42). -/
def State.dropReady (s : State) (sent : Nat) (back : Bool) : State :=
  let tested := s.withChc fun c => { c with rrdy := back }
  tested.onlyIf (s.chc.tx == .sending && !s.chc.aborting && decide (sent < s.chc.airFrame.length) && !tested.readyTest) fun s =>
    s.withChc fun c => { c with airFrame := c.airFrame.take sent, aborting := true }

/-- The ready timer expires: KEY is released at once and the attempt has failed (R97, R98). -/
def State.readyFails (s : State) : State := ((s.failAttempt .noReady).releaseKey).deferOrIdle

/-- The second abort byte has gone: the attempt has failed and the transmitter goes to KEY_DOWN (R98, R99, R100). -/
def State.endAbort (s : State) : State := (s.failAttempt .readyDrop).enterKeyDown

/-- Whether the entry in service is a SHUTDOWN report (R75, R92). -/
def State.sendsShutdown (s : State) : Bool := (s.chc.inService.map (·.kind)) == some .shutdown

/-- The trailer has gone: the copy is sent, the transmitter goes to KEY_DOWN, and a SHUTDOWN copy releases the contactor
(R75, R92, R99, R100). -/
def State.sendCopy (s : State) : State := (s.countCopy.enterKeyDown).onlyIf s.sendsShutdown State.releaseContactor

/-- The key-down timer expires: KEY is released and the receiver listens again (R100). -/
def State.endKeyDown (s : State) : State := s.releaseKey.deferOrIdle

end Sys2Proof.Machine
end

