-- ==== Sys2Proof/Machine/Clock.lean ====
section
/-! DEFINITION. The part's own clock: the commands that have come due in the part, and one millisecond of station time (00, Time;
log 3). -/

namespace Sys2Proof.Machine

/-- A command when a condition holds. -/
def commandWhen (c : Bool) (i : Instr) : List Instr := if c then [i] else []

/-- The due commands of the MFP and the PRU's take (R5 to R7, R122). -/
def State.dueMeasurement (s : State) : List Instr :=
  commandWhen (due s.mfp.stallTimer) .stalled ++ commandWhen (due s.mfp.lostTimer) .measurementLost ++
    commandWhen (due s.mfp.recovery) .measurementBack ++ commandWhen (due s.pru.pace) .stallPacedTake

/-- The due commands of the CDU (R52, R54, R56, R57, R64). -/
def State.dueCoils (s : State) : List Instr :=
  commandWhen (s.cdu.pulse == .trip && due s.cdu.pulseTimer) .tripPulseEnd ++
    commandWhen (s.cdu.pulse == .close && due s.cdu.pulseTimer) .closePulseEnd ++
    commandWhen (due s.cdu.tripWindow) .tripWindowEnd ++ commandWhen (due s.cdu.closeWindow) .closeWindowEnd ++
    commandWhen (due s.cdu.tripWait) .tripWaitExpiry ++ commandWhen (due s.cdu.retripWait) .retripWaitExpiry ++
    commandWhen (due s.cdu.closeCharge) .closeChargeTimerExpiry ++ commandWhen (due s.cdu.indeterminate) .positionFault

/-- The due commands of the SQC and the hold records (R33, R34, R37, R45, R46, R137). -/
def State.dueSequence (s : State) : List Instr :=
  commandWhen (due s.sqc.reclose) .recloseTimerExpiry ++ commandWhen (due s.sqc.charge) .chargeTimerExpiry ++
    commandWhen (due s.sqc.reset) .resetTimerExpiry ++ commandWhen (due s.sqc.manualWindow) .manualCloseWindowExpiry ++
    commandWhen (due s.sqc.startHold) .startHoldExpiry ++ commandWhen (s.holdDue .phase) (.holdExpiry .phase) ++
    commandWhen (s.holdDue .ground) (.holdExpiry .ground)

/-- The due commands of the BTU (R71, R74, R75, R77 to R80). -/
def State.dueBattery (s : State) : List Instr :=
  commandWhen (due s.btu.lowVoltage) .lowVoltageTimerExpiry ++ commandWhen (due s.btu.disconnect) .disconnectTimerExpiry ++
    commandWhen (due s.btu.taper) .taperTimerExpiry ++ commandWhen (due s.btu.boostLimit) .boostLimitExpiry ++
    commandWhen (due s.btu.schedule) .scheduleTimerExpiry ++ commandWhen s.scheduleConditions .scheduledTestRequest ++
    commandWhen (s.btu.test == .pending && s.btu.testMoment && s.testConditions) .testStart ++
    commandWhen (due s.btu.settle) .settleTimerExpiry ++ commandWhen (due s.btu.load) .loadTimerExpiry

/-- The due commands of the CHC (R95 to R97, R100, R101). RADIO READY present at the entry to KEY_UP is seen there (R97). -/
def State.dueChannel (s : State) : List Instr :=
  commandWhen (s.chc.tx == .defer && decide (60 ≤ s.chc.quiet)) .quietCountEnd ++ commandWhen s.backoffOver .backoffEnd ++
    commandWhen (s.chc.tx == .keyUp && s.chc.rrdy) .radioReadySeen ++
    commandWhen (s.chc.tx == .keyUp && !s.chc.rrdy && due s.chc.readyTimer) .readyTimerExpiry ++
    commandWhen (s.chc.tx == .keyDown && due s.chc.keyDown) .keyDownExpiry ++
    commandWhen (s.chc.tx == .sending && due s.chc.jabber) .jabberExpiry

/-- The due commands of the peer table and the beacon timer (R119, R127). -/
def State.dueReports (s : State) : List Instr :=
  commandWhen s.beaconDue .beaconTimerExpiry ++
    s.pru.peers.reduceOption.flatMap fun e =>
      commandWhen (s.silentDue e) (.peerSilent e.id) ++ commandWhen (s.removalDue e) (.peerRemoval e.id)

/-- The due commands of the TGU, the service port and the memory link (R147, R148, R160, R170, R175). A settings read that was not
answered in its 20 ms is due with the contacts at their levels (R66). -/
def State.duePanel (s : State) : List Instr :=
  commandWhen ((s.tgu.window.map (·.left)) == some 0) .crewWindowExpiry ++
    commandWhen (s.tgu.window.isSome && due s.tgu.tonePhase) .toneToggle ++
    commandWhen (due s.tgu.errorTone) .errorToneExpiry ++
    commandWhen (s.svp.service == .listen && due s.svp.gap) .serviceGapTimeout ++
    commandWhen (s.svp.writeEnds false) (.tagStoreWriteEnd false) ++
    commandWhen (s.svp.service == .restarting && s.svp.readEnds .incomplete)
      (.settingsRestartApply (.ended .incomplete) s.inputs.posc.level s.inputs.poso.level)

/-- The contacts that have held a level for their 10 ms: both as one command when both have (R62, R64; log 8 for the order it
carries). -/
def State.dueContacts (s : State) (made : Bool) : List Instr :=
  commandWhen (s.inputHolds .posc made && s.inputHolds .poso made) (.contactChange .bothContacts made false) ++
    commandWhen (s.inputHolds .posc made && !s.inputHolds .poso made) (.contactChange .closedContact made false) ++
    commandWhen (!s.inputHolds .posc made && s.inputHolds .poso made) (.contactChange .openContact made false)

/-- The command of an input that has held a level for its span. -/
def State.dueInput (s : State) (pin : InputPin) (change : Bool → Instr) : List Instr :=
  commandWhen (s.inputHolds pin true) (change true) ++ commandWhen (s.inputHolds pin false) (change false)

/-- The due commands of the debounced inputs (R62, R67, R149, R151). A contact that opens comes before one that makes, and the handle
goes to the SQC first (logs 3 and 8). -/
def State.dueInputs (s : State) : List Instr :=
  s.dueContacts false ++ s.dueContacts true ++ s.dueInput .acp (.acPresentChange ·) ++ s.dueInput .tripKey (.tripKey ·) ++
    s.dueInput .closeKey (.closeKey ·) ++ s.dueInput .tagOnKey (.tagOnKey ·) ++ s.dueInput .tagOffKey (.tagOffKey ·) ++
    s.dueInput .batteryKey (.batteryTestKey ·) ++
    s.dueInput .hndl fun down => if down then .handleDown false else .handleUp

/-- Every command that has come due in the part (log 3). -/
def State.dueCommands (s : State) : List Instr :=
  s.dueMeasurement ++ s.dueCoils ++ s.dueSequence ++ s.dueBattery ++ s.dueChannel ++ s.dueReports ++ s.duePanel ++ s.dueInputs

/-! ### One millisecond (00, Time) -/

/-- The MFP's spans. -/
def Mfp.tick (m : Mfp) : Mfp :=
  { m with stallTimer := tickTimer m.stallTimer, lostTimer := tickTimer m.lostTimer, recovery := tickTimer m.recovery }

/-- The SQC's timers. -/
def Sqc.tick (q : Sqc) : Sqc :=
  { q with
    reclose := tickTimer q.reclose
    charge := tickTimer q.charge
    reset := tickTimer q.reset
    manualWindow := tickTimer q.manualWindow
    startHold := tickTimer q.startHold }

/-- The CDU's timers. -/
def Cdu.tick (c : Cdu) : Cdu :=
  { c with
    closeCharge := tickTimer c.closeCharge
    pulseTimer := tickTimer c.pulseTimer
    tripWindow := tickTimer c.tripWindow
    closeWindow := tickTimer c.closeWindow
    tripWait := tickTimer c.tripWait
    retripWait := tickTimer c.retripWait
    indeterminate := tickTimer c.indeterminate }

/-- The BTU's timers; the moment of testing has passed (log 34). -/
def Btu.tick (b : Btu) : Btu :=
  { b with
    lowVoltage := tickTimer b.lowVoltage
    disconnect := tickTimer b.disconnect
    taper := tickTimer b.taper
    boostLimit := tickTimer b.boostLimit
    settle := tickTimer b.settle
    load := tickTimer b.load
    schedule := tickTimer b.schedule
    testMoment := false }

/-- The backoff count after a slot of quiet channel (R96). -/
def Backoff.lower (b : Backoff) : Backoff := { b with count := b.count - 1 }

/-- The CHC's timers: the quiet count in DEFER on a quiet channel, the slot in BACKOFF and with its end the backoff count, and
the timers of a key-up (R95 to R97, R99, R100). -/
def Chc.tick (c : Chc) (quiet : Bool) : Chc :=
  { c with
    quiet := if c.tx == .defer && quiet then satAdd 60 c.quiet 1 else c.quiet
    slot := if c.slot = some 1 then some 20 else tickTimer c.slot
    backoff := if c.slot = some 1 then c.backoff.map Backoff.lower else c.backoff
    readyTimer := tickTimer c.readyTimer
    jabber := tickTimer c.jabber
    keyDown := tickTimer c.keyDown }

/-- The TGU's timers. -/
def Tgu.tick (t : Tgu) : Tgu :=
  { t with
    window := t.window.map fun w => { w with left := w.left - 1 }
    errorTone := tickTimer t.errorTone
    tonePhase := tickTimer t.tonePhase }

/-- The SVP's timers; what COLD_START sent on NVDO is over (log 10). -/
def Svp.tick (v : Svp) : Svp := { v with gap := tickTimer v.gap, linkTimer := tickTimer v.linkTimer, startSent := [] }

/-- One millisecond of station time passes (00, Time; log 3). -/
def State.advance (s : State) : State :=
  { s with
    now := s.now + 1
    mfp := s.mfp.tick
    sqc := s.sqc.tick
    cdu := s.cdu.tick
    btu := s.btu.tick
    chc := s.chc.tick (!s.channelBusy)
    pru := { s.pru with pace := tickTimer s.pru.pace }
    tgu := s.tgu.tick
    svp := s.svp.tick
    inputs := s.inputs.tick }

/-- What the part does with no command waiting: before COLD_START nothing; then the commands that have come due join the queue,
or one millisecond passes (log 3). -/
def State.idle (s : State) : State :=
  if s.started then
    if s.dueCommands.isEmpty then s.advance else { s with pending := s.dueCommands }
  else s

end Sys2Proof.Machine
end

