-- ==== Sys2Proof/Machine/ExecBattery.lean ====
section
/-! DEFINITION. The meanings of the commands of the BTU: AC, reserve, charger and battery test (R67 to R83). -/

namespace Sys2Proof.Machine

/-- AC_PRESENT_CHANGE: AC-present changes when ACP has held the level for 1,000 ms (R67, R69, R70, R72, R82); the edge of ACP begins
the count. -/
def execAcPresentChange (present : Bool) (s : State) (moment : InputMoment := .held) : Host.Outcome State Fault Refusal :=
  .next (s.whenStarted fun s => s.debounce .acp present moment fun s => if present then s.acReturns else s.acGoes)

/-- LOW_VOLTAGE_TIMER_EXPIRY: shutdown pending is set (R74, R75). -/
def execLowVoltageTimerExpiry (s : State) : Host.Outcome State Fault Refusal :=
  .next (s.whenStarted fun s => s.onlyIf (due s.btu.lowVoltage) State.setShutdown)

/-- DISCONNECT_TIMER_EXPIRY: the contactor is released (R75). -/
def execDisconnectTimerExpiry (s : State) : Host.Outcome State Fault Refusal :=
  .next (s.whenStarted fun s => s.onlyIf (due s.btu.disconnect) State.releaseContactor)

/-- SETPOINT_WORD_SENT: setpoint sent follows, and a newer value is sent (R69). -/
def execSetpointWordSent (s : State) : Host.Outcome State Fault Refusal :=
  .next (s.whenStarted fun s => s.onlyIf s.btu.sending.isSome State.endSetpointWord)

/-- TAPER_TIMER_EXPIRY: the boost ends (R71). -/
def execTaperTimerExpiry (s : State) : Host.Outcome State Fault Refusal :=
  .next (s.whenStarted fun s => s.onlyIf (due s.btu.taper) State.endBoost)

/-- BOOST_LIMIT_EXPIRY: the boost ends, or a test will end into FLOAT (R71). -/
def execBoostLimitExpiry (s : State) : Host.Outcome State Fault Refusal :=
  .next (s.whenStarted fun s => s.onlyIf (due s.btu.boostLimit) State.boostLimitEnds)

/-- SCHEDULE_TIMER_EXPIRY: schedule due is set (R77). -/
def execScheduleTimerExpiry (s : State) : Host.Outcome State Fault Refusal :=
  .next (s.whenStarted fun s => s.onlyIf (due s.btu.schedule) fun s =>
    s.withBtu fun b => { b with schedule := none, scheduleDue := true })

/-- SCHEDULED_TEST_REQUEST: a request with source SCHEDULE (R76, R77). -/
def execScheduledTestRequest (s : State) : Host.Outcome State Fault Refusal :=
  .next (s.whenStarted fun s => s.onlyIf s.scheduleConditions fun s =>
    (s.withBtu fun b => { b with scheduleDue := false }).requestTest .schedule)

/-- TEST_START: a PENDING test goes to SETTLE at a moment of testing, when its conditions hold (R78, R79; log 34). -/
def execTestStart (s : State) : Host.Outcome State Fault Refusal :=
  .next (s.whenStarted fun s => s.onlyIf (s.btu.test == .pending && s.btu.testMoment && s.testConditions) State.startTest)

/-- SETTLE_TIMER_EXPIRY: V0 is taken and the load goes on (R79). -/
def execSettleTimerExpiry (s : State) : Host.Outcome State Fault Refusal :=
  .next (s.whenStarted fun s => s.onlyIf (due s.btu.settle) State.settleEnds)

/-- LOAD_TIMER_EXPIRY: V1 and I1 are taken and the result handled (R80, R81, R83). -/
def execLoadTimerExpiry (s : State) : Host.Outcome State Fault Refusal :=
  .next (s.whenStarted fun s => s.onlyIf (due s.btu.load) State.loadEnds)

end Sys2Proof.Machine
end

