-- ==== Sys2Proof/Machine/ExecChannel.lean ====
section
/-! DEFINITION. The meanings of the commands of the CHC (R85 to R108). -/

namespace Sys2Proof.Machine

/-- QUIET_COUNT_END: 60 ms of quiet channel in DEFER (R95, R96). -/
def execQuietCountEnd (s : State) : Host.Outcome State Fault Refusal :=
  .next (s.whenStarted fun s => s.onlyIf (s.chc.tx == .defer && decide (60 ≤ s.chc.quiet)) State.enterBackoff)

/-- BACKOFF_END: the backoff count is 0 (R96, R97). -/
def execBackoffEnd (s : State) : Host.Outcome State Fault Refusal :=
  .next (s.whenStarted fun s => s.onlyIf s.backoffOver State.enterKeyUp)

/-- RADIO_READY_SEEN: RRDY is present in KEY_UP (R97, R99). -/
def execRadioReadySeen (s : State) : Host.Outcome State Fault Refusal :=
  .next (s.whenStarted State.seeReady)

/-- READY_TIMER_EXPIRY: 100 ms in KEY_UP without RADIO READY (R97, R98). -/
def execReadyTimerExpiry (s : State) : Host.Outcome State Fault Refusal :=
  .next (s.whenStarted fun s => s.onlyIf (s.chc.tx == .keyUp && due s.chc.readyTimer) State.readyFails)

/-- READY_DROP: RRDY falls, and in SENDING the READY test before the next byte fails (R99). -/
def execReadyDrop (s : State) (sent : Nat := 0) (back : Bool := false) : Host.Outcome State Fault Refusal :=
  .next (s.whenStarted fun s => s.dropReady sent back)

/-- ABORT_SENT: the second abort byte has left FTXD (R98 to R100). -/
def execAbortSent (s : State) : Host.Outcome State Fault Refusal :=
  .next (s.whenStarted fun s => s.onlyIf (s.chc.tx == .sending && s.chc.aborting) State.endAbort)

/-- COPY_SENT: the trailer has left FTXD (R75, R92, R99, R100). -/
def execCopySent (s : State) : Host.Outcome State Fault Refusal :=
  .next (s.whenStarted fun s => s.onlyIf (s.chc.tx == .sending && !s.chc.aborting) State.sendCopy)

/-- KEY_DOWN_EXPIRY: KEY is released (R100). -/
def execKeyDownExpiry (s : State) : Host.Outcome State Fault Refusal :=
  .next (s.whenStarted fun s => s.onlyIf (s.chc.tx == .keyDown && due s.chc.keyDown) State.endKeyDown)

/-- JABBER_EXPIRY: 250 ms in SENDING, a channel reset (R101). -/
def execJabberExpiry (s : State) : Host.Outcome State Fault Refusal :=
  .next (s.whenStarted fun s => s.onlyIf (s.chc.tx == .sending && due s.chc.jabber) State.channelReset)

/-- CARRIER_CHANGE: CARR changes (R95, R102 to R104). -/
def execCarrierChange (present : Bool) (s : State) : Host.Outcome State Fault Refusal :=
  .next (s.whenStarted fun s => s.onlyIf (s.chc.carr != present) fun s => s.changeCarrier present)

/-- RADIO_BYTE: a byte or framing error on FRXD (R102 to R108). -/
def execRadioByte (rx : LineByte) (s : State) : Host.Outcome State Fault Refusal :=
  .next (s.whenStarted fun s => s.receiveByte rx)

/-- RECEIVE_GAP_TIMEOUT: 5 byte-times without a byte in SYNC1 or BODY (R103, R106). -/
def execReceiveGapTimeout (s : State) : Host.Outcome State Fault Refusal :=
  .next (s.whenStarted fun s => s.onlyIf (!s.deaf) fun s => s.withChc Chc.cutOff)

end Sys2Proof.Machine
end

