-- ==== Sys2Proof/Machine/ExecCoils.lean ====
section
/-! DEFINITION. The meanings of the commands of the CDU: pulses, windows, waits, contacts and position (R50 to R65). -/

namespace Sys2Proof.Machine

/-- CLOSE_CHARGE_TIMER_EXPIRY: a close charge attempt has lasted 20 s (R52). -/
def execCloseChargeTimerExpiry (s : State) : Host.Outcome State Fault Refusal :=
  .next (s.whenStarted fun s => s.onlyIf (due s.cdu.closeCharge) State.closeEnergyFault)

/-- TRIP_PULSE_END: TRPD goes off, and ready reports that waited are handed (R50, R54). -/
def execTripPulseEnd (s : State) : Host.Outcome State Fault Refusal :=
  .next (s.whenStarted fun s => s.onlyIf (s.cdu.pulse == .trip && due s.cdu.pulseTimer) fun s =>
    s.endPulse.handReports)

/-- CLOSE_PULSE_END: CLSD goes off, and ready reports that waited are handed (R50, R54). -/
def execClosePulseEnd (s : State) : Host.Outcome State Fault Refusal :=
  .next (s.whenStarted fun s => s.onlyIf (s.cdu.pulse == .close && due s.cdu.pulseTimer) fun s =>
    s.endPulse.handReports)

/-- TRIP_WINDOW_END: a trip confirm window ends (R54, R57 to R59). -/
def execTripWindowEnd (s : State) : Host.Outcome State Fault Refusal :=
  .next (s.whenStarted fun s => s.onlyIf (due s.cdu.tripWindow) State.endTripWindow)

/-- CLOSE_WINDOW_END: the close window ends (R54, R60). -/
def execCloseWindowEnd (s : State) : Host.Outcome State Fault Refusal :=
  .next (s.whenStarted fun s => s.onlyIf (due s.cdu.closeWindow) State.endCloseWindow)

/-- TRIP_WAIT_EXPIRY: the trip capacitor did not become ready in 2 s (R56). -/
def execTripWaitExpiry (s : State) : Host.Outcome State Fault Refusal :=
  .next (s.whenStarted fun s => s.onlyIf (due s.cdu.tripWait) State.tripEnergyFault)

/-- RETRIP_WAIT_EXPIRY: the retrip wait ends in a mechanism failure (R57). -/
def execRetripWaitExpiry (s : State) : Host.Outcome State Fault Refusal :=
  .next (s.whenStarted fun s => s.onlyIf (due s.cdu.retripWait) State.mechanismFailure)

/-- CONTACT_CHANGE: a position contact's debounced state changes when its input has held the level for 10 ms (R62, R63); the edge of
the input begins the count. -/
def execContactChange (contact : Contact) (made clearFirst : Bool) (s : State) (moment : InputMoment := .held) :
    Host.Outcome State Fault Refusal :=
  .next (s.whenStarted fun s =>
    match moment with
    | .edge => s.contactsGo contact made
    | .held => s.changeContact contact made clearFirst)

/-- POSITION_FAULT: Indeterminate for 500 ms (R64). -/
def execPositionFault (s : State) : Host.Outcome State Fault Refusal :=
  .next (s.whenStarted fun s => s.onlyIf (due s.cdu.indeterminate) State.raisePositionFault)

end Sys2Proof.Machine
end

