-- ==== Sys2Proof/Machine/ExecMeasurement.lean ====
section
/-! DEFINITION. The meanings of the commands of the MFP, and of STALL_PACED_TAKE (R1 to R8, R122). -/

namespace Sys2Proof.Machine

/-- SHORT_FRAME: the bits up to a frame start that finds a frame in progress, whose partial frame is dropped and counted
(R1, R3). -/
def execShortFrame (s : State) (bits : List LinkBit := []) : Host.Outcome State Fault Refusal :=
  .next (s.whenStarted fun s => s.bitsToShort bits)

/-- MEASUREMENT_FRAME: the bits up to the 192nd of a frame, which arrives and is judged good or bad (R1 to R4). -/
def execMeasurementFrame (bits : List LinkBit) (order : List Delivery) (s : State) : Host.Outcome State Fault Refusal :=
  .next (s.whenStarted fun s => s.bitsToArrival bits order)

/-- STALL_PACED_TAKE: one record at each 4 ms while stall-paced (R122). -/
def execStallPacedTake (s : State) : Host.Outcome State Fault Refusal :=
  .next (s.whenStarted fun s => s.onlyIf (due s.pru.pace) State.pacedTake)

/-- STALLED: 12 ms without a good frame (R5). -/
def execStalled (s : State) : Host.Outcome State Fault Refusal :=
  .next (s.whenStarted fun s => s.onlyIf (due s.mfp.stallTimer) State.stall)

/-- MEASUREMENT_LOST: 250 ms without a good frame (R6). -/
def execMeasurementLost (s : State) : Host.Outcome State Fault Refusal :=
  .next (s.whenStarted fun s => s.onlyIf (due s.mfp.lostTimer) State.loseMeasurement)

/-- MEASUREMENT_BACK: the recovery timer expires (R7). -/
def execMeasurementBack (s : State) : Host.Outcome State Fault Refusal :=
  .next (s.whenStarted fun s => s.onlyIf (due s.mfp.recovery) State.regainMeasurement)

end Sys2Proof.Machine
end

