-- ==== Sys2Proof/Machine/ExecPanel.lean ====
section
/-! DEFINITION. The meanings of the commands of the TGU: wand, crew window, tone, keys, handle and tag store (R144 to R160). The command
of a key is the edge of its input, or the end of the 20 ms for which the input has held the level (R149). -/

namespace Sys2Proof.Machine

/-- WAND_ABORT: the WAND line up to a width that the decoder judges an abort (R144, R145). -/
def execWandAbort (runs : List WandRun) (s : State) : Host.Outcome State Fault Refusal :=
  .next (s.whenStarted fun s => s.followWand runs (· == .abort))

/-- CREW_CODE_COMPLETE: the WAND line up to 1000 units of silence after the trailer (R144 to R146). -/
def execCrewCodeComplete (s : State) (runs : List WandRun := []) : Host.Outcome State Fault Refusal :=
  .next (s.whenStarted fun s => s.followCode runs)

/-- CREW_WINDOW_EXPIRY: the crew window closes (R147). -/
def execCrewWindowExpiry (s : State) : Host.Outcome State Fault Refusal :=
  .next (s.whenStarted fun s => s.onlyIf ((s.tgu.window.map (·.left)) == some 0) State.closeWindow)

/-- ERROR_TONE_EXPIRY: the error tone ends (R148). -/
def execErrorToneExpiry (s : State) : Host.Outcome State Fault Refusal :=
  .next (s.whenStarted fun s => s.onlyIf (due s.tgu.errorTone) fun s =>
    s.withTgu fun t => { t with errorTone := none })

/-- TONE_TOGGLE: the next 250 ms phase of an open window (R148; log 38). -/
def execToneToggle (s : State) : Host.Outcome State Fault Refusal :=
  .next (s.whenStarted fun s => s.onlyIf (s.tgu.window.isSome && due s.tgu.tonePhase) State.toggleTone)

/-- TRIP_KEY: a press is an operator trip (R39, R149). -/
def execTripKey (pressed : Bool) (s : State) (moment : InputMoment := .held) : Host.Outcome State Fault Refusal :=
  .next (s.whenStarted fun s => s.debounce .tripKey pressed moment fun s =>
    s.keyChange pressed (fun k => { k with trip := pressed }) State.tripPress)

/-- CLOSE_KEY: a press is an operator close (R40, R149). -/
def execCloseKey (pressed : Bool) (s : State) (moment : InputMoment := .held) : Host.Outcome State Fault Refusal :=
  .next (s.whenStarted fun s => s.debounce .closeKey pressed moment fun s =>
    s.keyChange pressed (fun k => { k with close := pressed }) State.closePress)

/-- TAG_ON_KEY: a press acts under R150. -/
def execTagOnKey (pressed : Bool) (s : State) (moment : InputMoment := .held) : Host.Outcome State Fault Refusal :=
  .next (s.whenStarted fun s => s.debounce .tagOnKey pressed moment fun s =>
    s.keyChange pressed (fun k => { k with tagOn := pressed }) State.tagOnPress)

/-- TAG_OFF_KEY: a press acts under R150. -/
def execTagOffKey (pressed : Bool) (s : State) (moment : InputMoment := .held) : Host.Outcome State Fault Refusal :=
  .next (s.whenStarted fun s => s.debounce .tagOffKey pressed moment fun s =>
    s.keyChange pressed (fun k => { k with tagOff := pressed }) State.tagOffPress)

/-- BATTERY_TEST_KEY: a press is a test request with source PANEL (R76, R149). -/
def execBatteryTestKey (pressed : Bool) (s : State) (moment : InputMoment := .held) : Host.Outcome State Fault Refusal :=
  .next (s.whenStarted fun s => s.debounce .batteryKey pressed moment fun s =>
    s.keyChange pressed (fun k => { k with battery := pressed }) fun s => s.requestTest .panel)

/-- HANDLE_DOWN: the lock handle has been down for 50 ms (R44, R82, R151), or HNDL goes down at this moment. -/
def execHandleDown (btuFirst : Bool) (s : State) (moment : InputMoment := .held) : Host.Outcome State Fault Refusal :=
  .next (s.whenStarted fun s => s.debounce .hndl true moment fun s => s.handleGoesDown btuFirst)

/-- HANDLE_UP: the lock handle has been up for 50 ms (R151), or HNDL comes up at this moment. -/
def execHandleUp (s : State) (moment : InputMoment := .held) : Host.Outcome State Fault Refusal :=
  .next (s.whenStarted fun s => s.debounce .hndl false moment fun s => s.withTgu fun t => { t with handleDown := false })

/-- TAG_STORE_WRITE_END: the write on the memory link ends, acknowledged, or without when its 20 ms are over (R160, R175). -/
def execTagStoreWriteEnd (acknowledged : Bool) (s : State) : Host.Outcome State Fault Refusal :=
  .next (s.whenStarted fun s => s.onlyIf (s.svp.writeEnds acknowledged) fun s => s.endWrite acknowledged)

/-- WAND_MARK: the WAND line, as far as it moves the decoder on and aborts nothing (R144, R145). -/
def execWandMark (runs : List WandRun) (s : State) : Host.Outcome State Fault Refusal :=
  .next (s.whenStarted fun s => s.followWand runs Verdict.moves)

end Sys2Proof.Machine
end

