-- ==== Sys2Proof/Machine/ExecReports.lean ====
section
/-! DEFINITION. The meanings of the commands of the PRU's own timers (R119, R127). -/

namespace Sys2Proof.Machine

/-- BEACON_TIMER_EXPIRY: a BEACON is built and the timer reloads (R119). -/
def execBeaconTimerExpiry (s : State) : Host.Outcome State Fault Refusal :=
  .next (s.whenStarted fun s => s.onlyIf s.beaconDue State.expireBeacon)

/-- PEER_SILENT: 3 × B since a peer was last heard (R127). -/
def execPeerSilent (id : Nat) (s : State) : Host.Outcome State Fault Refusal :=
  .next (s.whenStarted fun s => s.agePeer id s.silentDue fun e => some e.silenced)

/-- PEER_REMOVAL: 10 × B since a peer was last heard (R127). -/
def execPeerRemoval (id : Nat) (s : State) : Host.Outcome State Fault Refusal :=
  .next (s.whenStarted fun s => s.agePeer id s.removalDue fun _ => none)

end Sys2Proof.Machine
end

