-- ==== Sys2Proof/Machine/ExecSequence.lean ====
section
/-! DEFINITION. The meanings of the commands of the SQC's timers and the hold records' expiry (R33, R34, R37, R45, R46, R137). -/

namespace Sys2Proof.Machine

/-- RECLOSE_TIMER_EXPIRY: the close gate is tested (R33). -/
def execRecloseTimerExpiry (s : State) : Host.Outcome State Fault Refusal :=
  .next (s.whenStarted fun s => s.onlyIf (due s.sqc.reclose) fun s => s.closeGate true)

/-- CHARGE_TIMER_EXPIRY: no close energy in 20 s (R34, R41). -/
def execChargeTimerExpiry (s : State) : Host.Outcome State Fault Refusal :=
  .next (s.whenStarted fun s => s.onlyIf (due s.sqc.charge) fun s =>
    (s.withSqc fun q => { q with charge := none }).sqcCloseEnergyFault)

/-- RESET_TIMER_EXPIRY: the sequence is over (R37). -/
def execResetTimerExpiry (s : State) : Host.Outcome State Fault Refusal :=
  .next (s.whenStarted fun s => s.onlyIf (due s.sqc.reset) State.sqcResetExpiry)

/-- MANUAL_CLOSE_WINDOW_EXPIRY: the window closes (R45). -/
def execManualCloseWindowExpiry (s : State) : Host.Outcome State Fault Refusal :=
  .next (s.whenStarted fun s => s.onlyIf (due s.sqc.manualWindow) fun s =>
    s.withSqc fun q => { q with manualWindow := none })

/-- START_HOLD_EXPIRY: start hold goes off (R46). -/
def execStartHoldExpiry (s : State) : Host.Outcome State Fault Refusal :=
  .next (s.whenStarted fun s => s.onlyIf (due s.sqc.startHold) fun s =>
    s.withSqc fun q => { q with startHold := none })

/-- HOLD_EXPIRY: a standing hold has reached its ends-at time (R137). -/
def execHoldExpiry (kind : Kind) (s : State) : Host.Outcome State Fault Refusal :=
  .next (s.whenStarted fun s => s.onlyIf (s.holdDue kind) fun s => s.endHold kind .expiry)

end Sys2Proof.Machine
end

