-- ==== Sys2Proof/Machine/ExecService.lean ====
section
/-! DEFINITION. The meanings of the commands of COLD_START and the service port (R170 to R182). -/

namespace Sys2Proof.Machine

/-- COLD_START: the cold start order (R179). It is the one command that a station not started takes (log 2). -/
def execColdStart (settings store : MemRead) (inputs : InputLevels) (s : State) (between : List LinkBit := [])
    (order : List Delivery := []) : Host.Outcome State Fault Refusal :=
  .next (s.coldStart settings store inputs between order)

/-- OPERATOR_TRIP: the Operator-Trip request (R39, R172). -/
def execOperatorTrip (s : State) : Host.Outcome State Fault Refusal :=
  .next (s.whenStarted fun s => s.takeRequest .operatorTrip)

/-- OPERATOR_CLOSE: the Operator-Close request (R40, R172). -/
def execOperatorClose (s : State) : Host.Outcome State Fault Refusal :=
  .next (s.whenStarted fun s => s.takeRequest .operatorClose)

/-- TAG_APPLY: the Tag-Apply request (R153, R172). -/
def execTagApply (code : Word16) (s : State) : Host.Outcome State Fault Refusal :=
  .next (s.whenStarted fun s => s.takeRequest (.tagApply code))

/-- TAG_REMOVE: the Tag-Remove request (R154, R172). -/
def execTagRemove (code : Word16) (s : State) : Host.Outcome State Fault Refusal :=
  .next (s.whenStarted fun s => s.takeRequest (.tagRemove code))

/-- BATTERY_TEST: the Battery-Test request (R76, R172). -/
def execBatteryTest (s : State) : Host.Outcome State Fault Refusal :=
  .next (s.whenStarted fun s => s.takeRequest .batteryTest)

/-- READ_STATUS: the Read-Status request (R172, R173). -/
def execReadStatus (part : StatusPart) (s : State) : Host.Outcome State Fault Refusal :=
  .next (s.whenStarted fun s => s.takeRequest (.readStatus part))

/-- READ_RECORDS_FROM: the Read-Records-From request (R168, R172, R174). -/
def execReadRecordsFrom (number : Word32) (s : State) : Host.Outcome State Fault Refusal :=
  .next (s.whenStarted fun s => s.takeRequest (.readRecordsFrom number))

/-- READ_PEER_TABLE: the Read-Peer-Table request (R172, R174). -/
def execReadPeerTable (s : State) : Host.Outcome State Fault Refusal :=
  .next (s.whenStarted fun s => s.takeRequest .readPeerTable)

/-- READ_TAG_TABLE: the Read-Tag-Table request (R172, R174). -/
def execReadTagTable (s : State) : Host.Outcome State Fault Refusal :=
  .next (s.whenStarted fun s => s.takeRequest .readTagTable)

/-- SETTINGS_RESTART: the Settings-Restart request (R172, R180). -/
def execSettingsRestart (s : State) : Host.Outcome State Fault Refusal :=
  .next (s.whenStarted fun s => s.takeRequest .settingsRestart)

/-- SETTINGS_RESTART_APPLY: the settings read has been answered, or has ended, complete, or incomplete when its 20 ms are over
(R175, R181; log 19). -/
def execSettingsRestartApply (event : ReadEvent) (closedMade openMade : Bool) (s : State) :
    Host.Outcome State Fault Refusal :=
  .next (s.whenStarted fun s => s.onlyIf (s.svp.service == .restarting) fun s => s.followRead event closedMade openMade)

/-- BAD_REQUEST: a good frame that is no request of R172 (R171). -/
def execBadRequest (code : Byte) (payload : List Byte) (s : State) : Host.Outcome State Fault Refusal :=
  .next (s.whenStarted fun s => s.onlyIf (s.svp.service == .listen && (parseRequest code payload).isNone) fun s =>
    s.resetAssembly.serveBad code)

/-- REQUEST_DISCARDED: a request frame is given up (R170). -/
def execRequestDiscarded (cause : DiscardCause) (s : State) : Host.Outcome State Fault Refusal :=
  .next (s.whenStarted fun s => s.onlyIf (s.svp.service == .listen && s.svp.mayDiscard cause) State.discardRequest)

/-- SERVICE_GAP_TIMEOUT: 10 ms without a byte in LENGTH or BODY (R170). -/
def execServiceGapTimeout (s : State) : Host.Outcome State Fault Refusal :=
  .next (s.whenStarted fun s => s.onlyIf (s.svp.service == .listen && due s.svp.gap) State.discardRequest)

/-- RESPONSE_SENT: the sum byte has left STXD (R171). -/
def execResponseSent (s : State) : Host.Outcome State Fault Refusal :=
  .next (s.whenStarted fun s => s.onlyIf (s.svp.service == .answering) fun s =>
    s.withSvp fun v => { v with service := .listen, response := [] })

/-- SERVICE_BYTE: a byte or framing error on SRXD (R170). -/
def execServiceByte (rx : LineByte) (s : State) : Host.Outcome State Fault Refusal :=
  .next (s.whenStarted fun s => s.onlyIf (s.svp.service == .listen) fun s => s.assemble rx)

end Sys2Proof.Machine
end

