-- ==== Sys2Proof/Machine/Dispatch.lean ====
section
/-! DEFINITION. One arm for each command of the table, each one direct call of its meaning. -/

namespace Sys2Proof.Machine

/-- A command's effect on everything but the queue. -/
def exec (i : Instr) (s : State) : Host.Outcome State Fault Refusal :=
  match i with
  | .coldStart settings store inputs between order => Sys2Proof.Machine.execColdStart settings store inputs s between order
  | .shortFrame bits => Sys2Proof.Machine.execShortFrame s bits
  | .measurementFrame bits order => Sys2Proof.Machine.execMeasurementFrame bits order s
  | .stallPacedTake => Sys2Proof.Machine.execStallPacedTake s
  | .stalled => Sys2Proof.Machine.execStalled s
  | .measurementLost => Sys2Proof.Machine.execMeasurementLost s
  | .measurementBack => Sys2Proof.Machine.execMeasurementBack s
  | .closeChargeTimerExpiry => Sys2Proof.Machine.execCloseChargeTimerExpiry s
  | .tripPulseEnd => Sys2Proof.Machine.execTripPulseEnd s
  | .closePulseEnd => Sys2Proof.Machine.execClosePulseEnd s
  | .tripWindowEnd => Sys2Proof.Machine.execTripWindowEnd s
  | .closeWindowEnd => Sys2Proof.Machine.execCloseWindowEnd s
  | .tripWaitExpiry => Sys2Proof.Machine.execTripWaitExpiry s
  | .retripWaitExpiry => Sys2Proof.Machine.execRetripWaitExpiry s
  | .contactChange contact made clearFirst moment => Sys2Proof.Machine.execContactChange contact made clearFirst s moment
  | .positionFault => Sys2Proof.Machine.execPositionFault s
  | .recloseTimerExpiry => Sys2Proof.Machine.execRecloseTimerExpiry s
  | .chargeTimerExpiry => Sys2Proof.Machine.execChargeTimerExpiry s
  | .resetTimerExpiry => Sys2Proof.Machine.execResetTimerExpiry s
  | .manualCloseWindowExpiry => Sys2Proof.Machine.execManualCloseWindowExpiry s
  | .startHoldExpiry => Sys2Proof.Machine.execStartHoldExpiry s
  | .holdExpiry kind => Sys2Proof.Machine.execHoldExpiry kind s
  | .acPresentChange present moment => Sys2Proof.Machine.execAcPresentChange present s moment
  | .lowVoltageTimerExpiry => Sys2Proof.Machine.execLowVoltageTimerExpiry s
  | .disconnectTimerExpiry => Sys2Proof.Machine.execDisconnectTimerExpiry s
  | .setpointWordSent => Sys2Proof.Machine.execSetpointWordSent s
  | .taperTimerExpiry => Sys2Proof.Machine.execTaperTimerExpiry s
  | .boostLimitExpiry => Sys2Proof.Machine.execBoostLimitExpiry s
  | .scheduleTimerExpiry => Sys2Proof.Machine.execScheduleTimerExpiry s
  | .scheduledTestRequest => Sys2Proof.Machine.execScheduledTestRequest s
  | .testStart => Sys2Proof.Machine.execTestStart s
  | .settleTimerExpiry => Sys2Proof.Machine.execSettleTimerExpiry s
  | .loadTimerExpiry => Sys2Proof.Machine.execLoadTimerExpiry s
  | .quietCountEnd => Sys2Proof.Machine.execQuietCountEnd s
  | .backoffEnd => Sys2Proof.Machine.execBackoffEnd s
  | .radioReadySeen => Sys2Proof.Machine.execRadioReadySeen s
  | .readyTimerExpiry => Sys2Proof.Machine.execReadyTimerExpiry s
  | .readyDrop sent back => Sys2Proof.Machine.execReadyDrop s sent back
  | .abortSent => Sys2Proof.Machine.execAbortSent s
  | .copySent => Sys2Proof.Machine.execCopySent s
  | .keyDownExpiry => Sys2Proof.Machine.execKeyDownExpiry s
  | .jabberExpiry => Sys2Proof.Machine.execJabberExpiry s
  | .carrierChange present => Sys2Proof.Machine.execCarrierChange present s
  | .radioByte rx => Sys2Proof.Machine.execRadioByte rx s
  | .receiveGapTimeout => Sys2Proof.Machine.execReceiveGapTimeout s
  | .beaconTimerExpiry => Sys2Proof.Machine.execBeaconTimerExpiry s
  | .peerSilent id => Sys2Proof.Machine.execPeerSilent id s
  | .peerRemoval id => Sys2Proof.Machine.execPeerRemoval id s
  | .wandAbort runs => Sys2Proof.Machine.execWandAbort runs s
  | .crewCodeComplete runs => Sys2Proof.Machine.execCrewCodeComplete s runs
  | .crewWindowExpiry => Sys2Proof.Machine.execCrewWindowExpiry s
  | .errorToneExpiry => Sys2Proof.Machine.execErrorToneExpiry s
  | .toneToggle => Sys2Proof.Machine.execToneToggle s
  | .tripKey pressed moment => Sys2Proof.Machine.execTripKey pressed s moment
  | .closeKey pressed moment => Sys2Proof.Machine.execCloseKey pressed s moment
  | .tagOnKey pressed moment => Sys2Proof.Machine.execTagOnKey pressed s moment
  | .tagOffKey pressed moment => Sys2Proof.Machine.execTagOffKey pressed s moment
  | .batteryTestKey pressed moment => Sys2Proof.Machine.execBatteryTestKey pressed s moment
  | .handleDown btuFirst moment => Sys2Proof.Machine.execHandleDown btuFirst s moment
  | .handleUp moment => Sys2Proof.Machine.execHandleUp s moment
  | .operatorTrip => Sys2Proof.Machine.execOperatorTrip s
  | .operatorClose => Sys2Proof.Machine.execOperatorClose s
  | .tagApply code => Sys2Proof.Machine.execTagApply code s
  | .tagRemove code => Sys2Proof.Machine.execTagRemove code s
  | .tagStoreWriteEnd acknowledged => Sys2Proof.Machine.execTagStoreWriteEnd acknowledged s
  | .batteryTest => Sys2Proof.Machine.execBatteryTest s
  | .readStatus part => Sys2Proof.Machine.execReadStatus part s
  | .readRecordsFrom number => Sys2Proof.Machine.execReadRecordsFrom number s
  | .readPeerTable => Sys2Proof.Machine.execReadPeerTable s
  | .readTagTable => Sys2Proof.Machine.execReadTagTable s
  | .settingsRestart => Sys2Proof.Machine.execSettingsRestart s
  | .settingsRestartApply event closedMade openMade => Sys2Proof.Machine.execSettingsRestartApply event closedMade openMade s
  | .badRequest code payload => Sys2Proof.Machine.execBadRequest code payload s
  | .requestDiscarded cause => Sys2Proof.Machine.execRequestDiscarded cause s
  | .serviceGapTimeout => Sys2Proof.Machine.execServiceGapTimeout s
  | .responseSent => Sys2Proof.Machine.execResponseSent s
  | .wandMark runs => Sys2Proof.Machine.execWandMark runs s
  | .serviceByte rx => Sys2Proof.Machine.execServiceByte rx s

end Sys2Proof.Machine
end

