-- ==== Sys2Proof/Safety.lean ====
section
/-! DEFINITION. What a sound state of the station is: the laws that the chapters state about every moment, one structure for each
group of state. The statements say that no step leaves them, from any state that has them. -/

namespace Sys2Proof.Machine

/-- The transmit queue (R90): Fault and Crew entries in the front part, the BEACON alone in the Status part, at most 8 entries,
copies and attempts in their ranges, and one entry in service exactly in KEY_UP and SENDING. -/
structure State.QueueSound (s : State) : Prop where
  front : ∀ e ∈ s.chc.front, e.kind.cls ≠ .status
  status : ∀ e ∈ s.chc.status, e.kind = .beacon
  beacons : s.chc.status.length ≤ 1
  size : s.chc.queued ≤ 8
  copies : ∀ e ∈ s.chc.front ++ s.chc.status, 1 ≤ e.copies ∧ e.copies ≤ 3 ∧ e.attempts ≤ 2
  served : ((s.chc.front ++ s.chc.status).filter (·.inService)).length =
    if s.chc.tx = .keyUp ∨ s.chc.tx = .sending then 1 else 0

/-- The event ring (R163, R166): at most 64 records, numbered one after another up to the next number, and no more unread than
held. -/
structure State.RingSound (s : State) : Prop where
  size : s.rcs.ring.length ≤ 64
  unread : s.rcs.unread ≤ s.rcs.ring.length
  numbers : ∀ i (h : i < s.rcs.ring.length),
    s.rcs.ring[i].number = s.rcs.next - BitVec.ofNat 32 (s.rcs.ring.length - i)

/-- The ranges of the elements (1.3, R10, R15, R18), of the frame in progress (R1), of the counters (R3, R4, R93, R109, R123 to
R125) and of the receive queue (R108), and the 20 ms of the memory link, which run exactly while it carries a write or a read
that waits for the 0x5C (R160, R175). -/
structure State.RangesSound (s : State) : Prop where
  elements : ∀ e ∈ s.ocu.elems.toList, e.m ≤ 10240 ∧ e.acc ≤ 1048576 ∧ e.count ≤ 2 ∧ e.run ≤ 65535
  assembly : ∀ held, s.mfp.frame = some held → 1 ≤ held.length ∧ held.length ≤ 191
  frames : s.mfp.badFrames ≤ 65535 ∧ s.mfp.framesMissed ≤ 65535
  lost : s.chc.reportsLost ≤ 255
  sent : s.chc.framesSent ≤ 65535 ∧ s.chc.attemptsFailed ≤ 65535
  heard : s.chc.framesAccepted ≤ 65535 ∧ s.chc.checkFailures ≤ 65535 ∧ s.chc.receiveAborts ≤ 65535 ∧
    s.chc.receiveOverruns ≤ 65535
  taken : s.pru.reportsRefused ≤ 65535 ∧ s.pru.duplicates ≤ 65535 ∧ s.pru.framesUnentered ≤ 65535
  received : s.chc.queue.length ≤ 6
  link : s.svp.linkTimer.isSome = (s.svp.link == .write || s.svp.link == .read)

/-- The operating sequence: s within 0..N and 0 in READY (2.1, R48), 1..N − 1 in RESET_TIMING, RECLOSE_WAIT, CLOSE_CHARGE and an
automatic CLOSING and in a trip that is not final (R27, R32), a current trip in TRIPPING (2.1), a lockout reason exactly in
LOCKOUT and BREAKER_FAIL (R25), and each timer idle outside its states (R32, R34, R37, R41). -/
structure State.SequenceSound (s : State) : Prop where
  limit : 1 ≤ s.cfg.tripsToLockout
  shots : s.sqc.shots ≤ s.cfg.tripsToLockout
  ready : s.sqc.seq = .ready → s.sqc.shots = 0
  counting : (s.sqc.seq = .resetTiming ∨ s.sqc.seq = .recloseWait ∨ s.sqc.seq = .closeCharge ∨
      (s.sqc.seq = .closing ∧ s.sqc.closeKind = .automatic)) → 1 ≤ s.sqc.shots ∧ s.sqc.shots < s.cfg.tripsToLockout
  tripping : s.sqc.seq = .tripping → ∃ t, s.sqc.trip = some t ∧
      (t.finalReason = none → 1 ≤ s.sqc.shots ∧ s.sqc.shots < s.cfg.tripsToLockout)
  reason : s.sqc.reason.isSome ↔ (s.sqc.seq = .lockout ∨ s.sqc.seq = .breakerFail)
  reclose : s.sqc.reclose.isSome → s.sqc.seq = .recloseWait
  charge : s.sqc.charge.isSome → s.sqc.seq = .closeCharge ∨ s.sqc.seq = .closing
  reset : s.sqc.reset.isSome → s.sqc.seq = .resetTiming

/-- The charge enables and the close charge attempt: each enable is on only while its charging is permitted (R51), the attempt's
timer runs exactly while CCEN is on below 360 (R52), and a capacitor that is spent is not ready (R50). -/
structure State.ChargeSound (s : State) : Prop where
  trip : s.cdu.tcen = true → s.tripChargePermitted = true
  close : s.cdu.ccen = true → s.closeChargePermitted = true
  attempt : s.cdu.closeCharge.isSome = (s.cdu.ccen && decide (s.cdu.closeV < 360))
  tripReady : s.cdu.tripReady = true → s.cdu.tripSpent = false ∧ 240 ≤ s.cdu.tripV
  closeReady : s.cdu.closeReady = true → s.cdu.closeSpent = false ∧ 360 ≤ s.cdu.closeV

/-- The tag table and the overflow record (R152, R157), and the law that no hold stands while a tag is in force (R137, R140). -/
structure State.TagsSound (s : State) : Prop where
  size : s.tgu.tags.length ≤ 8
  locals : (s.tgu.tags.filter (·.source.isLocal)).length ≤ 4
  pairs : (s.tgu.tags.map fun e => (e.source, e.code)).Nodup
  store : ∀ e ∈ s.tgu.tags, e.source = .store → e.code = 0 ∧ e.slot = none
  remote : ∀ e ∈ s.tgu.tags, e.source.isLocal = false → e.slot = none
  overflow : ∀ p, s.tgu.overflow = some p → s.tgu.tags.length = 8 ∧ s.hasTag (.peer p.peer) p.code = false
  holds : s.tagInForce = true → s.ocu.phase.hold = none ∧ s.ocu.ground.hold = none

/-- The peer table (R124): 16 places, each station in one place at the most, ids 1..250 and never the station's own, which no
record of the receive queue bears either (R107). -/
structure State.PeersSound (s : State) : Prop where
  places : s.pru.peers.length = 16
  ids : (s.pru.peers.reduceOption.map (·.id)).Nodup
  range : ∀ e ∈ s.pru.peers.reduceOption, 1 ≤ e.id ∧ e.id ≤ 250 ∧ 1 ≤ e.position ∧ e.position ≤ 63 ∧ e.id ≠ s.cfg.stationId
  senders : ∀ r ∈ s.chc.queue, r.sender ≠ s.cfg.stationId

/-- The settings in force are an image that R177 accepts or the defaults, which pass the same judgement, and the LFSR is not 0
(R89). -/
structure State.SettingsSound (s : State) : Prop where
  version : s.cfg.version = 2
  ranges : rangesOk s.cfg = true
  curves : s.cfg.curves.all curveOk = true
  lfsr : s.chc.lfsr ≠ 0

/-- The debounced inputs (R62, R67, R149, R151): the count of an input runs exactly while its level differs from the debounced state,
within its span. -/
structure State.InputsSound (s : State) : Prop where
  counting : ∀ pin, (s.inputs.line pin).count.isSome = true ↔ (s.inputs.line pin).level ≠ s.debounced pin
  spans : ∀ pin n, (s.inputs.line pin).count = some n → n ≤ pin.span

/-- A running test stands in READY with no element PICKED: it starts so (R78), and a first pickup and the end of READY abandon it
(R12, R82). Its two timers run in SETTLE and in LOADED alone (R79). -/
structure State.TestSound (s : State) : Prop where
  running : s.btu.test = .settle ∨ s.btu.test = .loaded → s.sqc.seq = .ready ∧ ∀ e ∈ s.ocu.elems.toList, e.picked = false
  settling : s.btu.settle.isSome = true → s.btu.test = .settle
  loading : s.btu.load.isSome = true → s.btu.test = .loaded

/-- Whether a confirmed mark runs on the WAND line (R144). -/
def WandLine.inMark : WandLine → Bool
  | .mark _ => true
  | _ => false

/-- The decoder stands with the WAND line and its bits: in a mark where it waits for a mark's end, in a space where it waits for a
mark, with as many bits as it has passed. A mark not yet confirmed is below 10 units, and in SILENCE the space before it, or the space
that runs, is below the 1000 units that complete the code (R144, R145). -/
structure State.WandSound (s : State) : Prop where
  glitch : ∀ space width, s.tgu.line = .rising space width → width < 10
  header : s.tgu.decoder = .hspace → s.tgu.bits = [] ∧ s.tgu.line.inMark = false
  marks : ∀ i, s.tgu.decoder = .mark i → i < 32 ∧ s.tgu.bits.length = i ∧ s.tgu.line.inMark = true
  spaces : ∀ i, s.tgu.decoder = .space i → i < 32 ∧ s.tgu.bits.length = i ∧ s.tgu.line.inMark = false
  trailer : s.tgu.decoder = .trailer → s.tgu.bits.length = 32 ∧ s.tgu.line.inMark = true
  silence : s.tgu.decoder = .silence → s.tgu.bits.length = 32 ∧ s.tgu.line.inMark = false
  incomplete : s.tgu.decoder = .silence → ∀ space,
    (s.tgu.line = .space space ∨ ∃ width, s.tgu.line = .rising space width) → space < 1000

/-! ### Words for the statements -/

/-- The bits of some bytes, most significant bit first (R1). -/
def bitsOf (bytes : List Byte) : List Bool :=
  bytes.flatMap fun b =>
    [b.getLsbD 7, b.getLsbD 6, b.getLsbD 5, b.getLsbD 4, b.getLsbD 3, b.getLsbD 2, b.getLsbD 1, b.getLsbD 0]

/-- Bits that hold no frame start (R1). -/
def Startless (bits : List LinkBit) : Prop := ∀ b ∈ bits, b.start = false

/-- Bits that bring a frame of some 24 bytes to its arrival and nothing else: the rest of the frame in progress, or, with none in
progress, bits of no frame and then a whole one (R1). -/
def Brings (frame : Option (List Bool)) (bits : List LinkBit) (bytes : List Byte) : Prop :=
  bytes.length = 24 ∧
    ((∃ held, frame = some held ∧ bits ≠ [] ∧ Startless bits ∧ held ++ bits.map (·.bit) = bitsOf bytes) ∨
      (frame = none ∧ ∃ (lead rest : List LinkBit) (first : LinkBit), bits = lead ++ first :: rest ∧ Startless lead ∧
        first.start = true ∧ Startless rest ∧ first.bit :: rest.map (·.bit) = bitsOf bytes))

/-- A frame that is good by R2: 24 bytes, the start code, the sum, the source byte and the front-end status. -/
def FrameIsGood (b : List Byte) : Prop :=
  b.length = 24 ∧ b.take 2 = [0xA7#8, 0x4C#8] ∧ byteSum b % 256 = 0 ∧ (b.getD 11 0 = 0#8 ∨ b.getD 11 0 = 1#8) ∧
    b.getD 12 0 = 0#8

/-- An input has held a level for its whole span (R62, R67, R149, R151). -/
def State.Held (s : State) (pin : InputPin) (level : Bool) : Prop := s.inputs.line pin = { level := level, count := some 0 }

/-- The inputs with one of them no longer counted. -/
def Inputs.still (i : Inputs) (pin : InputPin) : Inputs := i.put pin { level := (i.line pin).level, count := none }

/-- The command of an input that goes to a level, or has held it (R62, R67, R149, R151); `order` is the order that the commands of the
contacts and of the handle carry (log 8). -/
def InputPin.command (pin : InputPin) (level order : Bool) (moment : InputMoment) : Instr :=
  match pin with
  | .posc => .contactChange .closedContact level order moment
  | .poso => .contactChange .openContact level order moment
  | .acp => .acPresentChange level moment
  | .tripKey => .tripKey level moment
  | .closeKey => .closeKey level moment
  | .tagOnKey => .tagOnKey level moment
  | .tagOffKey => .tagOffKey level moment
  | .batteryKey => .batteryTestKey level moment
  | .hndl => if level = true then .handleDown order moment else .handleUp moment

/-- A test that is not running (4.4). -/
def State.quietTest (s : State) : Prop := s.btu.test = .idle ∨ s.btu.test = .pending

/-- Both charge enables and the close charge attempt for given permissions (R51, R52): trip resumes below 250 and stops at 260,
close resumes below 370 and stops at 380, and an attempt runs while CCEN is on below 360. -/
def Cdu.charged (c : Cdu) (tripAllowed closeAllowed : Bool) : Cdu :=
  let ccen := closeAllowed && (decide (c.closeV < 370) || (c.ccen && decide (c.closeV < 380)))
  { c with
    tcen := tripAllowed && (decide (c.tripV < 250) || (c.tcen && decide (c.tripV < 260)))
    ccen := ccen
    closeCharge := if ccen && decide (c.closeV < 360) then some (c.closeCharge.getD 20000) else none }

/-- Trip charging is permitted by everything but a pulse: stalled is clear and the contactor holds (R31, R51). -/
def State.tripSupply (s : State) : Bool := !s.mfp.stalled && s.btu.reserve != .disconnect

/-- Close charging is permitted by everything but a pulse and the bar: the reserve state is NORMAL or RESERVE and stalled is
clear (R51). -/
def State.closeSupply (s : State) : Bool :=
  (s.btu.reserve == .normal || s.btu.reserve == .reserve) && !s.mfp.stalled

/-- A word goes out when the target setpoint differs from the setpoint sent and none is on its way (R69). -/
def Btu.sends (b : Btu) : Btu :=
  let target := if b.charger = .boost then b.vf + 120 else b.vf
  { b with sending := if b.sending = none ∧ target ≠ b.setpointSent then some target else b.sending }

/-- A test request from a source (R76); in IDLE it moves the test to PENDING, whose conditions are then tested. -/
def Btu.asked (b : Btu) (panel service schedule : Bool) : Btu :=
  if b.test = .idle then
    { b with test := .pending, sources := { panel := panel, service := service, schedule := schedule }, testMoment := true }
  else
    { b with
      sources :=
        { panel := b.sources.panel || panel, service := b.sources.service || service,
          schedule := b.sources.schedule || schedule } }

/-- An element cleared by trip confirmed: its last multiple alone is kept (R22). -/
def Element.cleared (e : Element) : Element := { m := e.m, picked := false, acc := 0, count := 0, run := 0, peak := 0 }

/-- The OCU after trip confirmed found no hold standing (R22). -/
def Ocu.cleared (o : Ocu) : Ocu :=
  { o with
    elems := { a := o.elems.a.cleared, b := o.elems.b.cleared, c := o.elems.c.cleared, g := o.elems.g.cleared }
    longestRun := 0
    orderRaised := false }

/-- The OCU at an entry to READY or RESET_TIMING: both own-order marks are clear (R132). -/
def Ocu.unmarked (o : Ocu) : Ocu :=
  { o with phase := { o.phase with ownOrder := false }, ground := { o.ground with ownOrder := false } }

/-- The SQC in another state, with a reason or none: the timers of the state left are idle and a close order not begun is
withdrawn; the memory is kept only by a closed state (R25, R27, R34, R37, R38, R47). -/
def Sqc.moved (q : Sqc) (seq : SeqState) (reason : Option LockReason) : Sqc :=
  { q with
    seq := seq
    closeBegun := false
    reclose := none
    charge := none
    reset := none
    reason := reason
    memory := if seq = .ready ∨ seq = .resetTiming then q.memory else none }

/-- The CDU after it has begun a trip pulse (R50, R54, R55): the window runs 100 ms, the trip capacitor is spent. -/
def Cdu.tripping (c : Cdu) (width : Nat) (request : TripRequest) : Cdu :=
  { c with
    pulse := .trip
    pulseTimer := some width
    tripWindow := some 100
    tripSpent := true
    tripReady := false
    tripOwed := false
    tripRequest := request
    tripWait := none
    retripWait := none }

/-- The CDU after it has begun a close pulse (R50, R54, R60): the window runs 200 ms, the close capacitor is spent. -/
def Cdu.closing (c : Cdu) (width : Nat) : Cdu :=
  { c with
    pulse := .close
    pulseTimer := some width
    closeWindow := some 200
    closeRequest := true
    closeSpent := true
    closeReady := false
    closeOwed := false }

/-- The RCS after it has written one record at a station time (R163, R166). -/
def Rcs.written (now : Word32) (r : Rcs) (body : RecordBody) : Rcs :=
  { ring := (r.ring ++ [({ number := r.next, time := now, body := body } : EventRecord)]).drop (r.ring.length + 1 - 64)
    next := r.next + 1
    unread := min 64 (r.unread + 1) }

/-- The RCS after it has written some records, one after another, at one moment (R163). -/
def State.withRecords (s : State) (bodies : List RecordBody) : Rcs := bodies.foldl (Rcs.written s.now) s.rcs

/-- The LOCKOUT record of an entry to LOCKOUT (R38, R164). -/
def lockoutRecord (reason : LockReason) (shots : Nat) : RecordBody :=
  { kind := .lockout, reason := some (.lock reason), shots := some shots }

/-- A close taken to READY or RESET_TIMING: the SQC as given, the own-order marks clear (R132), at READY the bar lifted (R53), and
a record written. -/
def State.settled (s : State) (q : Sqc) (body : RecordBody) : State :=
  { s with
    sqc := q
    ocu := s.ocu.unmarked
    cdu :=
      if q.seq = .ready then
        { s.cdu with closeBarred := false }.charged (s.tripSupply && s.cdu.pulse != Pulse.trip)
          (s.closeSupply && s.cdu.pulse != Pulse.close)
      else s.cdu
    rcs := s.withRecords [body] }

/-- The TRIP record of a trip taken (R27, R164). -/
def tripRecord (trip : CurrentTrip) (shots : Nat) : RecordBody :=
  { kind := .trip
    elements := some trip.elements
    peak := some trip.peak
    tripNumber := some trip.number
    shots := some shots
    reason := trip.finalReason.map Reason.lock }

/-- The payload of a TRIP report (R115, R121). -/
def tripPayload (trip : CurrentTrip) (failed : Bool) (run : Nat) : List Byte :=
  beBytes 1 trip.cause.code ++ beBytes 1 trip.elements.code ++ beBytes 2 trip.peak ++ beBytes 1 trip.number ++
    beBytes 1 ((if trip.finalReason.isSome then 1 else 0) + (if failed then 2 else 0)) ++
    beBytes 1 ((trip.finalReason.map LockReason.code).getD 0) ++ beBytes 2 run

/-- The current trip of an operator trip (R39). -/
def operatorsTrip : CurrentTrip :=
  { cause := .operator
    elements := { a := false, b := false, c := false, g := false }
    peak := 0
    number := 0
    finalReason := some .operator }

/-- The entries that some new Fault and Crew reports make, from a first report sequence on (R91, R113). -/
def reportEntries (seq : Byte) : List (ReportKind × List Byte) → List TxEntry
  | [] => []
  | r :: rest =>
    { kind := r.1, seq := seq, payload := r.2, copies := 3, attempts := 0, inService := false } :: reportEntries (seq + 1) rest

/-- Some Fault and Crew reports have been built one after another and handed to the CHC (R91, R112, R113): they take the next
sequences, with station id 0 the CHC is as it was, and a queue with room has them at the tail of its front part. One report that
finds 8 entries displaces the newest Status entry not in service, or is given up where there is none; either way one report is
lost (R91, R93). What the transmitter then does is its own (R94, R96). -/
def Reports (s t : State) (reports : List (ReportKind × List Byte)) : Prop :=
  t.pru =
    { s.pru with
      nextSeq := s.pru.nextSeq + BitVec.ofNat 8 reports.length
      lastEvent := if reports = [] then s.pru.lastEvent else s.pru.nextSeq + BitVec.ofNat 8 (reports.length - 1) } ∧
  (s.cfg.stationId = 0 → t.chc = s.chc) ∧
  (s.cfg.stationId ≠ 0 → s.chc.queued + reports.length ≤ 8 →
    t.chc =
      { s.chc with
        front := s.chc.front ++ reportEntries s.pru.nextSeq reports
        tx := t.chc.tx
        quiet := t.chc.quiet
        backoff := t.chc.backoff
        slot := t.chc.slot
        lfsr := t.chc.lfsr }) ∧
  (∀ r, reports = [r] → s.cfg.stationId ≠ 0 → 8 ≤ s.chc.queued →
    t.chc =
      { s.chc with
        front :=
          if s.chc.status.any (fun e => !e.inService) = true then s.chc.front ++ reportEntries s.pru.nextSeq reports
          else s.chc.front
        status := (s.chc.status.reverse.eraseP fun e => !e.inService).reverse
        reportsLost := min 255 (s.chc.reportsLost + 1)
        tx := t.chc.tx
        quiet := t.chc.quiet
        backoff := t.chc.backoff
        slot := t.chc.slot
        lfsr := t.chc.lfsr })

/-- An entry to LOCKOUT and nothing else (R38): the reason is set, s kept, the timers cancelled, the manual-close window closed,
the stepped flag and the memory cleared, a close order not begun withdrawn; the LOCKOUT record follows some records made just
before it, and the LOCKOUT report carries the reason and s. -/
def LocksOut (s t : State) (reason : LockReason) (before : List RecordBody) : Prop :=
  t =
    { s with
      sqc := { s.sqc.moved .lockout (some reason) with manualWindow := none, stepped := false }
      rcs := s.withRecords (before ++ [lockoutRecord reason s.sqc.shots])
      pru := t.pru
      chc := t.chc } ∧
  Reports s t [(.lockout, beBytes 1 reason.code ++ beBytes 1 s.sqc.shots)]

/-- A service response with its code, answer and payload, its length and sum as R171 gives them. -/
def responseBytes (code answer : Byte) (payload : List Byte) : List Byte :=
  let head := [0xB5#8] ++ beBytes 2 (payload.length + 3) ++ [code, answer] ++ payload
  head ++ [BitVec.ofNat 8 (256 - byteSum head % 256)]

/-- The SVP after it has taken a request and sends its answer: 0xB5, the length, the code, the answer, the payload and the byte
that brings the sum to 0 (R170, R171). -/
def Svp.answered (v : Svp) (code answer : Byte) (payload : List Byte) : Svp :=
  { v with rx := .hunt, buffer := [], gap := none, service := .answering, response := responseBytes code answer payload }

/-- The TGU after a tag store write has been asked for on a link (R160; log 20). -/
def Tgu.writeAsked (t : Tgu) (link : LinkState) : Tgu :=
  if t.writing = true then { t with writeAgain := true }
  else if link = .free then { t with writing := true, writeAgain := false, writeImage := storeImage t.tags }
  else { t with writing := true, writeAgain := true }

/-- The SVP after a tag store write has been asked for at a station time: a write that begins takes the link, its 20 ms to run from
its last byte, the moment of which is free (R160, R175; log 44). -/
def Svp.writeAsked (v : Svp) (writing : Bool) (now : Word32) : Svp :=
  if writing = false ∧ v.link = .free then { v with link := .write, linkTimer := some (Config.writeSending now + 20) } else v

/-- A local entry has been entered and nothing else has happened: it stands at the tail with the present time, its TAG_ON record
is written, its TAG report built and a tag store write asked for (R152, R153, R160). -/
def Enters (s t : State) (source : TagSource) (code : Word16) (slot : Nat) : Prop :=
  t =
    { s with
      tgu :=
        ({ s.tgu with
            tags := s.tgu.tags ++ [{ source := source, code := code, applied := s.now, slot := some slot }] } : Tgu).writeAsked
          s.svp.link
      svp := s.svp.writeAsked s.tgu.writing s.now
      rcs := s.withRecords [{ kind := .tagOn, tagSource := some source, crewCode := some code }]
      pru := t.pru
      chc := t.chc } ∧
  Reports s t [(.tag, beBytes 2 code.toNat)]

/-- A local entry has been removed and nothing else has happened: its TAG_OFF record is written, its UNTAG report built and a tag
store write asked for, and its place goes to the pair that the overflow record holds, with a TAG_ON record (R152, R154, R157,
R160). -/
def Removes (s t : State) (e : TagEntry) : Prop :=
  ∀ left : Tgu,
    left =
      ({ s.tgu with tags := s.tgu.tags.filter fun x => !(x.source == e.source && x.code == e.code) } : Tgu).writeAsked
        s.svp.link →
    t =
      { s with
        tgu :=
          match s.tgu.overflow with
          | some p =>
            { left with
              overflow := none
              tags := left.tags ++ [{ source := .peer p.peer, code := p.code, applied := s.now, slot := none }] }
          | none => left
        svp := s.svp.writeAsked s.tgu.writing s.now
        rcs := s.withRecords
          ({ kind := .tagOff, tagSource := some e.source, crewCode := some e.code } ::
            (s.tgu.overflow.toList.map fun p : RemotePair =>
              ({ kind := .tagOn, tagSource := some (.peer p.peer), crewCode := some p.code, peerId := some p.peer } :
                RecordBody)))
        pru := t.pru
        chc := t.chc } ∧
    Reports s t [(.untag, beBytes 2 e.code.toNat)]

/-- An event has touched the table of tags, and what follows is the judgement of tag in force (R158): where a tag came into force,
both holds are ended, and when none stood RECLOSE_WAIT, CLOSE_CHARGE and a CLOSING whose pulse has not begun lock out with TAGGED
(R36, R140); else nothing follows. `u` is the state at the end of the event, `t` the state after the judgement. -/
def Begins (s u t : State) : Prop :=
  ((s.tagInForce = true ∨ u.tagInForce = false) → t = u) ∧
  (s.tagInForce = false → u.tagInForce = true →
    t.ocu.phase.hold = none ∧ t.ocu.ground.hold = none ∧ t.tgu = u.tgu ∧
    (s.ocu.phase.hold = none → s.ocu.ground.hold = none →
      if s.sqc.seq = .recloseWait ∨ s.sqc.seq = .closeCharge ∨ (s.sqc.seq = .closing ∧ s.sqc.closeBegun = false)
      then LocksOut u t .tagged [] else t = u))

/-- The entry that a local removal takes out of a table, for a source of the request and the other one: the first of R154's four
that the table holds. -/
def removedEntry (tags : List TagEntry) (own other : TagSource) (code : Word16) : Option TagEntry :=
  [tags.find? fun e => e.source == own && e.code == code, tags.find? fun e => e.source == other && e.code == code,
    tags.find? fun e => e.source == .store, tags.find? fun e => e.source.isLocal && e.slot.isNone].reduceOption.head?

/-! The values that the blocks take at a start, field by field, as their chapters give them. -/

/-- The MFP at a cold start and at a settings restart: stalled is set, and both spans run from the reset or restart (R8). -/
def mfpAtStart : Mfp :=
  { frame := none, lastGood := none, stallTimer := some 12, lostTimer := some 250, stalled := true, lost := false,
    recovery := none, badFrames := 0, framesMissed := 0 }

/-- The OCU at a cold start and at a settings restart: the elements dropped and empty, both hold records empty and both own-order
marks clear (R24, R142). -/
def ocuAtStart : Ocu :=
  let dropped : Element := { m := 0, picked := false, acc := 0, count := 0, run := 0, peak := 0 }
  { elems := { a := dropped, b := dropped, c := dropped, g := dropped }, longestRun := 0, orderRaised := false,
    phase := { hold := none, ownOrder := false, releaseDue := false },
    ground := { hold := none, ownOrder := false, releaseDue := false } }

/-- The SQC set up from the position and the handle: READY with the manual-close window open when the breaker is closed and the
handle up, else LOCKOUT with HANDLE or START (R49), and start hold for 3 × B (R46). -/
def sqcAtStart (st : Settings) (closedUp handleDown : Bool) : Sqc :=
  { seq := if closedUp = true then .ready else .lockout
    shots := 0
    trip := none
    closeKind := .automatic
    closeBegun := false
    reason := if closedUp = true then none else if handleDown = true then some .handle else some .start
    reclose := none
    charge := none
    reset := none
    manualWindow := if closedUp = true then some st.resetTime else none
    startHold := some (3 * (st.beaconInterval * 1000))
    stepped := false
    stepSet := { a := false, b := false, c := false, g := false }
    memory := none
    sourcePresent := false }

/-- The CDU at a cold start with its contacts sampled (R66). -/
def cduAtStart (closedMade openMade : Bool) : Cdu :=
  { tripV := 0, closeV := 0, tripReady := false, closeReady := false, tripSpent := false, closeSpent := false,
    tripOwed := false, closeOwed := false, tcen := false, ccen := false, closeCharge := none, closeBarred := false,
    pulse := .none, pulseTimer := none, tripWindow := none, closeWindow := none, tripRequest := .none, tripWait := none,
    retripWait := none, withdrawn := false, closeRequest := false, closedMade := closedMade, openMade := openMade,
    lastClosed := closedMade && !openMade, indeterminate := if closedMade = openMade then some 500 else none,
    positionFault := false, operations := 0 }

/-- The schedule timer started from its interval D in days, idle for D = 0 (R77). -/
def scheduleAtStart (st : Settings) : Timer := if st.schedule = 0 then none else some (st.schedule * 86400000)

/-- The BTU at a cold start with ACP sampled: BOOST with its 8 h, or OFF with the discharged mark set, and the target setpoint on
its way (R84). -/
def btuAtStart (st : Settings) (acPresent : Bool) : Btu :=
  { battV := 0, battI := 0, temperature := 50, measured := false, acPresent := acPresent, reserve := .normal,
    discharged := !acPresent, lowVoltage := none, shutdownPending := false, disconnect := none,
    charger := if acPresent = true then .boost else .off, resumeBoost := false, vf := 2700, setpointSent := 0,
    sending := some (if acPresent = true then 2820 else 2700), taper := none,
    boostLimit := if acPresent = true then some 28800000 else none, test := .idle,
    sources := { panel := false, service := false, schedule := false }, settle := none, load := none, v0 := none, v1 := none,
    i1 := none, lastResult := none, lastResistance := none, failed := false, schedule := scheduleAtStart st,
    scheduleDue := false, testMoment := false }

/-- One advance of the LFSR: the lowest bit leaves, and where it was 1 the register is XORed with 0xB400 (R89). -/
def nextLfsr (r : Word16) : Word16 := if r.getLsbD 0 = true then (r >>> 1) ^^^ 0xB400#16 else r >>> 1

/-- The LFSR as it is seeded from the station id and the feeder code (R89). -/
def seededLfsr (st : Settings) : Word16 :=
  if BitVec.ofNat 16 (st.stationId * 256 + st.feeder) ^^^ 0xACE1#16 = 0 then 1
  else BitVec.ofNat 16 (st.stationId * 256 + st.feeder) ^^^ 0xACE1#16

/-- The CHC at a cold start and at a settings restart, the LFSR as given and the radio's two lines as they are (R110). -/
def chcAtStart (lfsr : Word16) (carr rrdy : Bool) : Chc :=
  { front := [], status := [], tx := .idle, quiet := 0, backoff := none, slot := none, readyTimer := none, readyLatch := false,
    jabber := none, keyDown := none, airFrame := [], aborting := false, rx := .hunt, escape := false, latch := false,
    body := [], queue := [], lfsr := lfsr, reportsLost := 0, framesSent := 0, attemptsFailed := 0, framesAccepted := 0,
    checkFailures := 0, receiveAborts := 0, receiveOverruns := 0, carr := carr, rrdy := rrdy }

/-- The PRU at the end of a start, its sequence drawn as given and the beacon timer as given: 16 free places, the counters at 0,
and the take stall-paced from then on (R113, R131). -/
def pruAtStart (drawn : Word16) (beacon : Option BeaconTimer) : Pru :=
  { nextSeq := drawn.setWidth 8, lastEvent := drawn.setWidth 8 - 1, beacon := beacon, pace := some 4,
    peers := List.replicate 16 none, reportsRefused := 0, duplicates := 0, framesUnentered := 0 }

/-- The beacon timer that a beacon delay draw sets at a moment: a first span of floor(v × I / 65536) for the interval I in force,
and idle in CRITICAL, in DISCONNECT and with shutdown pending (R119). -/
def delayDrawn (st : Settings) (state : Reserve) (shutdownPending : Bool) (now : Word32) (drawn : Word16) :
    Option BeaconTimer :=
  let timer (interval : Nat) : BeaconTimer := { reference := now, span := drawn.toNat * interval / 65536, drawn := true }
  if shutdownPending = true then none
  else
    match state with
    | .normal => some (timer (st.beaconInterval * 1000))
    | .reserve => some (timer (4 * (st.beaconInterval * 1000)))
    | .critical => none
    | .disconnect => none

/-- The interval in force in NORMAL and in RESERVE (R119). -/
def intervalIn (st : Settings) (state : Reserve) : Nat :=
  if state = .reserve then 4 * (st.beaconInterval * 1000) else st.beaconInterval * 1000

/-- Whether a change between NORMAL and RESERVE finds the beacon timer's span, an interval that becomes the new one, already
passed, so that the timer expires at once and a BEACON is built (R120). -/
def beaconPasses (st : Settings) (old new : Reserve) (shutdownPending : Bool) (now : Word32) (timer : Option BeaconTimer) : Bool :=
  !shutdownPending && (old == .normal || old == .reserve) && (new == .normal || new == .reserve) &&
    timer.any fun b => !b.drawn && decide (intervalIn st new ≤ elapsed now b.reference)

/-- The beacon timer after a change of the reserve state (R119, R120): idle in CRITICAL and with shutdown pending; out of CRITICAL
a new draw; else a drawn delay is as it was, and an interval becomes the new one, from the same reference or, where it has
passed, from now. -/
def beaconFollowed (st : Settings) (old new : Reserve) (shutdownPending : Bool) (now : Word32) (drawn : Word16)
    (timer : Option BeaconTimer) : Option BeaconTimer :=
  if shutdownPending = true ∨ new = .critical then none
  else if old = .critical then delayDrawn st new false now drawn
  else
    timer.map fun b =>
      if b.drawn = true then b
      else
        { reference := if beaconPasses st old new shutdownPending now timer = true then now else b.reference
          span := intervalIn st new
          drawn := false }

/-- Why a change of the reserve state locks out: in CRITICAL alone, CLOSE_CHARGE with BATTERY and an operator close that waits for
energy with CLOSE_ENERGY (R34, R41, R73). -/
def reserveLocks (q : Sqc) (new : Reserve) : Option LockReason :=
  if new = .critical ∧ q.seq = .closeCharge then some .battery
  else if new = .critical ∧ q.seq = .closing ∧ q.closeBegun = false then some .closeEnergy
  else none

/-- Runs of the WAND line that bring no event: each command of the wand holds them (log 37). -/
def WandHolds (s : State) (runs : List WandRun) (t : State) : Prop :=
  exec (.wandMark runs) s = .next t ∧ exec (.wandAbort runs) s = .next t ∧ exec (.crewCodeComplete runs) s = .next t

/-- Runs of the WAND line that move the decoder on: WAND_MARK's, and of no other command of the wand (log 37). -/
def WandMoves (s : State) (runs : List WandRun) (t : State) : Prop :=
  exec (.wandMark runs) s = .next t ∧ exec (.wandAbort runs) s = .next s ∧ exec (.crewCodeComplete runs) s = .next s

/-- Runs of the WAND line that abort the decode: WAND_ABORT's (log 37). -/
def WandAborts (s : State) (runs : List WandRun) (t : State) : Prop :=
  exec (.wandMark runs) s = .next s ∧ exec (.wandAbort runs) s = .next t ∧ exec (.crewCodeComplete runs) s = .next s

/-- Runs of the WAND line that complete a code: CREW_CODE_COMPLETE's (log 37). -/
def WandCompletes (s : State) (runs : List WandRun) (t : State) : Prop :=
  exec (.wandMark runs) s = .next s ∧ exec (.wandAbort runs) s = .next s ∧ exec (.crewCodeComplete runs) s = .next t

/-- The payload of a request frame (R172). -/
def Request.payload : Request → List Byte
  | .readStatus .items => [0#8]
  | .readStatus .settings => [1#8]
  | .readRecordsFrom n => beBytes 4 n.toNat
  | .tagApply code => beBytes 2 code.toNat
  | .tagRemove code => beBytes 2 code.toNat
  | _ => []

/-- The command that a request is (R172; log 12). -/
def Request.command : Request → Instr
  | .readStatus part => .readStatus part
  | .readRecordsFrom n => .readRecordsFrom n
  | .readPeerTable => .readPeerTable
  | .readTagTable => .readTagTable
  | .operatorTrip => .operatorTrip
  | .operatorClose => .operatorClose
  | .tagApply code => .tagApply code
  | .tagRemove code => .tagRemove code
  | .batteryTest => .batteryTest
  | .settingsRestart => .settingsRestart

/-- The bytes of a request frame (R170): start byte, length, code, payload and sum. -/
def Request.frame (r : Request) : List Byte :=
  let head := [0x5A#8] ++ beBytes 1 (r.payload.length + 2) ++ [r.code] ++ r.payload
  head ++ [BitVec.ofNat 8 (256 - byteSum head % 256)]

/-- Settings whose fields fit the places that the image of R176 has for them. -/
structure Settings.Fits (st : Settings) : Prop where
  bytes : st.version < 256 ∧ st.feeder < 256 ∧ st.stationId < 256 ∧ st.position < 256 ∧ st.resetMode < 256 ∧
    st.tripsToLockout < 256 ∧ st.tagCurve < 256 ∧ st.tripWidth < 256 ∧ st.closeWidth < 256 ∧ st.wandTolerance < 256 ∧
    st.schedule < 256 ∧ st.attention < 256
  words : st.pickupPh < 65536 ∧ st.pickupGd < 65536 ∧ st.instPh < 65536 ∧ st.instGd < 65536 ∧ st.tagDial < 65536 ∧
    st.tagInst < 65536 ∧ st.holdTime < 65536 ∧ st.beaconInterval < 65536 ∧ st.resistanceLimit < 65536
  triples : st.decay < 16777216 ∧ st.resetTime < 16777216 ∧ ∀ v ∈ st.intervals, v < 16777216
  counts : st.plan.length = 4 ∧ st.intervals.length = 3 ∧ st.filter.length = 8 ∧ st.crewCodes.length = 8 ∧
    st.curves.length = 4
  entries : ∀ p ∈ st.plan, p.phaseCurve < 256 ∧ p.phaseDial < 65536 ∧ p.groundCurve < 256 ∧ p.groundDial < 65536 ∧
    p.instantaneous < 256
  tables : ∀ c ∈ st.curves, c.length = 12 ∧ ∀ k ∈ c, k.m < 65536 ∧ k.r < 16777216

/-- Commands run one after another, each to its next state; none where one does not answer a next state. -/
def State.runAll (s : State) : List Instr → Option State
  | [] => some s
  | c :: rest =>
    match exec c s with
    | .next t => t.runAll rest
    | _ => none

end Sys2Proof.Machine
end

