-- ==== Sys2Proof/Certificates/Slice0/Obligations.lean ====
section
/-! DEFINITION. The statements about the Wedlan 4C12 model. Each says what a rule of the manual says a command or the machine
does; the words they use stand at the end of Sys2Proof/Safety.lean. -/

open Sys2Proof Sys2Proof.Machine

/-! ### The machine -/

/-- A step takes the command at the front of the queue and runs it with the queue's rest. -/
def Obligations.StepRunsTheFrontCommand : Prop :=
  ∀ (c : Instr) (s : State), step { s with pending := c :: s.pending } = exec c s

/-- On an empty queue: nothing before COLD_START; then what has come due in the part joins the queue, an input that has held its level
for its span among it (R62, R67, R149, R151); and with nothing due one millisecond of station time passes (the model's choice,
log 3). Before COLD_START has run, every other command changes nothing (the model's choice, log 2). -/
def Obligations.EmptyQueueAndColdStartGate : Prop :=
  (∀ s : State, s.pending = [] →
     (s.started = false → step s = .next s) ∧
     (s.started = true → s.dueCommands ≠ [] → step s = .next { s with pending := s.dueCommands }) ∧
     (s.started = true → s.dueCommands = [] →
       ∃ t, step s = .next t ∧ t.now = s.now + 1 ∧ t.pending = [] ∧ t.rcs = s.rcs ∧ t.ocu = s.ocu ∧
         t.tgu.tags = s.tgu.tags ∧ t.cfg = s.cfg ∧ t.sqc.seq = s.sqc.seq ∧
         t.sqc.reclose = s.sqc.reclose.map (fun n => n - 1) ∧ t.cdu.pulseTimer = s.cdu.pulseTimer.map (fun n => n - 1) ∧
         t.btu.disconnect = s.btu.disconnect.map (fun n => n - 1) ∧ t.svp.gap = s.svp.gap.map (fun n => n - 1) ∧
         t.svp.linkTimer = s.svp.linkTimer.map (fun n => n - 1) ∧ t.mfp.stallTimer = s.mfp.stallTimer.map (fun n => n - 1) ∧
         t.pru.pace = s.pru.pace.map (fun n => n - 1) ∧
         t.tgu.errorTone = s.tgu.errorTone.map (fun n => n - 1) ∧
         ∀ pin, t.inputs.line pin =
           { level := (s.inputs.line pin).level, count := (s.inputs.line pin).count.map (fun n => n - 1) })) ∧
  (∀ (s : State) (pin : InputPin) (level : Bool), s.Held pin level → s.debounced pin ≠ level →
     ∃ c ∈ s.dueCommands, c = pin.command level false .held ∨ c = .contactChange .bothContacts level false .held) ∧
  (∀ (c : Instr) (s : State), s.started = false → (∀ a b i k o, c ≠ .coldStart a b i k o) → exec c s = .next s)

/-- Every command answers a next state in every state, leaves the queue as it is, and leaves station time as it is but for
COLD_START, which sets it to 0 (no command of the manual stops the part: log 28; a command takes no time: logs 3 and 10). -/
def Obligations.CommandsCompleteAndKeepTheQueue : Prop :=
  ∀ (c : Instr) (s : State), ∃ t, exec c s = .next t ∧ t.pending = s.pending ∧
    ((∃ a b i k o, c = .coldStart a b i k o ∧ t.now = 0) ∨ ((∀ a b i k o, c ≠ .coldStart a b i k o) ∧ t.now = s.now))

/-! ### What no step leaves -/

/-- R90: no step leaves a sound transmit queue. R163 and R166: no step leaves a sound event ring. -/
def Obligations.StepKeepsTheQueueAndTheRingSound : Prop :=
  (∀ s t : State, s.QueueSound → step s = .next t → t.QueueSound) ∧
  (∀ s t : State, s.RingSound → step s = .next t → t.RingSound)

/-- 1.3, R1, R3, R4, R93, R108, R109, R123 to R125, R175: no step takes an element, a frame in progress, a counter or the receive
queue out of its range, or the 20 ms of the memory link out of step with the write or the waiting read that it carries.
R62, R67, R149, R151: no step takes the count of a debounced input out of step with its level, or past its span.
R177, R178 and R89: the settings in force pass the judgement of R177 in every state a step reaches, and the LFSR is not 0. -/
def Obligations.StepKeepsTheRangesAndTheSettingsSound : Prop :=
  (∀ s t : State, s.RangesSound → step s = .next t → t.RangesSound) ∧
  (∀ s t : State, s.InputsSound → step s = .next t → t.InputsSound) ∧
  (∀ s t : State, s.SettingsSound → step s = .next t → t.SettingsSound)

/-- 2.1, R25, R27, R32, R34, R37, R48: no step leaves a sound sequence, among settings that are themselves sound. -/
def Obligations.StepKeepsTheSequenceSound : Prop :=
  ∀ s t : State, s.SequenceSound → step s = .next t → t.SequenceSound

/-- R50 to R52: no step leaves a charge enable on that is not permitted, or an attempt out of step with its conditions. -/
def Obligations.StepKeepsTheChargeSound : Prop :=
  ∀ s t : State, s.ChargeSound → step s = .next t → t.ChargeSound

/-- R152, R157, R137 and R140: no step leaves a sound tag table, and no hold stands while a tag is in force. R124 and R107: no
step leaves a sound peer table. -/
def Obligations.StepKeepsTheTagsAndThePeersSound : Prop :=
  (∀ s t : State, s.TagsSound → step s = .next t → t.TagsSound) ∧
  (∀ s t : State, s.PeersSound → step s = .next t → t.PeersSound)

/-- The state that the model starts in, the part held in power-on reset before COLD_START, is sound in every group. What State.reset
holds is the model's choice (log 1; the values that no rule gives: log 17): the manual gives no state of any block before the
cold start order sets it. The rules that the groups follow are those of the five statements before this one, of RunningTestIsAbandoned and of
WandTable. -/
def Obligations.ResetIsSound : Prop :=
  State.reset.QueueSound ∧ State.reset.RingSound ∧ State.reset.RangesSound ∧ State.reset.SequenceSound ∧
    State.reset.ChargeSound ∧ State.reset.TagsSound ∧ State.reset.PeersSound ∧ State.reset.SettingsSound ∧ State.reset.TestSound ∧
    State.reset.WandSound ∧ State.reset.InputsSound

/-- R33, R44, R60: a command that begins a close pulse finds the handle up and leaves it up, finds or leaves no tag in force,
spends the close capacitor, and starts its close window, also in place of one that ran (log 46); and an automatic close begins
only with measurement lost clear, start hold off and the reserve state NORMAL or RESERVE. R65 and R62: apart from a start, the
operations count rises by 1, wrapping, exactly when the last definite position goes from Closed to Open, and the settings in
force stay as they are (R180). -/
def Obligations.ClosePulseAndOperationsLaws : Prop :=
  (∀ (c : Instr) (s t : State), exec c s = .next t → s.cdu.pulse ≠ .close → t.cdu.pulse = .close →
     s.tgu.handleDown = false ∧ t.tgu.handleDown = false ∧ (s.tagInForce = false ∨ t.tagInForce = false) ∧
     t.sqc.closeBegun = true ∧ t.sqc.seq = .closing ∧ t.cdu.closeSpent = true ∧ t.cdu.closeReady = false ∧
     t.cdu.closeWindow = some 200 ∧ t.cdu.pulseTimer = some t.cfg.closeWidth ∧
     (t.sqc.closeKind = .automatic →
       t.mfp.lost = false ∧ t.sqc.startHold = none ∧ (s.reserveHolds = true ∨ t.reserveHolds = true))) ∧
  (∀ (c : Instr) (s t : State), exec c s = .next t → (∀ a b i k o, c ≠ .coldStart a b i k o) →
     (∀ a b d, c ≠ .settingsRestartApply a b d) →
     t.cdu.operations = s.cdu.operations + (if s.cdu.lastClosed = true ∧ t.cdu.lastClosed = false then 1 else 0) ∧
       t.cfg = s.cfg)

/-! ### Encoding -/

/-- R86 to R88, R103, R105, R107, R108: the radio frame that a station builds for an entry, heard byte by byte by another
station of its feeder, becomes the record of that entry. -/
def Obligations.RadioFrameRoundTrip : Prop :=
  ∀ (s : State) (st : Settings) (e : TxEntry), s.started = true → s.chc.rx = .hunt → s.deaf = false →
    s.chc.queue.length < 6 → st.feeder = s.cfg.feeder → st.stationId ≠ s.cfg.stationId → st.feeder < 256 →
    st.stationId < 256 → st.position < 256 → e.payload.length ≤ 40 →
    ∃ t, s.runAll ((airBytes (st.radioBody e)).map fun b => Instr.radioByte (.byte b)) = some t ∧
      t.chc.queue = s.chc.queue ++
        [{ sender := st.stationId, position := st.position, kind := BitVec.ofNat 8 e.kind.code, seq := e.seq,
           payload := e.payload, arrival := s.now }] ∧
      t.chc.rx = .hunt ∧ t.chc.body = [] ∧ t.chc.framesAccepted = min 65535 (s.chc.framesAccepted + 1) ∧
      t.chc.checkFailures = s.chc.checkFailures ∧ t.chc.receiveAborts = s.chc.receiveAborts ∧
      t.chc.receiveOverruns = s.chc.receiveOverruns ∧ t.rcs = s.rcs ∧ t.pru = s.pru

/-- R176 and R177: settings that fit the image are read back from it field by field; the image has 356 bytes; and when they
are in range they are accepted. -/
def Obligations.SettingsImageRoundTrip : Prop :=
  ∀ st : Settings, st.Fits →
    (encodeImage st).length = 356 ∧ decodeImage (encodeImage st) = st ∧
    (st.version = 2 → rangesOk st = true → st.curves.all curveOk = true →
      judgeImage (.complete (encodeImage st)) = .ok st) ∧
    (st.version = 2 → rangesOk st = false → judgeImage (.complete (encodeImage st)) = .error .range)

/-- R178: a cold start whose settings read is refused comes up with the built-in defaults, value by value. -/
def Obligations.DefaultsComeIntoForce : Prop :=
  ∀ (s : State) (settings store : MemRead) (i : InputLevels) (between : List LinkBit) (order : List Delivery)
    (fault : SettingsFault), judgeImage settings = .error fault →
    ∃ t, exec (.coldStart settings store i between order) s = .next t ∧ t.svp.fromImage = false ∧
      t.cfg =
        { version := 2
          feeder := 1
          stationId := 0
          position := 1
          pickupPh := 400
          pickupGd := 200
          instPh := 2048
          instGd := 2048
          resetMode := 0
          decay := 65536
          tripsToLockout := 1
          plan := List.replicate 4 { phaseCurve := 0, phaseDial := 10, groundCurve := 0, groundDial := 10, instantaneous := 1 }
          intervals := [2000, 2000, 2000]
          resetTime := 30000
          tagCurve := 0
          tagDial := 10
          tagInst := 2048
          tripWidth := 30
          closeWidth := 60
          holdTime := 50
          options := 0#8
          filter := List.replicate 8 { idValue := 0#8, idMask := 0#8, kindSet := 0#8 }
          crewCodes := List.replicate 8 0#16
          wandTolerance := 20
          beaconInterval := 60
          resistanceLimit := 150
          schedule := 0
          attention := 1
          curves :=
            List.replicate 4
              [⟨256, 60⟩, ⟨384, 210⟩, ⟨512, 520⟩, ⟨640, 900⟩, ⟨768, 1500⟩, ⟨1024, 3100⟩, ⟨1536, 5200⟩, ⟨2048, 7400⟩,
                ⟨3072, 11000⟩, ⟨4096, 14200⟩, ⟨6144, 19000⟩, ⟨10240, 24000⟩] }

/-- R144 to R148: a WAND line whose confirmed marks and spaces spell a known code and its complement, every width in range, opens the
crew window with that code and its lowest slot. Each space between bits holds a glitch, which counts to its width and brings nothing.
The runs of the line come parted among WAND_MARK commands in any way, and the silence after them with CREW_CODE_COMPLETE (log 37;
the tone's phase: log 38). -/
def Obligations.WandCodeOpensTheWindow : Prop :=
  ∀ (s : State) (code : Word16) (slot stood first header gap trailer rest silence : Nat)
    (mark before glitch after space : Nat → Nat),
    s.started = true → s.tgu.decoder = .wait → s.tgu.line = .space stood → s.cfg.crewSlot code = some slot →
    400 ≤ header + s.cfg.wandTolerance → header ≤ 400 + s.cfg.wandTolerance → 10 ≤ header →
    200 ≤ gap + s.cfg.wandTolerance → gap ≤ 200 + s.cfg.wandTolerance →
    50 ≤ trailer + s.cfg.wandTolerance → trailer ≤ 50 + s.cfg.wandTolerance → 10 ≤ trailer →
    rest < 1000 → 1000 ≤ rest + silence →
    (∀ i, i < 32 → 10 ≤ mark i ∧ 50 ≤ mark i + s.cfg.wandTolerance ∧ mark i ≤ 50 + s.cfg.wandTolerance) →
    (∀ i, i < 32 → glitch i < 10 ∧ space i = before i + glitch i + after i) →
    (∀ i, i < 32 →
      if (if i < 16 then code.getLsbD i else !code.getLsbD (i - 16)) = true then
        150 ≤ space i + s.cfg.wandTolerance ∧ space i ≤ 150 + s.cfg.wandTolerance ∧
          ¬ (50 ≤ space i + s.cfg.wandTolerance ∧ space i ≤ 50 + s.cfg.wandTolerance)
      else 50 ≤ space i + s.cfg.wandTolerance ∧ space i ≤ 50 + s.cfg.wandTolerance) →
    ∀ parts : List (List WandRun),
      parts.flatten =
        [⟨false, first⟩, ⟨true, header⟩, ⟨false, gap⟩] ++
          ((List.range 32).flatMap fun i =>
            [⟨true, mark i⟩, ⟨false, before i⟩, ⟨true, glitch i⟩, ⟨false, after i⟩]) ++
          [⟨true, trailer⟩, ⟨false, rest⟩] →
      ∃ t, s.runAll (parts.map Instr.wandMark ++ [.crewCodeComplete [⟨false, silence⟩]]) = some t ∧
        t =
          { s with
            tgu :=
              { s.tgu with
                decoder := .wait
                line := .space (rest + silence)
                bits := t.tgu.bits
                window := some { code := code, slot := slot, left := 10000 }
                toneOn := true
                tonePhase := some 250 } } ∧
        t.tgu.bits = (List.range 32).map fun i => if i < 16 then code.getLsbD i else !code.getLsbD (i - 16)

/-- R170 to R172: the bytes of a request frame, received one after another in LISTEN, do what the request's command does (a
request row stands for its complete frame: log 12). -/
def Obligations.RequestFrameIsTheRequest : Prop :=
  ∀ (s : State) (r : Request), s.started = true → s.svp.service = .listen → s.svp.rx = .hunt →
    ∃ t, exec r.command s = .next t ∧ s.runAll (r.frame.map fun b => Instr.serviceByte (.byte b)) = some t

/-! ### Measurement and the elements -/

/-- R1: bits that bring no event are held in the frame in progress, or discarded where there is none; a frame start begins a new
frame, and one that finds a frame in progress makes it a short frame. R1 to R3: a short frame, and a frame that is not good,
is counted and changes nothing else. R4, R5, R7, R8, R89, R122: a good frame, whatever the order of its deliveries, becomes
the last good frame, restarts both spans, clears stalled, counts the frames missed, starts the recovery timer while
measurement lost is set, returns the take to frame-paced, takes one record, and advances the LFSR once, which no draw of the
same event moves further while no backoff count is held and the reserve state is not CRITICAL; and its fields reach the CDU,
the BTU and the SQC. -/
def Obligations.MeasurementFramesAreJudged : Prop :=
  (∀ (s : State) (bits : List LinkBit) (start : LinkBit) (order : List Delivery), s.started = true → Startless bits →
     start.start = true →
     (s.mfp.frame = none →
       exec (.measurementFrame bits order) s = .next s ∧ exec (.shortFrame bits) s = .next s ∧
       exec (.measurementFrame (bits ++ [start]) order) s = .next { s with mfp := { s.mfp with frame := some [start.bit] } }) ∧
     ∀ held : List Bool, s.mfp.frame = some held → held.length + bits.length < 192 →
       exec (.measurementFrame bits order) s =
         .next { s with mfp := { s.mfp with frame := some (held ++ bits.map (·.bit)) } } ∧
       exec (.shortFrame (bits ++ [start])) s =
         .next
           { s with mfp := { s.mfp with frame := some [start.bit], badFrames := min 65535 (s.mfp.badFrames + 1) } }) ∧
  (∀ (s : State) (bits : List LinkBit) (bytes : List Byte) (order : List Delivery), s.started = true →
     Brings s.mfp.frame bits bytes → ¬ FrameIsGood bytes →
     exec (.measurementFrame bits order) s =
       .next { s with mfp := { s.mfp with frame := none, badFrames := min 65535 (s.mfp.badFrames + 1) } }) ∧
  (∀ (s : State) (bits : List LinkBit) (bytes : List Byte) (order : List Delivery), s.started = true →
     Brings s.mfp.frame bits bytes → FrameIsGood bytes →
     ∃ t, exec (.measurementFrame bits order) s = .next t ∧
       t.mfp =
         { frame := none
           lastGood := some (measFields bytes)
           stallTimer := some 12
           lostTimer := some 250
           stalled := false
           lost := s.mfp.lost
           recovery := if s.mfp.lost = true ∧ s.mfp.recovery = none then some 1000 else s.mfp.recovery
           badFrames := s.mfp.badFrames
           framesMissed :=
             match s.mfp.lastGood with
             | some g => min 65535 (s.mfp.framesMissed + (bytes.getD 2 0 - g.count - 1#8).toNat)
             | none => s.mfp.framesMissed } ∧
       (s.chc.backoff = none → s.btu.reserve ≠ .critical →
         t.chc.lfsr = (if s.chc.lfsr.getLsbD 0 = true then (s.chc.lfsr >>> 1) ^^^ 0xB400#16 else s.chc.lfsr >>> 1)) ∧
       t.cdu.tripV = (bytes.getD 19 0).toNat * 256 + (bytes.getD 20 0).toNat ∧
       t.cdu.closeV = (bytes.getD 21 0).toNat * 256 + (bytes.getD 22 0).toNat ∧
       t.btu.battV = (bytes.getD 13 0).toNat * 256 + (bytes.getD 14 0).toNat ∧
       t.btu.battI = (bytes.getD 15 0 ++ bytes.getD 16 0).toInt ∧
       t.btu.temperature = (bytes.getD 17 0 ++ bytes.getD 18 0).toInt ∧
       t.sqc.sourcePresent = decide (bytes.getD 11 0 = 1#8) ∧
       t.pru.pace = none ∧ t.chc.queue = s.chc.queue.tail ∧ t.now = s.now ∧ t.cfg = s.cfg ∧
       t.tgu.keys = s.tgu.keys ∧ t.tgu.handleDown = s.tgu.handleDown ∧ t.inputs = s.inputs)

/-- R10: after a good frame the multiple of each element is floor(I × 256 / P), clamped to 10240. -/
def Obligations.MultipleOfPickup : Prop :=
  ∀ (s : State) (bits : List LinkBit) (bytes : List Byte) (order : List Delivery), s.started = true →
    Brings s.mfp.frame bits bytes → FrameIsGood bytes →
    ∃ t, exec (.measurementFrame bits order) s = .next t ∧
      t.ocu.elems.a.m = min 10240 (((bytes.getD 3 0).toNat * 256 + (bytes.getD 4 0).toNat) * 256 / s.cfg.pickupPh) ∧
      t.ocu.elems.b.m = min 10240 (((bytes.getD 5 0).toNat * 256 + (bytes.getD 6 0).toNat) * 256 / s.cfg.pickupPh) ∧
      t.ocu.elems.c.m = min 10240 (((bytes.getD 7 0).toNat * 256 + (bytes.getD 8 0).toNat) * 256 / s.cfg.pickupPh) ∧
      t.ocu.elems.g.m = min 10240 (((bytes.getD 9 0).toNat * 256 + (bytes.getD 10 0).toNat) * 256 / s.cfg.pickupGd)

/-- R13: the conditions on a loaded table, and the rate between, at and beyond its breakpoints. R14: the increment of a rate
and a dial, and the number of steps from 0 to F that the rows of its table give. -/
def Obligations.RateAndIncrement : Prop :=
  (∀ c : List Breakpoint, c.length = 12 →
     (curveOk c = true ↔
       (c.getD 0 ⟨0, 0⟩).m = 256 ∧ (c.getD 11 ⟨0, 0⟩).m ≤ 10240 ∧
       (∀ k, k < 11 → (c.getD k ⟨0, 0⟩).m < (c.getD (k + 1) ⟨0, 0⟩).m ∧ (c.getD k ⟨0, 0⟩).r ≤ (c.getD (k + 1) ⟨0, 0⟩).r) ∧
       (∀ k, k < 12 → 1 ≤ (c.getD k ⟨0, 0⟩).r ∧ (c.getD k ⟨0, 0⟩).r ≤ 1048576)) ∧
     (curveOk c = true →
       (∀ m, (c.getD 11 ⟨0, 0⟩).m ≤ m → curveRate c m = (c.getD 11 ⟨0, 0⟩).r) ∧
       (∀ k m, k < 11 → (c.getD k ⟨0, 0⟩).m ≤ m → m < (c.getD (k + 1) ⟨0, 0⟩).m →
         curveRate c m = (c.getD k ⟨0, 0⟩).r +
           ((c.getD (k + 1) ⟨0, 0⟩).r - (c.getD k ⟨0, 0⟩).r) * (m - (c.getD k ⟨0, 0⟩).m) /
             ((c.getD (k + 1) ⟨0, 0⟩).m - (c.getD k ⟨0, 0⟩).m)) ∧
       (∀ k, k < 12 → curveRate c (c.getD k ⟨0, 0⟩).m = (c.getD k ⟨0, 0⟩).r))) ∧
  ((∀ r d : Nat, 1 ≤ r → r ≤ 1048576 → 5 ≤ d → d ≤ 1000 →
     1 ≤ increment r d ∧ increment r d ≤ 1048576 ∧ r * 100 ≤ 104857600 ∧
     (r * 100 / d = 0 → increment r d = 1) ∧
     (1048576 < r * 100 / d → increment r d = 1048576) ∧
     (r * 100 / d ≠ 0 → r * 100 / d ≤ 1048576 → increment r d = r * 100 / d)) ∧
   (∀ row ∈ [(1, 1000, 1, 1048576), (9, 1000, 1, 1048576), (10, 1000, 1, 1048576), (4150, 100, 4150, 253),
       (4150, 50, 8300, 127), (1048576, 100, 1048576, 1), (1048576, 5, 1048576, 1)],
     increment row.1 row.2.1 = row.2.2.1 ∧ 1048576 ≤ row.2.2.2 * row.2.2.1 ∧ (row.2.2.2 - 1) * row.2.2.1 < 1048576))

/-- R9, R11, R15, R18: one element through the frame step of a good frame, row by row, with the settings in force: the tag
profile, or plan entry min(s + 1, N). No record waits, so that no peer's tag comes into force in the same event. -/
def Obligations.ElementStep : Prop :=
  ∀ (s : State) (bits : List LinkBit) (bytes : List Byte) (order : List Delivery), s.started = true →
    Brings s.mfp.frame bits bytes → FrameIsGood bytes → s.chc.queue = [] →
    ∃ t, exec (.measurementFrame bits order) s = .next t ∧
      ∀ row ∈ [(s.ocu.elems.a, t.ocu.elems.a, (measFields bytes).ia, true),
          (s.ocu.elems.b, t.ocu.elems.b, (measFields bytes).ib, true),
          (s.ocu.elems.c, t.ocu.elems.c, (measFields bytes).ic, true),
          (s.ocu.elems.g, t.ocu.elems.g, (measFields bytes).ig, false)],
        ∀ e e' : Element, e = row.1 → e' = row.2.1 →
        ∀ (current : Nat) (phase : Bool), current = row.2.2.1 → phase = row.2.2.2 →
        ∀ entry : PlanEntry, entry = s.cfg.planEntry (min (s.sqc.shots + 1) s.cfg.tripsToLockout) →
        ∀ table dial q : Nat,
          table = (if s.tagInForce = true then s.cfg.tagCurve else if phase then entry.phaseCurve else entry.groundCurve) →
          dial = (if s.tagInForce = true then s.cfg.tagDial else if phase then entry.phaseDial else entry.groundDial) →
          q = (if s.tagInForce = true then s.cfg.tagInst
            else if entry.instantaneous = 1 then (if phase then s.cfg.instPh else s.cfg.instGd) else 0) →
          (256 ≤ e'.m →
            e'.picked = true ∧ e'.acc = min 1048576 (e.acc + increment (curveRate (s.cfg.curve table) e'.m) dial)) ∧
          (243 ≤ e'.m → e'.m < 256 → e.picked = true → e'.picked = true ∧ e'.acc = e.acc) ∧
          ((e'.m < 243 ∨ (e'.m < 256 ∧ e.picked = false)) →
            e'.picked = false ∧ e'.acc = (if s.cfg.resetMode = 1 then e.acc - s.cfg.decay else 0)) ∧
          e'.run = (if e'.picked = true then min 65535 (e.run + 1) else 0) ∧
          e'.peak =
            (if e'.picked = true then (if e.picked = true then max e.peak current else current) else e.peak) ∧
          e'.count = (if q ≠ 0 ∧ q ≤ e'.m then min 2 (e.count + 1) else 0)

/-- R16, R18, R19, R20, R26 to R28, R32, R132: the order of a frame step, read from the elements before and after it: which
elements it names, its cause and peak. With no arrival at F of an unheld element and no instantaneous count going from 1 to 2
there is no order, and the current trip stands. In READY, RESET_TIMING and a CLOSING whose pulse has begun it is taken: s one
up, to at most N, and the trip with its finality. In LOCKOUT with the breaker Closed it is a lockout trip: s unchanged, the
trip number s, the held reason its final reason. In every other state it is not taken. R27, R50, R54, R55, R61, R115, R164:
what follows an order that is taken: a close pulse is pre-empted with its record, the trip pulse begins from a ready
capacitor, or at this same frame's voltages, or the request waits 2 s for it, and one TRIP report and one TRIP record are made
(before them the TRIP_FREE record: log 6), with no test running, AC present and NORMAL, and no first pickup. No record waits,
the OCU is stepped before the other blocks take their fields, and no put-off release test stands. -/
def Obligations.OrdersOfAFrameStep : Prop :=
  ∀ (s : State) (bits : List LinkBit) (bytes : List Byte) (order : List Delivery), s.started = true →
    Brings s.mfp.frame bits bytes → FrameIsGood bytes → s.chc.queue = [] →
    s.ocu.phase.releaseDue = false → s.ocu.ground.releaseDue = false →
    ∃ t, exec (.measurementFrame bits (.ocu :: order)) s = .next t ∧
      ∀ full timed inst named : ElementSet,
        full =
          { a := decide (t.ocu.elems.a.acc = 1048576 ∧ s.ocu.phase.hold = none)
            b := decide (t.ocu.elems.b.acc = 1048576 ∧ s.ocu.phase.hold = none)
            c := decide (t.ocu.elems.c.acc = 1048576 ∧ s.ocu.phase.hold = none)
            g := decide (t.ocu.elems.g.acc = 1048576 ∧ s.ocu.ground.hold = none) } →
        timed =
          (if (full.a = true ∧ s.ocu.elems.a.acc < 1048576) ∨ (full.b = true ∧ s.ocu.elems.b.acc < 1048576) ∨
              (full.c = true ∧ s.ocu.elems.c.acc < 1048576) ∨ (full.g = true ∧ s.ocu.elems.g.acc < 1048576)
            then full else { a := false, b := false, c := false, g := false }) →
        inst =
          { a := decide (s.ocu.elems.a.count = 1 ∧ t.ocu.elems.a.count = 2)
            b := decide (s.ocu.elems.b.count = 1 ∧ t.ocu.elems.b.count = 2)
            c := decide (s.ocu.elems.c.count = 1 ∧ t.ocu.elems.c.count = 2)
            g := decide (s.ocu.elems.g.count = 1 ∧ t.ocu.elems.g.count = 2) } →
        named = { a := timed.a || inst.a, b := timed.b || inst.b, c := timed.c || inst.c, g := timed.g || inst.g } →
        ∀ (taken lockoutTrip : Bool) (trip : CurrentTrip),
          taken =
            (decide (s.sqc.seq = .ready) || decide (s.sqc.seq = .resetTiming) ||
              (decide (s.sqc.seq = .closing) && s.sqc.closeBegun)) →
          lockoutTrip = (decide (s.sqc.seq = .lockout) && s.cdu.closedMade && !s.cdu.openMade) →
          trip =
            { cause :=
                if s.tagInForce = true then .tagProfile
                else if inst = { a := false, b := false, c := false, g := false } then .time else .inst
              elements := named
              peak :=
                max (max (if named.a = true then t.ocu.elems.a.peak else 0) (if named.b = true then t.ocu.elems.b.peak else 0))
                  (max (if named.c = true then t.ocu.elems.c.peak else 0) (if named.g = true then t.ocu.elems.g.peak else 0))
              number := if taken = true then min s.cfg.tripsToLockout (s.sqc.shots + 1) else s.sqc.shots
              finalReason :=
                if taken = false then s.sqc.reason
                else if s.tagInForce = true then some .tagged
                else if s.btu.reserve = .critical then some .battery
                else if s.mfp.lost = true then some .measurement
                else if s.sqc.startHold ≠ none then some .startHold
                else if s.sqc.manualWindow ≠ none then some .manualClose
                else if min s.cfg.tripsToLockout (s.sqc.shots + 1) = s.cfg.tripsToLockout then some .shots
                else none } →
          (named = { a := false, b := false, c := false, g := false } →
            t.sqc.trip = s.sqc.trip ∧ (s.sqc.seq ≠ .tripping → t.sqc.seq ≠ .tripping)) ∧
          (taken = false → lockoutTrip = false → t.sqc.shots = s.sqc.shots ∧ t.sqc.trip = s.sqc.trip) ∧
          (named ≠ { a := false, b := false, c := false, g := false } → (taken = true ∨ lockoutTrip = true) →
            t.sqc.seq = .tripping ∧ t.sqc.shots = trip.number ∧ t.sqc.trip = some trip ∧ t.sqc.reason = none ∧
            t.sqc.manualWindow = none ∧ t.sqc.reset = none ∧ t.sqc.memory = none ∧ t.ocu.orderRaised = true ∧
            t.ocu.phase.ownOrder = (s.ocu.phase.ownOrder || named.a || named.b || named.c) ∧
            t.ocu.ground.ownOrder = (s.ocu.ground.ownOrder || named.g) ∧
            (s.cdu.tripRequest = .none → s.cdu.pulse ≠ .trip → s.cdu.tripOwed = false →
              t.cdu.closeRequest = (s.cdu.closeRequest && decide (s.cdu.pulse ≠ Pulse.close)) ∧ t.cdu.withdrawn = false ∧
              ((s.cdu.tripReady = true ∨ (s.cdu.tripSpent = false ∧ 240 ≤ (measFields bytes).tripV)) →
                t.cdu.pulse = .trip ∧ t.cdu.pulseTimer = some s.cfg.tripWidth ∧ t.cdu.tripWindow = some 100 ∧
                t.cdu.tripRequest = .first ∧ t.cdu.tripWait = none ∧ t.cdu.tripSpent = true ∧ t.cdu.tripReady = false) ∧
              (s.cdu.tripReady = false → (measFields bytes).tripV < 240 →
                t.cdu.pulse = .none ∧ t.cdu.tripRequest = .wait ∧ t.cdu.tripWait = some 2000)) ∧
            (s.quietTest → s.btu.acPresent = true → s.btu.reserve = .normal →
              t.rcs =
                s.withRecords
                  ((if s.cdu.pulse = .close then [{ kind := .tripFree, shots := some trip.number }] else []) ++
                    [tripRecord trip trip.number]) ∧
              ((∃ e ∈ s.ocu.elems.toList, e.picked = true) →
                Reports { s with pru := { s.pru with pace := none }, chc := { s.chc with lfsr := t.chc.lfsr } } t
                  [(.trip, tripPayload trip false t.ocu.longestRun)])))

/-- R5, R7, R21, R47, R51, R82, R122: 12 ms without a good frame stalls the part: the counts return to 0, the elements keep
everything else, the recovery timer and the memory end, both charge enables go off, and the take is stall-paced. R5, R8: the
span that runs from a reset finds stalled set and ends alone. R6, R7, R34: measurement lost is set with its record, which
locks out a sequence in CLOSE_CHARGE (the MEASUREMENT_LOST record before the LOCKOUT record: log 6, R163 leaves the order
open); a second span makes no second record; and the recovery timer's expiry clears it with a MEASUREMENT_BACK record. -/
def Obligations.StallAndMeasurementLost : Prop :=
  (∀ s : State, s.started = true → s.mfp.stallTimer = some 0 → s.mfp.stalled = true →
     exec .stalled s = .next { s with mfp := { s.mfp with stallTimer := none } }) ∧
  (∀ s : State, s.started = true → s.mfp.stallTimer = some 0 → s.mfp.stalled = false → s.quietTest →
     exec .stalled s =
       .next
         { s with
           mfp := { s.mfp with stalled := true, stallTimer := none, recovery := none }
           ocu :=
             { s.ocu with
               elems :=
                 { a := { s.ocu.elems.a with count := 0 }, b := { s.ocu.elems.b with count := 0 },
                   c := { s.ocu.elems.c with count := 0 }, g := { s.ocu.elems.g with count := 0 } } }
           sqc := { s.sqc with memory := none }
           cdu := { s.cdu with tcen := false, ccen := false, closeCharge := none }
           pru := { s.pru with pace := some 4 } }) ∧
  (∀ s : State, s.started = true →
     (s.mfp.lostTimer = some 0 →
       (s.mfp.lost = true → exec .measurementLost s = .next { s with mfp := { s.mfp with lostTimer := none } }) ∧
       (s.mfp.lost = false → s.sqc.seq ≠ .closeCharge →
         exec .measurementLost s =
           .next
             { s with
               mfp := { s.mfp with lost := true, lostTimer := none }
               rcs := s.withRecords [{ kind := .measurementLost }] }) ∧
       (s.mfp.lost = false → s.sqc.seq = .closeCharge →
         ∃ t, exec .measurementLost s = .next t ∧
           LocksOut { s with mfp := { s.mfp with lost := true, lostTimer := none } } t .measurement
             [{ kind := .measurementLost }])) ∧
     (s.mfp.recovery = some 0 →
       exec .measurementBack s =
         .next
           { s with
             mfp := { s.mfp with lost := false, recovery := none }
             rcs := s.withRecords [{ kind := .measurementBack }] }))

/-! ### Pulses, windows and waits -/

/-- R55, R57 to R59: the end of a trip confirm window with the position not Open, by the trip request: FIRST goes to RETRIP_WAIT
with its 2 s, ATTEMPT ends with no report, and a window whose request is over ends alone; a FIRST that was withdrawn and a
RETRIP are reported, which changes nothing outside TRIPPING (R30 for LOCKOUT, log 40 for the other states). With the position
Open no row of R55 applies: FIRST and RETRIP stand, and ATTEMPT ends (log 41). R30, R56, R57: outside TRIPPING the expiry of a
trip wait makes its ENERGY_FAULT record alone, and the expiry of a retrip wait ends the request alone (log 40). R31, R34, R41,
R50, R54, R55, R57, R59, R60: a capacitor that becomes ready at a good frame, no pulse in progress and the CDU taking its
voltages first: the trip capacitor begins the pulse of WAIT, of RETRIP_WAIT and, in BREAKER_FAIL, of an attempt; the close
capacitor brings the close gate again in CLOSE_CHARGE, whose refusals lock out in their order (of DISCONNECT beside start hold
nothing is said: log 16), and the pulse of an operator close that waits with the handle up and no tag in force; a close window
that ran is replaced by the new one (log 46). No element reaches pickup in that frame, no release test stands, no record waits,
and every Q is 0 or 512 at the least, as R177 judges the settings. -/
def Obligations.PulsesWindowsAndWaitsEnd : Prop :=
  (∀ (s : State) (opened : Bool), s.started = true → s.cdu.tripWindow = some 0 →
     opened = (s.cdu.openMade && !s.cdu.closedMade) →
     (s.cdu.tripRequest = .first → s.cdu.withdrawn = false → opened = false →
       exec .tripWindowEnd s =
         .next { s with cdu := { s.cdu with tripWindow := none, tripRequest := .retripWait, retripWait := some 2000 } }) ∧
     (s.cdu.tripRequest = .attempt →
       exec .tripWindowEnd s =
         .next { s with cdu := { s.cdu with tripWindow := none, tripRequest := .none, tripWait := none, retripWait := none } }) ∧
     (s.cdu.tripRequest = .none → exec .tripWindowEnd s = .next { s with cdu := { s.cdu with tripWindow := none } }) ∧
     ((s.cdu.tripRequest = .first ∨ s.cdu.tripRequest = .retrip) → opened = true →
       exec .tripWindowEnd s = .next { s with cdu := { s.cdu with tripWindow := none } }) ∧
     ((s.cdu.tripRequest = .retrip ∨ (s.cdu.tripRequest = .first ∧ s.cdu.withdrawn = true)) → opened = false →
       s.sqc.seq ≠ .tripping →
       exec .tripWindowEnd s =
         .next { s with cdu := { s.cdu with tripWindow := none, tripRequest := .none, tripWait := none, retripWait := none } })) ∧
  (∀ s : State, s.started = true → s.sqc.seq ≠ .tripping →
     (s.cdu.tripWait = some 0 →
       exec .tripWaitExpiry s =
         .next
           { s with
             cdu := { s.cdu with tripRequest := .none, tripWait := none, retripWait := none }
             rcs := s.withRecords [{ kind := .energyFault, reason := some .tripEnergy, battV := some s.btu.battV }] }) ∧
     (s.cdu.retripWait = some 0 →
       exec .retripWaitExpiry s =
         .next { s with cdu := { s.cdu with tripRequest := .none, tripWait := none, retripWait := none } })) ∧
  (∀ (s : State) (bits : List LinkBit) (bytes : List Byte) (order : List Delivery), s.started = true →
     Brings s.mfp.frame bits bytes → FrameIsGood bytes → s.cdu.pulse = .none → s.chc.queue = [] →
     ∃ t, exec (.measurementFrame bits (.cdu :: order)) s = .next t ∧
       (s.cdu.tripReady = false → (s.cdu.tripSpent = false ∨ s.cdu.tripWindow = none) → 240 ≤ (measFields bytes).tripV →
         ∀ request : TripRequest,
           ((s.cdu.tripRequest = .wait ∧ request = .first) ∨ (s.cdu.tripRequest = .retripWait ∧ request = .retrip) ∨
             (s.cdu.tripRequest = .none ∧ s.sqc.seq = .breakerFail ∧ request = .attempt)) →
           t.cdu.pulse = .trip ∧ t.cdu.pulseTimer = some s.cfg.tripWidth ∧ t.cdu.tripWindow = some 100 ∧
           t.cdu.tripRequest = request ∧ t.cdu.tripWait = none ∧ t.cdu.retripWait = none ∧ t.cdu.tripSpent = true ∧
           t.cdu.tripReady = false) ∧
       (s.cdu.closeReady = false → 360 ≤ (measFields bytes).closeV → s.cdu.tripRequest = .none →
         s.ocu.phase.releaseDue = false → s.ocu.ground.releaseDue = false →
         (∀ q ∈ [s.cfg.instPh, s.cfg.instGd, s.cfg.tagInst], q = 0 ∨ 512 ≤ q) →
         (∀ f ∈ [((measFields bytes).ia, s.cfg.pickupPh), ((measFields bytes).ib, s.cfg.pickupPh),
           ((measFields bytes).ic, s.cfg.pickupPh), ((measFields bytes).ig, s.cfg.pickupGd)], f.1 * 256 / f.2 < 243) →
         (s.sqc.seq = .closeCharge →
           ∀ refused : Option LockReason,
             refused =
               (if s.tgu.handleDown = true then some .handle
               else if s.tagInForce = true then some .tagged
               else if s.mfp.lost = true then some .measurement
               else if s.btu.reserve = .critical then some .battery
               else if s.sqc.startHold ≠ none then some .startHold
               else none) →
             (∀ reason, refused = some reason → (reason = .startHold → s.btu.reserve ≠ .disconnect) →
               t.sqc.seq = .lockout ∧ t.sqc.reason = some reason ∧ t.cdu.pulse = .none) ∧
             (refused = none → s.btu.reserve ≠ .disconnect →
               t.sqc.seq = .closing ∧ t.sqc.closeKind = .automatic ∧ t.sqc.closeBegun = true ∧ t.sqc.charge = none ∧
               t.cdu.pulse = .close ∧ t.cdu.pulseTimer = some s.cfg.closeWidth ∧ t.cdu.closeWindow = some 200 ∧
               t.cdu.closeRequest = true ∧ t.cdu.closeSpent = true ∧ t.cdu.closeReady = false)) ∧
         (s.sqc.seq = .closing → s.sqc.closeKind = .operator → s.sqc.closeBegun = false → s.tgu.handleDown = false →
           s.tagInForce = false →
           t.sqc.seq = .closing ∧ t.sqc.closeBegun = true ∧ t.sqc.charge = none ∧ t.cdu.pulse = .close ∧
           t.cdu.pulseTimer = some s.cfg.closeWidth ∧ t.cdu.closeWindow = some 200 ∧ t.cdu.closeRequest = true ∧
           t.cdu.closeSpent = true ∧ t.cdu.closeReady = false)))

/-- R30, R55 to R57: in TRIPPING the end of the RETRIP window, the expiry of the retrip wait and the expiry of the trip wait
(after its ENERGY_FAULT record) end the request and send the SQC to BREAKER_FAIL with reason MECHANISM, a failed TRIP report,
a LOCKOUT report and a BREAKER_FAIL record. The window ends with the position not Open. The order of the two reports'
sequences, and of the ENERGY_FAULT and BREAKER_FAIL records, is the model's (log 6; R112 and R163 leave both open). -/
def Obligations.BreakerFailure : Prop :=
  ∀ (s : State) (trip : CurrentTrip), s.started = true → s.sqc.seq = .tripping → s.sqc.trip = some trip →
    ∀ (c : Instr) (before : List RecordBody),
      ((c = .tripWindowEnd ∧ s.cdu.tripWindow = some 0 ∧ s.cdu.tripRequest = .retrip ∧
          ¬ (s.cdu.openMade = true ∧ s.cdu.closedMade = false) ∧ before = []) ∨
        (c = .retripWaitExpiry ∧ s.cdu.retripWait = some 0 ∧ before = []) ∨
        (c = .tripWaitExpiry ∧ s.cdu.tripWait = some 0 ∧
          before = [{ kind := .energyFault, reason := some .tripEnergy, battV := some s.btu.battV }])) →
      ∃ t, exec c s = .next t ∧
        t =
          { s with
            sqc := s.sqc.moved .breakerFail (some .mechanism)
            cdu :=
              { s.cdu with
                tripWindow := if c = .tripWindowEnd then none else s.cdu.tripWindow
                tripRequest := .none
                tripWait := none
                retripWait := none }
            rcs := s.withRecords
              (before ++ [{ kind := .breakerFail, reason := some (.lock .mechanism), shots := some s.sqc.shots }])
            pru := t.pru
            chc := t.chc } ∧
        Reports s t
          [(.trip, tripPayload trip true (if trip.cause = .operator then 0 else s.ocu.longestRun)),
            (.lockout, beBytes 1 LockReason.mechanism.code ++ beBytes 1 s.sqc.shots)]

/-- R35, R38, R41, R52, R60: a close window that ends with the request still CLOSE is a close failure, which locks out a
sequence in CLOSING and changes nothing more elsewhere (R38 for LOCKOUT, log 40 for the other states); a close charge attempt
that has lasted 20 s makes its ENERGY_FAULT record and bars close charging, and locks out CLOSE_CHARGE and a waiting operator
close (the ENERGY_FAULT record before the LOCKOUT record: log 6, R163 leaves the order open). -/
def Obligations.CloseFailures : Prop :=
  ∀ s : State, s.started = true →
    (s.cdu.closeWindow = some 0 →
      (s.cdu.closeRequest = false → exec .closeWindowEnd s = .next { s with cdu := { s.cdu with closeWindow := none } }) ∧
      (s.cdu.closeRequest = true → s.sqc.seq ≠ .closing →
        exec .closeWindowEnd s = .next { s with cdu := { s.cdu with closeWindow := none, closeRequest := false } }) ∧
      (s.cdu.closeRequest = true → s.sqc.seq = .closing →
        ∃ t, exec .closeWindowEnd s = .next t ∧
          LocksOut { s with cdu := { s.cdu with closeWindow := none, closeRequest := false } } t .closeFail [])) ∧
    (s.cdu.closeCharge = some 0 →
      ∀ (fault : RecordBody) (barred : Cdu),
        fault = { kind := .energyFault, reason := some (.lock .closeEnergy), battV := some s.btu.battV } →
        barred = { s.cdu with closeBarred := true }.charged (s.tripSupply && s.cdu.pulse != Pulse.trip) false →
        (s.sqc.seq ≠ .closeCharge → (s.sqc.seq = .closing → s.sqc.closeBegun = true) →
          exec .closeChargeTimerExpiry s = .next { s with cdu := barred, rcs := s.withRecords [fault] }) ∧
        ((s.sqc.seq = .closeCharge ∨ (s.sqc.seq = .closing ∧ s.sqc.closeBegun = false)) →
          ∃ t, exec .closeChargeTimerExpiry s = .next t ∧ LocksOut { s with cdu := barred } t .closeEnergy [fault]))

/-! ### The breaker position -/

/-- R62 to R65, R22, R29, R31: the change to Open with a trip request standing is a trip confirm: it counts one operation,
ends the request and clears the elements, and by state the SQC goes to RECLOSE_WAIT for interval[s], to LOCKOUT with the final
reason, with TAGGED under a tag, or with MECHANISM from BREAKER_FAIL, and stays as it is in LOCKOUT. No hold stands,
and the open contact is the one that changes. The episode record is empty after the clearing: longest run 0 and the
order-raised flag clear (log 15). -/
def Obligations.TripConfirm : Prop :=
  ∀ (s : State) (clearFirst : Bool), s.started = true → s.cdu.closedMade = false → s.cdu.openMade = false →
    s.cdu.lastClosed = true → s.cdu.tripRequest ≠ .none → s.ocu.phase.hold = none → s.ocu.ground.hold = none →
    s.Held .poso true →
    ∀ opened : State,
      opened =
        { s with
          inputs := s.inputs.still .poso
          ocu := s.ocu.cleared
          cdu :=
            { s.cdu with
              openMade := true
              indeterminate := none
              positionFault := false
              lastClosed := false
              operations := s.cdu.operations + 1
              tripRequest := .none
              tripWait := none
              retripWait := none } } →
      (∀ trip, s.sqc.seq = .tripping → s.sqc.trip = some trip → trip.finalReason = none → s.tagInForce = false →
        exec (.contactChange .openContact true clearFirst) s =
          .next
            { opened with
              sqc := { s.sqc.moved .recloseWait none with reclose := some (s.cfg.intervals.getD (s.sqc.shots - 1) 0) }
              cdu :=
                { opened.cdu with closeBarred := false }.charged (s.tripSupply && s.cdu.pulse != Pulse.trip)
                  (s.closeSupply && s.cdu.pulse != Pulse.close) }) ∧
      (∀ trip reason, s.sqc.seq = .tripping → s.sqc.trip = some trip →
        (trip.finalReason = some reason ∨ (trip.finalReason = none ∧ s.tagInForce = true ∧ reason = .tagged)) →
        ∃ t, exec (.contactChange .openContact true clearFirst) s = .next t ∧ LocksOut opened t reason []) ∧
      (s.sqc.seq = .breakerFail →
        ∃ t, exec (.contactChange .openContact true clearFirst) s = .next t ∧ LocksOut opened t .mechanism []) ∧
      (s.sqc.seq = .lockout → exec (.contactChange .openContact true clearFirst) s = .next opened)

/-- R22, R42, R63, R65, R138, R139: an open without a pulse in READY or RESET_TIMING locks out with UNEXPLAINED_OPEN, one in
BREAKER_FAIL with MECHANISM, and one in LOCKOUT changes no sequence state; each clears the elements and ends both holds, in
either order of the two. No test runs, and no element stands at F. The phase hold's record stands before the ground hold's
(log 31), the LOCKOUT record before both (log 6, R163 leaves the order open), and the episode record is empty after the
clearing (log 15). -/
def Obligations.OpenWithoutAPulse : Prop :=
  ∀ (s : State) (clearFirst : Bool), s.started = true → s.cdu.closedMade = false → s.cdu.openMade = false →
    s.cdu.lastClosed = true → s.cdu.tripRequest = .none → s.quietTest → s.mfp.stalled = false →
    (∀ e ∈ s.ocu.elems.toList, e.acc < 1048576) → s.Held .poso true →
    (s.sqc.seq = .ready ∨ s.sqc.seq = .resetTiming ∨ s.sqc.seq = .breakerFail ∨ s.sqc.seq = .lockout) →
    ∀ ends : List RecordBody,
      ends =
        (s.ocu.phase.hold.toList.map fun h : Hold =>
          ({ kind := .holdEnded, peerId := some h.holder, elements := some { a := true, b := true, c := true, g := false },
             reason := some .tripConfirmed } : RecordBody)) ++
        (s.ocu.ground.hold.toList.map fun h : Hold =>
          ({ kind := .holdEnded, peerId := some h.holder, elements := some { a := false, b := false, c := false, g := true },
             reason := some .tripConfirmed } : RecordBody)) →
      ∃ t, exec (.contactChange .openContact true clearFirst) s = .next t ∧
        t.cdu =
          { s.cdu with
            openMade := true
            indeterminate := none
            positionFault := false
            lastClosed := false
            operations := s.cdu.operations + 1 } ∧
        t.ocu =
          { s.ocu.cleared with
            phase := { s.ocu.phase with hold := none }
            ground := { s.ocu.ground with hold := none } } ∧
        t.mfp = s.mfp ∧ t.btu = s.btu ∧ t.tgu = s.tgu ∧ t.svp = s.svp ∧ t.inputs = s.inputs.still .poso ∧
        (s.sqc.seq = .lockout → t.sqc = s.sqc ∧ t.rcs = s.withRecords ends ∧ t.pru = s.pru ∧ t.chc = s.chc) ∧
        (∀ reason, (s.sqc.seq = .breakerFail ∧ reason = .mechanism) ∨
            ((s.sqc.seq = .ready ∨ s.sqc.seq = .resetTiming) ∧ reason = .unexplainedOpen) →
          t.sqc = { s.sqc.moved .lockout (some reason) with manualWindow := none, stepped := false } ∧
          t.rcs = s.withRecords (lockoutRecord reason s.sqc.shots :: ends) ∧
          Reports s t [(.lockout, beBytes 1 reason.code ++ beBytes 1 s.sqc.shots)])

/-- R35, R41, R43, R45, R60, R62, R63: the change to Closed by its class. A close confirm of an automatic close goes to
RESET_TIMING with a CLOSE record of s, or under a tag to READY with s at 0; one of an operator close, and an unordered close
with the handle up, go to READY with s at 0, the manual-close window open and a CLOSE record of 0; one in LOCKOUT changes no
sequence state; an unordered close with the handle down locks out with HANDLE, and in LOCKOUT stays there with that reason, no
record and no notice (log 24). -/
def Obligations.ChangeToClosed : Prop :=
  ∀ (s : State) (clearFirst : Bool), s.started = true → s.cdu.closedMade = false → s.cdu.openMade = false →
    s.cdu.lastClosed = false → s.Held .posc true →
    ∀ closed : State,
      closed =
        { s with
          inputs := s.inputs.still .posc
          cdu :=
            { s.cdu with
              closedMade := true
              indeterminate := none
              positionFault := false
              lastClosed := true
              closeRequest := false
              closeWindow := if s.cdu.closeRequest = true then none else s.cdu.closeWindow } } →
        (s.cdu.closeRequest = true →
          (s.sqc.seq = .closing → s.sqc.closeKind = .automatic → s.tagInForce = false →
            exec (.contactChange .closedContact true clearFirst) s =
              .next
                (closed.settled { s.sqc.moved .resetTiming none with reset := some s.cfg.resetTime }
                  { kind := .close, shots := some s.sqc.shots })) ∧
          (s.sqc.seq = .closing → s.sqc.closeKind = .automatic → s.tagInForce = true →
            exec (.contactChange .closedContact true clearFirst) s =
              .next
                (closed.settled { s.sqc.moved .ready none with shots := 0, stepped := false }
                  { kind := .close, shots := some s.sqc.shots })) ∧
          (s.sqc.seq = .closing → s.sqc.closeKind = .operator →
            exec (.contactChange .closedContact true clearFirst) s =
              .next
                (closed.settled
                  { s.sqc.moved .ready none with shots := 0, stepped := false, manualWindow := some s.cfg.resetTime }
                  { kind := .close, shots := some 0 })) ∧
          (s.sqc.seq = .lockout → exec (.contactChange .closedContact true clearFirst) s = .next closed)) ∧
        (s.cdu.closeRequest = false →
          (s.sqc.seq = .lockout ∨ s.sqc.seq = .recloseWait ∨ s.sqc.seq = .closeCharge ∨
            (s.sqc.seq = .closing ∧ s.sqc.closeBegun = false)) →
          (s.tgu.handleDown = false →
            exec (.contactChange .closedContact true clearFirst) s =
              .next
                (closed.settled
                  { s.sqc.moved .ready none with shots := 0, stepped := false, manualWindow := some s.cfg.resetTime }
                  { kind := .close, shots := some 0 })) ∧
          (s.tgu.handleDown = true → s.sqc.seq ≠ .lockout →
            ∃ t, exec (.contactChange .closedContact true clearFirst) s = .next t ∧ LocksOut closed t .handle []) ∧
          (s.tgu.handleDown = true → s.sqc.seq = .lockout →
            exec (.contactChange .closedContact true clearFirst) s =
              .next { closed with sqc := { closed.sqc with reason := some .handle } }))

/-- R62 and R64: a closed contact that opens for its 10 ms makes the position Indeterminate and starts its 500 ms, which end in
position fault with a POSITION_FAULT record of the two contacts; a contact that returns before a definite change makes none. A change
from neither contact made to both made at one moment, or back, leaves the 500 ms and position fault as they stand. A command that
names both contacts acts on those that have held the level, and its edges are those of the two (log 35). -/
def Obligations.IndeterminatePosition : Prop :=
  ∀ (s : State) (clearFirst : Bool), s.started = true →
    (s.cdu.closedMade = true → s.cdu.openMade = false → s.Held .posc false →
      exec (.contactChange .closedContact false clearFirst) s =
        .next
          { s with
            inputs := s.inputs.still .posc, cdu := { s.cdu with closedMade := false, indeterminate := some 500 } }) ∧
    (s.cdu.closedMade = false → s.cdu.openMade = true → s.Held .posc true →
      exec (.contactChange .closedContact true clearFirst) s =
        .next
          { s with
            inputs := s.inputs.still .posc, cdu := { s.cdu with closedMade := true, indeterminate := some 500 } }) ∧
    (s.cdu.closedMade = false → s.cdu.openMade = false → s.cdu.lastClosed = true → s.Held .posc true →
      exec (.contactChange .closedContact true clearFirst) s =
        .next
          { s with
            inputs := s.inputs.still .posc
            cdu := { s.cdu with closedMade := true, indeterminate := none, positionFault := false } }) ∧
    (∀ made, s.cdu.closedMade = !made → s.cdu.openMade = !made → s.Held .posc made → s.Held .poso made →
      exec (.contactChange .bothContacts made clearFirst) s =
        .next
          { s with
            inputs := (s.inputs.still .posc).still .poso
            cdu := { s.cdu with closedMade := made, openMade := made } }) ∧
    (∀ made,
      (¬ s.Held .poso made →
        exec (.contactChange .bothContacts made clearFirst) s = exec (.contactChange .closedContact made clearFirst) s) ∧
      (¬ s.Held .posc made →
        exec (.contactChange .bothContacts made clearFirst) s = exec (.contactChange .openContact made clearFirst) s) ∧
      ∀ t, exec (.contactChange .closedContact made clearFirst .edge) s = .next t →
        exec (.contactChange .bothContacts made clearFirst .edge) s =
          exec (.contactChange .openContact made clearFirst .edge) t) ∧
    (s.cdu.indeterminate = some 0 → s.cdu.closedMade = s.cdu.openMade →
      exec .positionFault s =
        .next
          { s with
            cdu := { s.cdu with indeterminate := none, positionFault := true }
            rcs := s.withRecords
              [{ kind := .positionFault, reason := some (if s.cdu.closedMade = true then .both else .neither) }] })

/-! ### The sequence's timers -/

/-- R33: the close gate at the expiry of the reclose timer, row by row in its order; its last line, for DISCONNECT, is the
model's choice (log 16), and so is the new close window in place of one that ran (log 46). -/
def Obligations.CloseGate : Prop :=
  ∀ s : State, s.started = true → s.sqc.seq = .recloseWait → s.sqc.reclose = some 0 →
    ∃ t, exec .recloseTimerExpiry s = .next t ∧
      if s.tgu.handleDown = true then LocksOut s t .handle []
      else if s.tagInForce = true then LocksOut s t .tagged []
      else if s.mfp.lost = true then LocksOut s t .measurement []
      else if s.btu.reserve = .critical then LocksOut s t .battery []
      else if s.sqc.startHold ≠ none ∧ s.btu.reserve ≠ .disconnect then LocksOut s t .startHold []
      else if s.cdu.closeReady = true ∧ s.cdu.pulse = .none ∧ s.btu.reserve ≠ .disconnect then
        t =
          { s with
            sqc := { s.sqc.moved .closing none with closeKind := .automatic, closeBegun := true }
            cdu := ({ s.cdu with closeBarred := false }.closing s.cfg.closeWidth).charged s.tripSupply false }
      else if s.btu.reserve ≠ .disconnect then
        t = { s with sqc := { s.sqc.moved .closeCharge none with charge := some 20000 } }
      else LocksOut s t .battery []

/-- R34 and R41: 20 s without close energy lock out CLOSE_CHARGE and a waiting operator close with CLOSE_ENERGY. R37: the end
of the reset time goes to READY with s at 0 and, after a step, with a CLEAR report whose stepped flag is clear. R45 and R46:
the manual-close window and start hold end with their timers, and with that alone. R50, R51, R54: the end of a coil pulse turns
its drive line off and permits the charging that it held off (no ready report waits for it). -/
def Obligations.SequenceTimersExpire : Prop :=
  (∀ s : State, s.started = true →
     (s.sqc.charge = some 0 → (s.sqc.seq = .closeCharge ∨ (s.sqc.seq = .closing ∧ s.sqc.closeBegun = false)) →
       ∃ t, exec .chargeTimerExpiry s = .next t ∧ LocksOut s t .closeEnergy []) ∧
     (s.sqc.reset = some 0 → s.sqc.seq = .resetTiming →
       ∀ ready : State,
         ready =
           { s with
             sqc := { s.sqc.moved .ready none with shots := 0, stepped := false }
             ocu := s.ocu.unmarked
             cdu :=
               { s.cdu with closeBarred := false }.charged (s.tripSupply && s.cdu.pulse != Pulse.trip)
                 (s.closeSupply && s.cdu.pulse != Pulse.close) } →
         (s.sqc.stepped = false → exec .resetTimerExpiry s = .next ready) ∧
         (s.sqc.stepped = true →
           ∃ t, exec .resetTimerExpiry s = .next t ∧ t = { ready with pru := t.pru, chc := t.chc } ∧
             Reports s t [(.clear, beBytes 1 s.sqc.stepSet.code ++ [0#8])]))) ∧
  (∀ s : State, s.started = true →
     (s.sqc.manualWindow = some 0 →
       exec .manualCloseWindowExpiry s = .next { s with sqc := { s.sqc with manualWindow := none } }) ∧
     (s.sqc.startHold = some 0 → exec .startHoldExpiry s = .next { s with sqc := { s.sqc with startHold := none } })) ∧
  (∀ s : State, s.started = true → s.cdu.pulseTimer = some 0 → s.cdu.tripOwed = false → s.cdu.closeOwed = false →
     (s.cdu.pulse = .trip →
       exec .tripPulseEnd s =
         .next
           { s with
             cdu :=
               { s.cdu with pulse := .none, pulseTimer := none }.charged s.tripSupply (s.closeSupply && !s.cdu.closeBarred) }) ∧
     (s.cdu.pulse = .close →
       exec .closePulseEnd s =
         .next
           { s with
             cdu :=
               { s.cdu with pulse := .none, pulseTimer := none }.charged s.tripSupply (s.closeSupply && !s.cdu.closeBarred) }))

/-- R47, R48, R82, R113, R116: an episode that ends without an order after at least two steps, with an eligible memory and s
below N − 1, steps the sequence at the frame that drops its last element, with a STEP record of the memory's set and the new s
and a CLEAR report of the set with the stepped flag set (no test running, AC present and NORMAL, so that no other record is
made); otherwise s stands, and the memory is empty in either case. No record waits, and the OCU is stepped before the other
blocks take their fields. The longest run that the notice carries is the one held before this step, in which every run returns
to 0 (log 14). -/
def Obligations.SequenceStep : Prop :=
  ∀ (s : State) (bits : List LinkBit) (bytes : List Byte) (order : List Delivery), s.started = true →
    Brings s.mfp.frame bits bytes → FrameIsGood bytes → s.chc.queue = [] →
    (s.sqc.seq = .ready ∨ s.sqc.seq = .resetTiming) →
    (∀ e ∈ s.ocu.elems.toList, e.acc < 1048576 ∧ e.count = 0) →
    (∃ e ∈ s.ocu.elems.toList, e.picked = true) →
    (∀ f ∈ [((measFields bytes).ia, s.cfg.pickupPh), ((measFields bytes).ib, s.cfg.pickupPh),
        ((measFields bytes).ic, s.cfg.pickupPh), ((measFields bytes).ig, s.cfg.pickupGd)], f.1 * 256 / f.2 < 243) →
    ∃ t, exec (.measurementFrame bits (.ocu :: order)) s = .next t ∧ t.sqc.memory = none ∧
      (∀ elements, s.sqc.memory = some elements → 2 ≤ s.ocu.longestRun → s.ocu.orderRaised = false →
        s.sqc.shots + 1 < s.cfg.tripsToLockout →
        t.sqc.seq = .resetTiming ∧ t.sqc.shots = s.sqc.shots + 1 ∧ t.sqc.stepped = true ∧ t.sqc.stepSet = elements ∧
          t.sqc.reset = some s.cfg.resetTime ∧
          (s.quietTest → s.btu.acPresent = true → s.btu.reserve = .normal →
            t.rcs = s.withRecords [{ kind := .step, elements := some elements, shots := some (s.sqc.shots + 1) }] ∧
            Reports { s with pru := { s.pru with pace := none }, chc := { s.chc with lfsr := t.chc.lfsr } } t
              [(.clear, beBytes 1 elements.code ++ [1#8])])) ∧
      ((s.sqc.memory = none ∨ s.ocu.longestRun < 2 ∨ s.ocu.orderRaised = true ∨
          s.cfg.tripsToLockout ≤ s.sqc.shots + 1) →
        t.sqc.seq = s.sqc.seq ∧ t.sqc.shots = s.sqc.shots ∧ t.sqc.reset = s.sqc.reset)

/-! ### Trips and closes by hand, the handle and the holds -/

/-- R27, R39, R50, R54, R55, R61, R115, R171: an operator trip in READY, RESET_TIMING, LOCKOUT with the breaker Closed, or
CLOSING with the pulse begun, at the panel and at the service port: TRIPPING with the operator's current trip, the pulse from
a ready trip capacitor (a close pulse in progress is pre-empted first), the TRIP report and the TRIP record, and s unchanged;
with the trip capacitor not ready the request waits up to 2 s for it instead (R55). A TRIP_FREE record stands before the TRIP
record (log 6, R163 leaves the order open). No test runs and no trip request stands. R28, R39, R148, R149: an operator trip
elsewhere: in TRIPPING the current trip becomes final with OPERATOR; in RECLOSE_WAIT, CLOSE_CHARGE and a CLOSING whose pulse has
not begun it locks out with OPERATOR; in LOCKOUT with the breaker not Closed and in BREAKER_FAIL it is refused, with
Refused-State at the port and the error tone at the panel. -/
def Obligations.OperatorTripByState : Prop :=
  (∀ s : State, s.started = true → s.quietTest → s.cdu.tripRequest = .none →
     (s.sqc.seq = .ready ∨ s.sqc.seq = .resetTiming ∨ (s.sqc.seq = .closing ∧ s.sqc.closeBegun = true) ∨
       (s.sqc.seq = .lockout ∧ s.cdu.closedMade = true ∧ s.cdu.openMade = false)) →
     ∀ (before : List RecordBody) (freed : Cdu) (tripped : State),
       before = (if s.cdu.pulse = .close then [{ kind := .tripFree, shots := some s.sqc.shots }] else []) →
       freed =
         (if s.cdu.pulse = .close then
           { s.cdu with
             closeRequest := false, closeWindow := none, tripOwed := false, pulse := .none, pulseTimer := none }.charged
             s.tripSupply (s.closeSupply && !s.cdu.closeBarred)
         else s.cdu) →
       tripped =
         { s with
           sqc := { s.sqc.moved .tripping none with trip := some operatorsTrip, manualWindow := none }
           cdu :=
             if s.cdu.tripReady = true then
               ({ freed with withdrawn := false }.tripping s.cfg.tripWidth .first).charged false
                 (s.closeSupply && !s.cdu.closeBarred)
             else { freed with withdrawn := false, tripRequest := .wait, tripWait := some 2000 }
           rcs := s.withRecords (before ++ [tripRecord operatorsTrip s.sqc.shots]) } →
       (s.tgu.keys.trip = false → s.Held .tripKey true →
         ∃ t, exec (.tripKey true) s = .next t ∧
           t =
             { tripped with
               inputs := s.inputs.still .tripKey
               tgu := { s.tgu with keys := { s.tgu.keys with trip := true } }
               pru := t.pru
               chc := t.chc } ∧
           Reports s t [(.trip, tripPayload operatorsTrip false 0)]) ∧
       (s.svp.service = .listen →
         ∃ t, exec .operatorTrip s = .next t ∧
           t = { tripped with svp := s.svp.answered 0x10#8 0 [], pru := t.pru, chc := t.chc } ∧
           Reports s t [(.trip, tripPayload operatorsTrip false 0)])) ∧
  (∀ s : State, s.started = true →
     (s.sqc.seq = .tripping → s.svp.service = .listen →
       exec .operatorTrip s =
         .next
           { s with
             sqc :=
               { s.sqc with
                 trip := s.sqc.trip.map fun trip : CurrentTrip => { trip with finalReason := some LockReason.operator } }
             svp := s.svp.answered 0x10#8 0 [] }) ∧
     ((s.sqc.seq = .recloseWait ∨ s.sqc.seq = .closeCharge ∨ (s.sqc.seq = .closing ∧ s.sqc.closeBegun = false)) →
       (s.svp.service = .listen →
         ∃ t, exec .operatorTrip s = .next t ∧ LocksOut { s with svp := s.svp.answered 0x10#8 0 [] } t .operator []) ∧
       (s.tgu.keys.trip = false → s.Held .tripKey true →
         ∃ t, exec (.tripKey true) s = .next t ∧
           LocksOut
             { s with inputs := s.inputs.still .tripKey, tgu := { s.tgu with keys := { s.tgu.keys with trip := true } } }
             t .operator [])) ∧
     ((s.sqc.seq = .breakerFail ∨
         (s.sqc.seq = .lockout ∧ ¬ (s.cdu.closedMade = true ∧ s.cdu.openMade = false))) →
       (s.svp.service = .listen → exec .operatorTrip s = .next { s with svp := s.svp.answered 0x10#8 2 [] }) ∧
       (s.tgu.keys.trip = false → s.Held .tripKey true →
         exec (.tripKey true) s =
           .next
             { s with
               inputs := s.inputs.still .tripKey
               tgu := { s.tgu with keys := { s.tgu.keys with trip := true }, errorTone := some 1000 } })) ∧
     (s.tgu.keys.trip = true → s.Held .tripKey false →
       exec (.tripKey false) s =
         .next
           { s with inputs := s.inputs.still .tripKey, tgu := { s.tgu with keys := { s.tgu.keys with trip := false } } }))

/-- R40, R41, R53, R60, R148, R149, R171: an operator close, at the panel and at the port: the first failing line of R40's table
gives the refusal, which changes nothing else but for the error tone at the panel; a taken close enters CLOSING with kind
OPERATOR, and orders the pulse from a ready close capacitor or waits 20 s for it; the new pulse's window replaces one that ran
(log 46). -/
def Obligations.OperatorClose : Prop :=
  ∀ s : State, s.started = true →
    ∀ (answer : Option Byte) (taken : State),
      answer =
        (if ¬ (s.sqc.seq = .lockout ∧ s.cdu.pulse = .none ∧ s.cdu.openMade = true ∧ s.cdu.closedMade = false) then some 2
        else if s.tgu.handleDown = true then some 4
        else if s.tagInForce = true then some 3
        else if ¬ (s.cdu.closeReady = true ∨ s.btu.reserve = .normal ∨ s.btu.reserve = .reserve) then some 5
        else none) →
      taken =
        { s with
          sqc :=
            { s.sqc.moved .closing none with
              closeKind := .operator
              closeBegun := s.cdu.closeReady
              charge := if s.cdu.closeReady = true then none else some 20000 }
          cdu :=
            if s.cdu.closeReady = true then
              ({ s.cdu with closeBarred := false }.closing s.cfg.closeWidth).charged s.tripSupply false
            else { s.cdu with closeBarred := false }.charged s.tripSupply s.closeSupply } →
      (s.svp.service = .listen →
        (∀ code, answer = some code →
          exec .operatorClose s = .next { s with svp := s.svp.answered 0x11#8 code [] }) ∧
        (answer = none → exec .operatorClose s = .next { taken with svp := s.svp.answered 0x11#8 0 [] })) ∧
      (s.tgu.keys.close = false → s.Held .closeKey true →
        (answer ≠ none →
          exec (.closeKey true) s =
            .next
              { s with
                inputs := s.inputs.still .closeKey
                tgu := { s.tgu with keys := { s.tgu.keys with close := true }, errorTone := some 1000 } }) ∧
        (answer = none →
          exec (.closeKey true) s =
            .next
              { taken with
                inputs := s.inputs.still .closeKey
                tgu := { s.tgu with keys := { s.tgu.keys with close := true } } })) ∧
      (s.tgu.keys.close = true → s.Held .closeKey false →
        exec (.closeKey false) s =
          .next
            { s with
              inputs := s.inputs.still .closeKey, tgu := { s.tgu with keys := { s.tgu.keys with close := false } } })

/-- R62, R67, R149, R151: every debounced input: an edge away from its debounced state begins its span, of 10 ms for a contact, 1,000 ms
for ACP, 20 ms for a key and 50 ms for the handle; an edge back at it gives the count up; a level that is no change does nothing; and
the debounced state follows a level that has been held for the span, and no other. R44, R58, R151: the handle going down locks out
with HANDLE from any state; in TRIPPING and BREAKER_FAIL a trip request that waits ends and one with a pulse or window is withdrawn. The
handle coming up changes itself alone. No test runs. (The edge and the end of the span are one command of two moments: log 11.) -/
def Obligations.HandleMoves : Prop :=
  (∀ (s : State) (level order : Bool), s.started = true →
    ∀ row ∈ [(InputPin.posc, 10), (.poso, 10), (.acp, 1000), (.tripKey, 20), (.closeKey, 20), (.tagOnKey, 20), (.tagOffKey, 20),
        (.batteryKey, 20), (.hndl, 50)],
      ((s.inputs.line row.1).level = level → exec (row.1.command level order .edge) s = .next s) ∧
      ((s.inputs.line row.1).level ≠ level →
        exec (row.1.command level order .edge) s =
          .next
            { s with
              inputs :=
                s.inputs.put row.1
                  { level := level, count := if level = s.debounced row.1 then none else some row.2 } }) ∧
      (¬ (s.Held row.1 level ∧ s.debounced row.1 ≠ level) → exec (row.1.command level order .held) s = .next s) ∧
      (s.Held row.1 level → s.debounced row.1 ≠ level →
        ∃ t, exec (row.1.command level order .held) s = .next t ∧ t.debounced row.1 = level ∧
          t.inputs = s.inputs.still row.1)) ∧
  ∀ (s : State) (btuFirst : Bool), s.started = true →
    (s.tgu.handleDown = false → s.Held .hndl true → s.quietTest →
      ∃ t, exec (.handleDown btuFirst) s = .next t ∧
        LocksOut
          { s with
            inputs := s.inputs.still .hndl
            tgu := { s.tgu with handleDown := true }
            cdu :=
              if s.sqc.seq = .tripping ∨ s.sqc.seq = .breakerFail then
                match s.cdu.tripRequest with
                | .none => s.cdu
                | .wait => { s.cdu with tripRequest := .none, tripWait := none, retripWait := none }
                | .retripWait => { s.cdu with tripRequest := .none, tripWait := none, retripWait := none }
                | _ => { s.cdu with withdrawn := true }
              else s.cdu }
          t .handle []) ∧
    (s.tgu.handleDown = true → s.Held .hndl false →
      exec .handleUp s = .next { s with inputs := s.inputs.still .hndl, tgu := { s.tgu with handleDown := false } })

/-- R17, R137, R138: a hold whose ends-at time has come ends with a HOLD_ENDED record of its holder and reason EXPIRY; with no
element of the kind standing at F over 242 nothing more follows, and a part that is frozen keeps the release test for the
first frame step after the freeze (log 26). R17, R19, R27, R132, R138: a phase hold that ends with an element at F releases
its order at once: a trip in READY or RESET_TIMING that names every element at F whose kind is not held, with cause TIME, or
TAG_PROFILE under a tag; a ground hold alike. R17, R21: a release test put off by a freeze is made at the first frame step after it
and used up there: an element of the kind at F after the step raises the order as though it had arrived, unless a new hold stands
by then (log 26; the OCU is stepped before the other blocks, no record waits, and the counts are 0 as a freeze leaves them). -/
def Obligations.HoldsEnd : Prop :=
  (∀ (s : State) (h : Hold), s.started = true → h.endsAt = s.now →
     (s.ocu.phase.hold = some h →
       ∀ ended : RecordBody,
         ended =
           { kind := .holdEnded, peerId := some h.holder, elements := some { a := true, b := true, c := true, g := false },
             reason := some .expiry } →
         (s.mfp.stalled = true →
           exec (.holdExpiry .phase) s =
             .next
               { s with
                 ocu := { s.ocu with phase := { s.ocu.phase with hold := none, releaseDue := true } }
                 rcs := s.withRecords [ended] }) ∧
         (s.mfp.stalled = false →
           (∀ e ∈ [s.ocu.elems.a, s.ocu.elems.b, s.ocu.elems.c], e.acc < 1048576 ∨ e.m < 243) →
           exec (.holdExpiry .phase) s =
             .next
               { s with
                 ocu := { s.ocu with phase := { s.ocu.phase with hold := none } }
                 rcs := s.withRecords [ended] })) ∧
     (s.ocu.ground.hold = some h →
       ∀ ended : RecordBody,
         ended =
           { kind := .holdEnded, peerId := some h.holder, elements := some { a := false, b := false, c := false, g := true },
             reason := some .expiry } →
         (s.mfp.stalled = true →
           exec (.holdExpiry .ground) s =
             .next
               { s with
                 ocu := { s.ocu with ground := { s.ocu.ground with hold := none, releaseDue := true } }
                 rcs := s.withRecords [ended] }) ∧
         (s.mfp.stalled = false → (s.ocu.elems.g.acc < 1048576 ∨ s.ocu.elems.g.m < 243) →
           exec (.holdExpiry .ground) s =
             .next
               { s with
                 ocu := { s.ocu with ground := { s.ocu.ground with hold := none } }
                 rcs := s.withRecords [ended] }))) ∧
  (∀ (s : State) (h : Hold), s.started = true → s.ocu.phase.hold = some h → h.endsAt = s.now → s.mfp.stalled = false →
     (∃ e ∈ [s.ocu.elems.a, s.ocu.elems.b, s.ocu.elems.c], e.acc = 1048576 ∧ 243 ≤ e.m) →
     (s.sqc.seq = .ready ∨ s.sqc.seq = .resetTiming) → s.sqc.shots < s.cfg.tripsToLockout →
     ∃ t, exec (.holdExpiry .phase) s = .next t ∧ t.ocu.phase.hold = none ∧ t.ocu.ground.hold = s.ocu.ground.hold ∧
       t.ocu.elems = s.ocu.elems ∧ t.ocu.orderRaised = true ∧ t.ocu.phase.ownOrder = true ∧ t.sqc.seq = .tripping ∧
       t.sqc.shots = s.sqc.shots + 1 ∧
       ∃ trip, t.sqc.trip = some trip ∧ trip.number = s.sqc.shots + 1 ∧
         trip.cause = (if s.tagInForce = true then .tagProfile else .time) ∧
         trip.elements =
           { a := decide (s.ocu.elems.a.acc = 1048576)
             b := decide (s.ocu.elems.b.acc = 1048576)
             c := decide (s.ocu.elems.c.acc = 1048576)
             g := decide (s.ocu.elems.g.acc = 1048576 ∧ s.ocu.ground.hold = none) }) ∧
  (∀ (s : State) (h : Hold), s.started = true → s.ocu.ground.hold = some h → h.endsAt = s.now → s.mfp.stalled = false →
     s.ocu.elems.g.acc = 1048576 → 243 ≤ s.ocu.elems.g.m →
     (s.sqc.seq = .ready ∨ s.sqc.seq = .resetTiming) → s.sqc.shots < s.cfg.tripsToLockout →
     ∃ t, exec (.holdExpiry .ground) s = .next t ∧ t.ocu.ground.hold = none ∧ t.ocu.phase.hold = s.ocu.phase.hold ∧
       t.ocu.elems = s.ocu.elems ∧ t.ocu.orderRaised = true ∧ t.ocu.ground.ownOrder = true ∧ t.sqc.seq = .tripping ∧
       t.sqc.shots = s.sqc.shots + 1 ∧
       ∃ trip, t.sqc.trip = some trip ∧ trip.number = s.sqc.shots + 1 ∧
         trip.cause = (if s.tagInForce = true then .tagProfile else .time) ∧
         trip.elements =
           { a := decide (s.ocu.elems.a.acc = 1048576 ∧ s.ocu.phase.hold = none)
             b := decide (s.ocu.elems.b.acc = 1048576 ∧ s.ocu.phase.hold = none)
             c := decide (s.ocu.elems.c.acc = 1048576 ∧ s.ocu.phase.hold = none)
             g := true }) ∧
  ∀ (s : State) (bits : List LinkBit) (bytes : List Byte) (order : List Delivery), s.started = true →
    Brings s.mfp.frame bits bytes → FrameIsGood bytes → s.chc.queue = [] → (∀ e ∈ s.ocu.elems.toList, e.count = 0) →
    (s.sqc.seq = .ready ∨ s.sqc.seq = .resetTiming) → s.sqc.shots < s.cfg.tripsToLockout →
    ∃ t, exec (.measurementFrame bits (.ocu :: order)) s = .next t ∧ t.ocu.phase.releaseDue = false ∧
      t.ocu.ground.releaseDue = false ∧
      ∀ full : ElementSet,
        full =
          { a := decide (t.ocu.elems.a.acc = 1048576 ∧ s.ocu.phase.hold = none)
            b := decide (t.ocu.elems.b.acc = 1048576 ∧ s.ocu.phase.hold = none)
            c := decide (t.ocu.elems.c.acc = 1048576 ∧ s.ocu.phase.hold = none)
            g := decide (t.ocu.elems.g.acc = 1048576 ∧ s.ocu.ground.hold = none) } →
        ((s.ocu.phase.releaseDue = true ∧ (full.a = true ∨ full.b = true ∨ full.c = true)) ∨
            (s.ocu.ground.releaseDue = true ∧ full.g = true) →
          t.sqc.seq = .tripping ∧ t.sqc.shots = s.sqc.shots + 1 ∧ t.ocu.orderRaised = true ∧
          ∃ trip, t.sqc.trip = some trip ∧ trip.elements = full ∧ trip.number = s.sqc.shots + 1 ∧
            trip.cause = (if s.tagInForce = true then .tagProfile else .time)) ∧
        (full = { a := false, b := false, c := false, g := false } → t.sqc.trip = s.sqc.trip)

/-! ### The battery -/

/-- R68: a good frame sets Vf from its temperature, with the division truncated toward zero and the result clamped; a cold
start sets 2700 (R84); and nothing else changes it. That a settings restart keeps it is the model's choice (log 43), since R84 does
not name Vf among the values kept. -/
def Obligations.FloatSetpoint : Prop :=
  (∀ (s : State) (bits : List LinkBit) (bytes : List Byte) (order : List Delivery), s.started = true →
    Brings s.mfp.frame bits bytes → FrameIsGood bytes →
    ∃ t, exec (.measurementFrame bits order) s = .next t ∧
      t.btu.vf =
        (if 50 ≤ t.btu.temperature then max 2520 (2700 - 36 * (t.btu.temperature - 50).toNat / 20)
        else min 2880 (2700 + 36 * (50 - t.btu.temperature).toNat / 20)) ∧
      t.btu.temperature = (bytes.getD 17 0 ++ bytes.getD 18 0).toInt) ∧
  (∀ (s : State) (settings store : MemRead) (inputs : InputLevels) (order : List Delivery),
    ∃ t, exec (.coldStart settings store inputs [] order) s = .next t ∧ t.btu.vf = 2700) ∧
  ∀ (c : Instr) (s t : State), exec c s = .next t → (∀ a b i k o, c ≠ .coldStart a b i k o) →
    (∀ bits order, c = .measurementFrame bits order → ∃ bytes, Brings s.mfp.frame bits bytes ∧ ¬ FrameIsGood bytes) →
    t.btu.vf = s.btu.vf

/-- R70 to R72, R74: the reserve state after a good frame, from AC-present, the state before and the battery V delivered, row by
row; the discharged mark, the low-voltage timer and, with no test running and none begun at the arrival, the taper timer follow,
the reserve state judged before the low-voltage test of the same frame (log 48). R34, R41, R51, R73, R119, R120: what a change
hands out, with the BTU taking its values first, no test running, no element PICKED or picking up, the close capacitor below
360, no release test standing and no record waiting: the RESERVE_CHANGE record, and after it (log 6, R163 leaves the order open)
the lockout of CLOSE_CHARGE with BATTERY and of a waiting operator close with CLOSE_ENERGY where the state is CRITICAL, which
ends close charging; and the beacon timer that is idle, respanned or drawn. -/
def Obligations.ReserveJudgement : Prop :=
  ∀ (s : State) (bits : List LinkBit) (bytes : List Byte) (order : List Delivery), s.started = true →
    Brings s.mfp.frame bits bytes → FrameIsGood bytes →
    ∃ t, exec (.measurementFrame bits order) s = .next t ∧
      t.btu.reserve =
        (if s.btu.reserve = .disconnect then .disconnect
        else if s.btu.acPresent = true then .normal
        else if t.btu.battV < 2300 then .critical
        else if s.btu.reserve = .critical ∧ t.btu.battV < 2330 then .critical
        else if s.btu.reserve = .normal ∧ 2440 ≤ t.btu.battV then .normal
        else if 2470 ≤ t.btu.battV then .normal
        else .reserve) ∧
      t.btu.discharged = (s.btu.discharged || (s.btu.reserve == .normal && t.btu.reserve != .normal)) ∧
      t.btu.lowVoltage =
        (if 2100 ≤ t.btu.battV ∨ (s.btu.reserve = .critical ∧ t.btu.reserve ≠ .critical) then none
        else if t.btu.reserve = .critical ∧ s.btu.lowVoltage = none ∧ s.btu.shutdownPending = false then some 10000
        else s.btu.lowVoltage) ∧
      (s.quietTest → (Delivery.test ∉ order ∨ s.btu.test = .idle) →
        t.btu.taper =
          (if s.btu.charger ≠ Charger.boost then s.btu.taper
          else if t.btu.battI < 50 then some (s.btu.taper.getD 60000) else none)) ∧
      t.btu.acPresent = s.btu.acPresent ∧
      (∀ others, order = .btu :: others → t.btu.reserve ≠ s.btu.reserve → s.quietTest → s.chc.queue = [] →
        (∀ e ∈ s.ocu.elems.toList, e.picked = false) →
        (∀ f ∈ [((measFields bytes).ia, s.cfg.pickupPh), ((measFields bytes).ib, s.cfg.pickupPh),
          ((measFields bytes).ic, s.cfg.pickupPh), ((measFields bytes).ig, s.cfg.pickupGd)], f.1 * 256 / f.2 < 256) →
        (∀ q ∈ [s.cfg.instPh, s.cfg.instGd, s.cfg.tagInst], q = 0 ∨ 512 ≤ q) →
        s.ocu.phase.releaseDue = false → s.ocu.ground.releaseDue = false → (measFields bytes).closeV < 360 →
        ∀ (reason : Option LockReason) (passes : Bool), reason = reserveLocks s.sqc t.btu.reserve →
          passes = beaconPasses s.cfg s.btu.reserve t.btu.reserve s.btu.shutdownPending s.now s.pru.beacon →
          t.rcs =
            s.withRecords
              ({ kind := .reserveChange, reserve := some t.btu.reserve, battV := some t.btu.battV } ::
                reason.toList.map fun r => lockoutRecord r s.sqc.shots) ∧
          t.sqc =
            { (match reason with
                | some r => { s.sqc.moved .lockout (some r) with manualWindow := none, stepped := false }
                | none => s.sqc) with
              sourcePresent := t.sqc.sourcePresent
              memory := t.sqc.memory } ∧
          (t.btu.reserve = .critical → t.cdu.ccen = false ∧ t.cdu.closeCharge = none) ∧
          t.pru =
            { s.pru with
              pace := none
              nextSeq := if reason ≠ none ∨ passes = true then s.pru.nextSeq + 1 else s.pru.nextSeq
              lastEvent := if reason ≠ none then s.pru.nextSeq else s.pru.lastEvent
              beacon := beaconFollowed s.cfg s.btu.reserve t.btu.reserve s.btu.shutdownPending s.now
                (nextLfsr s.chc.lfsr) s.pru.beacon })

/-- R67, R69 to R73: AC returning, with the reserve state NORMAL: BOOST with its 8 h when the discharged mark is set, FLOAT
otherwise; from RESERVE or CRITICAL the state becomes NORMAL with its record, and the beacon timer is respanned or drawn (R120).
AC going: OFF, with both charge timers idle. Below 2440 the state becomes RESERVE or CRITICAL, and with its record (the LOCKOUT
record after it: log 6) CRITICAL locks out CLOSE_CHARGE with BATTERY and a waiting operator close with CLOSE_ENERGY, and ends
close charging (R34, R41, R51); the beacon timer is respanned or idle. No test runs; a level that is no change changes nothing.
R84: before the first good frame an AC change judges no reserve state. R69 and R71: the setpoint word's end, after which a word
follows only where the target differs from it (log 47), the taper timer's expiry, and the boost limit's expiry outside a test
and within one. -/
def Obligations.ChargerFollowsAcAndTimers : Prop :=
  (∀ s : State, s.started = true → s.quietTest →
     (s.btu.acPresent = false → s.Held .acp true →
       (s.btu.reserve = .normal → s.btu.discharged = true →
         exec (.acPresentChange true) s =
           .next
             { s with
               inputs := s.inputs.still .acp
               btu :=
                 { s.btu with
                   acPresent := true, charger := .boost, boostLimit := some 28800000, taper := none,
                   discharged := false }.sends }) ∧
       (s.btu.reserve = .normal → s.btu.discharged = false →
         exec (.acPresentChange true) s =
           .next
             { s with
               inputs := s.inputs.still .acp, btu := { s.btu with acPresent := true, charger := .float }.sends }) ∧
       (s.btu.measured = true → (s.btu.reserve = .reserve ∨ s.btu.reserve = .critical) →
         ∃ t, exec (.acPresentChange true) s = .next t ∧ t.btu.reserve = .normal ∧ t.btu.acPresent = true ∧
           t.btu.charger = (if s.btu.discharged = true then .boost else .float) ∧ t.btu.discharged = false ∧
           t.btu.lowVoltage = (if s.btu.reserve = .critical then none else s.btu.lowVoltage) ∧
           t.rcs = s.withRecords [{ kind := .reserveChange, reserve := some .normal, battV := some s.btu.battV }] ∧
           t.ocu = s.ocu ∧ t.sqc = s.sqc ∧ t.tgu = s.tgu ∧ t.mfp = s.mfp ∧ t.inputs = s.inputs.still .acp ∧
           t.pru =
             { s.pru with
               nextSeq :=
                 if beaconPasses s.cfg s.btu.reserve .normal s.btu.shutdownPending s.now s.pru.beacon = true
                 then s.pru.nextSeq + 1 else s.pru.nextSeq
               beacon := beaconFollowed s.cfg s.btu.reserve .normal s.btu.shutdownPending s.now (nextLfsr s.chc.lfsr)
                 s.pru.beacon })) ∧
     (s.btu.acPresent = true → s.Held .acp false → s.btu.measured = true → s.btu.reserve = .normal → s.btu.battV < 2440 →
       ∀ (new : Reserve) (reason : Option LockReason) (passes : Bool),
         new = (if s.btu.battV < 2300 then .critical else .reserve) → reason = reserveLocks s.sqc new →
         passes = beaconPasses s.cfg .normal new s.btu.shutdownPending s.now s.pru.beacon →
         ∃ t, exec (.acPresentChange false) s = .next t ∧
           t =
             { s with
               inputs := s.inputs.still .acp
               btu :=
                 { ({ s.btu with acPresent := false, charger := .off, taper := none, boostLimit := none } : Btu).sends with
                   reserve := new
                   discharged := true }
               cdu :=
                 s.cdu.charged (s.tripSupply && s.cdu.pulse != Pulse.trip)
                   (new != .critical && s.closeSupply && !s.cdu.closeBarred && s.cdu.pulse != Pulse.close)
               sqc :=
                 match reason with
                 | some r => { s.sqc.moved .lockout (some r) with manualWindow := none, stepped := false }
                 | none => s.sqc
               rcs := s.withRecords
                 ({ kind := .reserveChange, reserve := some new, battV := some s.btu.battV } ::
                   reason.toList.map fun r => lockoutRecord r s.sqc.shots)
               pru :=
                 { s.pru with
                   nextSeq := if reason ≠ none ∨ passes = true then s.pru.nextSeq + 1 else s.pru.nextSeq
                   lastEvent := if reason ≠ none then s.pru.nextSeq else s.pru.lastEvent
                   beacon := beaconFollowed s.cfg .normal new s.btu.shutdownPending s.now (nextLfsr s.chc.lfsr)
                     s.pru.beacon }
               chc := t.chc } ∧
           (∀ r, reason = some r → s.cfg.stationId ≠ 0 → s.chc.queued < 8 →
             t.chc.front =
               s.chc.front ++
                 reportEntries s.pru.nextSeq [(.lockout, beBytes 1 r.code ++ beBytes 1 s.sqc.shots)])) ∧
     (s.btu.acPresent = true → s.Held .acp false → (s.btu.measured = false ∨ (s.btu.reserve = .normal ∧ 2440 ≤ s.btu.battV)) →
       exec (.acPresentChange false) s =
         .next
           { s with
             inputs := s.inputs.still .acp
             btu := { s.btu with acPresent := false, charger := .off, taper := none, boostLimit := none }.sends }) ∧
     exec (.acPresentChange s.btu.acPresent) s = .next s) ∧
  (∀ s : State, s.started = true →
     (∀ word, s.btu.sending = some word →
       exec .setpointWordSent s = .next { s with btu := { s.btu with setpointSent := word, sending := none }.sends }) ∧
     (s.btu.taper = some 0 →
       exec .taperTimerExpiry s =
         .next { s with btu := { s.btu with taper := none, boostLimit := none, charger := .float }.sends }) ∧
     (s.btu.boostLimit = some 0 →
       (s.quietTest →
         exec .boostLimitExpiry s =
           .next { s with btu := { s.btu with taper := none, boostLimit := none, charger := .float }.sends }) ∧
       (¬ s.quietTest →
         exec .boostLimitExpiry s = .next { s with btu := { s.btu with boostLimit := none, resumeBoost := false } })))

/-- R74, R75, R93, R117, R120: the low-voltage timer's expiry sets shutdown pending: the disconnect timer runs 5 s, the
SHUTDOWN record and report carry battery V, the Status entries not in service are lost, and the beacon timer is idle. R31,
R51, R73, R75: the disconnect timer's expiry releases the contactor: the reserve state is DISCONNECT with no record, and both
charge enables are off. -/
def Obligations.ShutdownAndDisconnect : Prop :=
  ∀ s : State, s.started = true →
    (s.btu.lowVoltage = some 0 →
      ∃ t, exec .lowVoltageTimerExpiry s = .next t ∧
        t =
          { s with
            btu := { s.btu with lowVoltage := none, shutdownPending := true, disconnect := some 5000 }
            rcs := s.withRecords [{ kind := .shutdown, battV := some s.btu.battV }]
            pru := { s.pru with nextSeq := s.pru.nextSeq + 1, lastEvent := s.pru.nextSeq, beacon := none }
            chc := t.chc } ∧
        t.chc.status = s.chc.status.filter (fun e => e.inService) ∧
        (s.cfg.stationId ≠ 0 → s.chc.queued < 8 →
          t.chc.front = s.chc.front ++ reportEntries s.pru.nextSeq [(.shutdown, beBytes 2 s.btu.battV)] ∧
          t.chc.reportsLost =
            min 255 (s.chc.reportsLost + (s.chc.status.filter (fun e => !e.inService)).length))) ∧
    (s.btu.disconnect = some 0 → s.btu.reserve ≠ .disconnect →
      exec .disconnectTimerExpiry s =
        .next
          { s with
            btu := { s.btu with reserve := .disconnect, disconnect := none }
            cdu := { s.cdu with tcen := false, ccen := false, closeCharge := none } })

/-- R76, R77, R149, R171: the schedule timer's expiry sets schedule due; a scheduled request waits for NORMAL and FLOAT and
clears it; and a request from each source moves an IDLE test to PENDING or joins the sources of one that is asked for. R71,
R78, R79: a PENDING test whose conditions hold at a moment of testing (log 34) goes to SETTLE with the charger OFF and no value
of this test taken yet (log 23); the settle timer's expiry takes V0 and puts the load on for 10 s. -/
def Obligations.BatteryTestIsAskedAndStarts : Prop :=
  (∀ s : State, s.started = true →
     (s.btu.schedule = some 0 →
       exec .scheduleTimerExpiry s = .next { s with btu := { s.btu with schedule := none, scheduleDue := true } }) ∧
     (s.btu.scheduleDue = true → s.btu.reserve = .normal → s.btu.charger = .float →
       exec .scheduledTestRequest s =
         .next { s with btu := { s.btu with scheduleDue := false }.asked false false true }) ∧
     ((s.btu.scheduleDue = false ∨ s.btu.reserve ≠ .normal ∨ s.btu.charger ≠ .float) →
       exec .scheduledTestRequest s = .next s) ∧
     (s.svp.service = .listen →
       exec .batteryTest s =
         .next { s with btu := s.btu.asked false true false, svp := s.svp.answered 0x30#8 0 [] }) ∧
     (s.tgu.keys.battery = false → s.Held .batteryKey true →
       exec (.batteryTestKey true) s =
         .next
           { s with
             inputs := s.inputs.still .batteryKey
             btu := s.btu.asked true false false
             tgu := { s.tgu with keys := { s.tgu.keys with battery := true } } }) ∧
     (s.tgu.keys.battery = true → s.Held .batteryKey false →
       exec (.batteryTestKey false) s =
         .next
           { s with
             inputs := s.inputs.still .batteryKey
             tgu := { s.tgu with keys := { s.tgu.keys with battery := false } } })) ∧
  (∀ s : State, s.started = true →
     (s.btu.test = .pending → s.btu.testMoment = true → s.btu.acPresent = true → s.btu.reserve = .normal →
       s.sqc.seq = .ready → (∀ e ∈ s.ocu.elems.toList, e.picked = false) → s.cdu.tripReady = true →
       s.cdu.closeReady = true → s.cdu.pulse = .none →
       exec .testStart s =
         .next
           { s with
             btu :=
               { s.btu with
                 test := .settle, testMoment := false, resumeBoost := decide (s.btu.charger = Charger.boost), taper := none,
                 settle := some 5000, v0 := none, v1 := none, i1 := none, charger := .off }.sends }) ∧
     ((s.btu.test ≠ .pending ∨ s.btu.acPresent = false ∨ s.btu.reserve ≠ .normal ∨ s.sqc.seq ≠ .ready ∨
         (∃ e ∈ s.ocu.elems.toList, e.picked = true) ∨ s.cdu.tripReady = false ∨ s.cdu.closeReady = false ∨
         s.cdu.pulse ≠ .none) →
       exec .testStart s = .next s) ∧
     (s.btu.settle = some 0 →
       exec .settleTimerExpiry s =
         .next
           { s with
             btu := { s.btu with test := .loaded, settle := none, load := some 10000, v0 := some s.btu.battV } }))

/-- R77, R80, R81, R83: the load timer's expiry: V1 and I1 are taken, the resistance and the verdict follow, the BATTERY_TEST
record carries them, battery failed shows the verdict, the schedule starts again, and the charger resumes while AC is present.
I1 is the negation of battery I but for −32768, where the manual gives none and it is free (log 13). -/
def Obligations.LoadTestVerdict : Prop :=
  ∀ (s : State) (v0 : Nat), s.started = true → s.btu.load = some 0 → s.btu.v0 = some v0 →
    ∃ i1 : Int, (s.btu.battI ≠ -32768 → i1 = -s.btu.battI) ∧
      ∀ (resistance : Option Nat) (verdict : TestResult),
        resistance = (if i1 < 1 then none else some (min 65535 ((v0 - s.btu.battV) * 1000 / i1.toNat))) →
        verdict =
          (if (∃ r, resistance = some r ∧ r ≤ s.cfg.resistanceLimit) ∧ 2280 ≤ s.btu.battV then .pass else .fail) →
        ∃ t, exec .loadTimerExpiry s = .next t ∧
          t =
            { s with
              free := t.free
              btu := t.btu
              rcs := s.withRecords
                [{ kind := .batteryTest
                   outcome := some { result := verdict, sources := s.btu.sources }
                   v0 := some v0
                   v1 := some s.btu.battV
                   i1 := some i1
                   resistance := resistance }] } ∧
          t.btu.failed = decide (verdict = .fail) ∧ t.btu.lastResult = some verdict ∧ t.btu.lastResistance = resistance ∧
          t.btu.v1 = some s.btu.battV ∧ t.btu.i1 = some i1 ∧ t.btu.test = .idle ∧ t.btu.load = none ∧
          t.btu.sources = { panel := false, service := false, schedule := false } ∧
          t.btu.schedule = (if s.cfg.schedule = 0 then none else some (s.cfg.schedule * 86400000)) ∧
          t.btu.charger =
            (if s.btu.acPresent = true then (if s.btu.resumeBoost = true then Charger.boost else Charger.float) else s.btu.charger) ∧
          t.btu.reserve = s.btu.reserve ∧ t.btu.boostLimit = s.btu.boostLimit ∧ t.btu.discharged = s.btu.discharged

/-- R12, R78, R82, R83: no step leaves a running test outside READY or beside a PICKED element, nor one of its timers running outside
its own phase, so that every trip order and every sequence step finds it abandoned already, by the first pickup or with READY
left. It is abandoned by a stall, by AC going, by a
first pickup, by an operator trip and an unexplained open, which leave READY, and by the handle going down in READY, where the
first of its two causes taken is the one recorded: the BATTERY_TEST record carries the sources, V0 when it was taken and the cause, and the test
returns to PENDING with its sources kept. It stands before every other record of the event (log 6, R163 leaves the order
open). A PENDING test whose conditions hold at a frame's arrival is begun there when the BTU comes first and abandoned by the
frame's own first pickup, and stays PENDING when the OCU comes first (the BTU's place in the order: log 7). -/
def Obligations.RunningTestIsAbandoned : Prop :=
  (∀ s t : State, s.TestSound → step s = .next t → t.TestSound) ∧
  (∀ s : State, s.started = true → (s.btu.test = .settle ∨ s.btu.test = .loaded) → s.btu.v1 = none → s.btu.i1 = none →
    ∀ (c : Instr) (cause : Reason),
      ((c = .stalled ∧ s.mfp.stallTimer = some 0 ∧ s.mfp.stalled = false ∧ cause = .lock .measurement) ∨
        (c = .acPresentChange false ∧ s.btu.acPresent = true ∧ s.Held .acp false ∧ cause = .acLoss) ∨
        (c = .handleDown true ∧ s.tgu.handleDown = false ∧ s.Held .hndl true ∧ s.sqc.seq = .ready ∧ cause = .lock .handle) ∨
        (c = .handleDown false ∧ s.tgu.handleDown = false ∧ s.Held .hndl true ∧ s.sqc.seq = .ready ∧ cause = .sequence) ∨
        (c = .tripKey true ∧ s.tgu.keys.trip = false ∧ s.Held .tripKey true ∧ s.sqc.seq = .ready ∧ cause = .sequence) ∨
        (c = .operatorTrip ∧ s.svp.service = .listen ∧ s.sqc.seq = .ready ∧ cause = .sequence) ∨
        ((∃ clearFirst, c = .contactChange .openContact true clearFirst) ∧ s.Held .poso true ∧ s.cdu.closedMade = false ∧
          s.cdu.openMade = false ∧ s.cdu.lastClosed = true ∧ s.cdu.tripRequest = .none ∧ s.sqc.seq = .ready ∧
          cause = .sequence) ∨
        (∃ (bits : List LinkBit) (bytes : List Byte) (order : List Delivery), c = .measurementFrame bits (.ocu :: order) ∧
          Brings s.mfp.frame bits bytes ∧ FrameIsGood bytes ∧ Delivery.test ∉ order ∧
          (∀ e ∈ s.ocu.elems.toList, e.picked = false) ∧ cause = .pickup ∧
          ∃ f ∈ [((measFields bytes).ia, s.cfg.pickupPh), ((measFields bytes).ib, s.cfg.pickupPh),
            ((measFields bytes).ic, s.cfg.pickupPh), ((measFields bytes).ig, s.cfg.pickupGd)], 256 ≤ f.1 * 256 / f.2)) →
      ∃ t, exec c s = .next t ∧ t.btu.test = .pending ∧ t.btu.sources = s.btu.sources ∧ t.btu.settle = none ∧
        t.btu.load = none ∧ t.btu.lastResult = some .abandoned ∧ t.btu.lastResistance = none ∧
        t.btu.failed = s.btu.failed ∧
        t.btu.schedule = (if s.cfg.schedule = 0 then none else some (s.cfg.schedule * 86400000)) ∧
        t.btu.charger =
          (if t.btu.acPresent = true then (if s.btu.resumeBoost = true then Charger.boost else Charger.float)
          else if s.btu.acPresent = true then Charger.off else s.btu.charger) ∧
        ∃ after : List RecordBody, t.rcs =
          s.withRecords
            ({ kind := .batteryTest
               outcome := some { result := .abandoned, sources := s.btu.sources }
               reason := some cause
               v0 := s.btu.v0 } :: after)) ∧
  ∀ (s : State) (bits : List LinkBit) (bytes : List Byte) (order : List Delivery), s.started = true →
    Brings s.mfp.frame bits bytes → FrameIsGood bytes → Delivery.test ∉ order →
    (∃ f ∈ [((measFields bytes).ia, s.cfg.pickupPh), ((measFields bytes).ib, s.cfg.pickupPh),
      ((measFields bytes).ic, s.cfg.pickupPh), ((measFields bytes).ig, s.cfg.pickupGd)], 256 ≤ f.1 * 256 / f.2) →
    s.btu.test = .pending → s.btu.acPresent = true → s.btu.reserve = .normal → s.sqc.seq = .ready →
    (∀ e ∈ s.ocu.elems.toList, e.picked = false) → s.cdu.tripReady = true → s.cdu.closeReady = true →
    s.cdu.pulse = .none →
    (∃ t, exec (.measurementFrame bits (.test :: .ocu :: order)) s = .next t ∧ t.btu.test = .pending ∧
      t.btu.sources = s.btu.sources ∧ t.btu.lastResult = some .abandoned ∧ t.btu.settle = none ∧
      ∃ after : List RecordBody, t.rcs =
        s.withRecords
          ({ kind := .batteryTest
             outcome := some { result := .abandoned, sources := s.btu.sources }
             reason := some .pickup } :: after)) ∧
    (∃ t, exec (.measurementFrame bits (.ocu :: .test :: order)) s = .next t ∧ t.btu.test = .pending ∧
      t.btu.sources = s.btu.sources ∧ t.btu.lastResult = s.btu.lastResult ∧ t.btu.settle = s.btu.settle)

/-! ### The channel -/

/-- R89, R94 to R97: 60 ms of quiet channel in DEFER go to BACKOFF, with the kept count or with a draw in the window of the
first servable entry's class; a count at 0, also one just drawn or kept (log 22), goes to KEY_UP, where the first servable entry
is in service for up to 100 ms. -/
def Obligations.ChannelAccess : Prop :=
  ∀ (s : State) (e : TxEntry), s.started = true →
    (s.chc.tx = .defer → s.chc.quiet = 60 → (s.chc.front ++ s.chc.status).find? s.servable = some e →
      (s.chc.backoff = none →
        ∀ (drawn : Word16) (window : Nat),
          drawn = (if s.chc.lfsr.getLsbD 0 = true then (s.chc.lfsr >>> 1) ^^^ 0xB400#16 else s.chc.lfsr >>> 1) →
          window = (if e.kind = .beacon then 16 else 4) →
          exec .quietCountEnd s =
            .next
              { s with
                chc :=
                  { s.chc with
                    tx := .backoff, slot := some 20, lfsr := drawn,
                    backoff := some { count := drawn.toNat % window, window := window } } }) ∧
      (s.chc.backoff ≠ none →
        exec .quietCountEnd s = .next { s with chc := { s.chc with tx := .backoff, slot := some 20 } })) ∧
    (∀ (window : Nat) (rest : List TxEntry), s.chc.tx = .backoff → s.chc.backoff = some { count := 0, window := window } →
      (s.chc.front = e :: rest → e.kind ≠ .beacon →
        exec .backoffEnd s =
          .next
            { s with
              chc :=
                { s.chc with
                  tx := .keyUp, backoff := none, slot := none, readyTimer := some 100,
                  front := { e with inService := true } :: rest } }) ∧
      (s.chc.front = [] → s.chc.status = e :: rest → (s.btu.reserve = .normal ∨ s.btu.reserve = .reserve) →
        s.btu.shutdownPending = false →
        exec .backoffEnd s =
          .next
            { s with
              chc :=
                { s.chc with
                  tx := .keyUp, backoff := none, slot := none, readyTimer := some 100,
                  status := { e with inService := true } :: rest } }))

/-- R86, R97, R99: RADIO READY seen in KEY_UP goes to SENDING with the frame of the entry in service and 250 ms of jabber
timer; elsewhere RRDY is a level. RRDY falling in SENDING with latch-ready off, and absent at the READY test before the next
byte, ends the frame there and puts the abort bytes in place of the rest; a fall with no byte left to test, one that is over by
the next test, and one with the ready latch set change nothing but the level (what a fall brings with it: log 42). R94, R100: the
key-down timer's expiry releases KEY and clears the ready latch; a servable entry is waited for in DEFER, and without one the transmitter is IDLE with no count kept. -/
def Obligations.RadioReadyAndKeyRelease : Prop :=
  (∀ (s : State) (e : TxEntry), s.started = true →
     (s.chc.tx = .keyUp → (s.chc.front ++ s.chc.status).find? (fun x => x.inService) = some e →
       exec .radioReadySeen s =
         .next
           { s with
             chc :=
               { s.chc with
                 tx := .sending, rrdy := true, readyTimer := none, readyLatch := s.cfg.options.getLsbD 2,
                 jabber := some 250, airFrame := airBytes (s.cfg.radioBody e), aborting := false } }) ∧
     (s.chc.tx ≠ .keyUp → exec .radioReadySeen s = .next { s with chc := { s.chc with rrdy := true } }) ∧
     ∀ (sent : Nat) (back : Bool),
       (s.chc.tx = .sending → s.cfg.options.getLsbD 2 = false → s.chc.aborting = false → sent < s.chc.airFrame.length →
         back = false →
         exec (.readyDrop sent back) s =
           .next
             { s with
               chc := { s.chc with rrdy := false, airFrame := s.chc.airFrame.take sent, aborting := true } }) ∧
       ((s.chc.tx ≠ .sending ∨ s.chc.aborting = true ∨ s.chc.airFrame.length ≤ sent ∨
           (back = true ∧ s.cfg.options.getLsbD 2 = false) ∨ (s.cfg.options.getLsbD 2 = true ∧ s.chc.readyLatch = true)) →
         exec (.readyDrop sent back) s = .next { s with chc := { s.chc with rrdy := back } })) ∧
  (∀ s : State, s.started = true → s.chc.tx = .keyDown → s.chc.keyDown = some 0 →
     ∀ released : Chc,
       released =
         { s.chc with
           readyTimer := none, jabber := none, keyDown := none, readyLatch := false, airFrame := [], aborting := false,
           quiet := 0, slot := none } →
       exec .keyDownExpiry s =
         .next
           { s with
             chc :=
               if (s.chc.front ++ s.chc.status).any s.servable = true then { released with tx := .defer }
               else { released with tx := .idle, backoff := none } })

/-- R97 to R100: the ready timer's expiry and the second abort byte are failed attempts: the attempts of the entry in service
rise and it keeps its place, and a third failure loses it with a RADIO_NOT_READY record of the cause; the first releases KEY
at once and goes to DEFER, the second goes to KEY_DOWN. The entry is a Fault or Crew one at the head of the queue, or the
BEACON, which (R93) leaves the queue at its failed attempt once shutdown pending is set. -/
def Obligations.FailedAttempts : Prop :=
  (∀ (s : State) (e : TxEntry) (rest : List TxEntry), s.started = true → s.chc.front = e :: rest → e.inService = true →
    e.kind ≠ .beacon → (∀ x ∈ rest ++ s.chc.status, x.inService = false) →
    ∀ (c : Instr) (cause : Reason),
      ((c = .readyTimerExpiry ∧ s.chc.tx = .keyUp ∧ s.chc.readyTimer = some 0 ∧ cause = .noReady) ∨
        (c = .abortSent ∧ s.chc.tx = .sending ∧ s.chc.aborting = true ∧ cause = .readyDrop)) →
      ∃ t, exec c s = .next t ∧ t.chc.attemptsFailed = min 65535 (s.chc.attemptsFailed + 1) ∧
        t.chc.status = s.chc.status ∧ t.chc.aborting = false ∧ t.chc.airFrame = [] ∧ t.chc.jabber = none ∧
        (c = .readyTimerExpiry → t.chc.readyTimer = none ∧ t.chc.readyLatch = false ∧
          (e.attempts < 2 → t.chc.tx = .defer ∧ t.chc.quiet = 0)) ∧
        (c = .abortSent → t.chc.tx = .keyDown ∧ t.chc.keyDown = some 10) ∧
        (e.attempts < 2 →
          t.chc.front = { e with attempts := e.attempts + 1, inService := false } :: rest ∧
          t.chc.reportsLost = s.chc.reportsLost ∧ t.rcs = s.rcs) ∧
        (2 ≤ e.attempts →
          t.chc.front = rest ∧ t.chc.reportsLost = min 255 (s.chc.reportsLost + 1) ∧
          t.rcs = s.withRecords [{ kind := .radioNotReady, reason := some cause }]) ∧
        t = { s with chc := t.chc, rcs := t.rcs }) ∧
  ∀ (s : State) (e : TxEntry), s.started = true → s.chc.status = [e] → e.inService = true → e.kind = .beacon →
    (∀ x ∈ s.chc.front, x.inService = false) →
    ∀ (c : Instr) (cause : Reason),
      ((c = .readyTimerExpiry ∧ s.chc.tx = .keyUp ∧ s.chc.readyTimer = some 0 ∧ cause = .noReady) ∨
        (c = .abortSent ∧ s.chc.tx = .sending ∧ s.chc.aborting = true ∧ cause = .readyDrop)) →
      ∃ t, exec c s = .next t ∧ t.chc.attemptsFailed = min 65535 (s.chc.attemptsFailed + 1) ∧ t.chc.front = s.chc.front ∧
        t.chc.aborting = false ∧ t.chc.airFrame = [] ∧ t.chc.jabber = none ∧
        (c = .readyTimerExpiry → t.chc.readyTimer = none ∧ t.chc.readyLatch = false ∧
          t.chc.tx = (if (s.chc.front ++ t.chc.status).any s.servable = true then .defer else .idle)) ∧
        (c = .abortSent → t.chc.tx = .keyDown ∧ t.chc.keyDown = some 10) ∧
        (e.attempts < 2 → s.btu.shutdownPending = false →
          t.chc.status = [{ e with attempts := e.attempts + 1, inService := false }] ∧
          t.chc.reportsLost = s.chc.reportsLost ∧ t.rcs = s.rcs) ∧
        (e.attempts < 2 → s.btu.shutdownPending = true →
          t.chc.status = [] ∧ t.chc.reportsLost = min 255 (s.chc.reportsLost + 1) ∧ t.rcs = s.rcs) ∧
        (2 ≤ e.attempts →
          t.chc.status = [] ∧ t.chc.reportsLost = min 255 (s.chc.reportsLost + 1) ∧
          t.rcs = s.withRecords [{ kind := .radioNotReady, reason := some cause }]) ∧
        t = { s with chc := t.chc, rcs := t.rcs }

/-- R75, R92, R100: a copy sent is counted; with copies left the entry rejoins at the tail of its part with attempts 0, else it
leaves; the transmitter goes to KEY_DOWN for 10 ms, and a SHUTDOWN copy releases the contactor. R101: the jabber expiry loses
the entry with a CHANNEL_FAULT record and releases KEY. The entry is a Fault or Crew one, or the BEACON. -/
def Obligations.CopySentAndJabber : Prop :=
  ∀ (s : State) (e : TxEntry) (front status : List TxEntry), s.started = true → s.chc.tx = .sending →
    ((s.chc.front = e :: front ∧ s.chc.status = status ∧ e.kind ≠ .beacon) ∨
      (s.chc.front = front ∧ s.chc.status = e :: status ∧ e.kind = .beacon)) →
    e.inService = true → (∀ x ∈ front ++ status, x.inService = false) →
    (s.chc.aborting = false →
      ∀ (again : List TxEntry) (sent : State),
        again = (if e.copies ≤ 1 then [] else [{ e with copies := e.copies - 1, attempts := 0, inService := false }]) →
        sent =
          { s with
            chc :=
              { s.chc with
                front := if e.kind = .beacon then front else front ++ again
                status := if e.kind = .beacon then status ++ again else status
                framesSent := min 65535 (s.chc.framesSent + 1)
                tx := .keyDown
                jabber := none
                keyDown := some 10
                airFrame := [] } } →
        exec .copySent s =
          .next
            (if e.kind = .shutdown ∧ s.btu.reserve ≠ .disconnect then
              { sent with
                btu := { s.btu with reserve := .disconnect, disconnect := none }
                cdu := { s.cdu with tcen := false, ccen := false, closeCharge := none } }
            else sent)) ∧
    (s.chc.jabber = some 0 →
      ∃ t, exec .jabberExpiry s = .next t ∧ t.chc.front = front ∧ t.chc.status = status ∧
        t.chc.reportsLost = min 255 (s.chc.reportsLost + 1) ∧ t.deaf = false ∧ t.chc.readyTimer = none ∧
        t.chc.jabber = none ∧ t.chc.keyDown = none ∧ t.chc.readyLatch = false ∧ t.chc.backoff = none ∧
        t.chc.tx = (if (front ++ status).any s.servable = true then .defer else .idle) ∧
        t.chc.lfsr = s.chc.lfsr ∧ t.chc.rx = s.chc.rx ∧ t.chc.queue = s.chc.queue ∧
        t = { s with chc := t.chc, rcs := s.withRecords [{ kind := .channelFault, reason := some .jabber }] })

/-- R95, R102 to R106: CARR lost with the latch set, and 5 byte-times without a byte, end a reception: in SYNC1 without count,
in BODY as an abort; so does a framing error; a raw 0xB4 in BODY is an abort that goes to SYNC1; CARR present out of HUNT sets
the latch; a deaf receiver takes none of it; and bytes other than 0xB4 pass through HUNT. R105, R106: after an escape byte
anything but 0x94 and 0x85, and a length over 40, are aborts. R107, R108: a body that is complete returns to HUNT: with a wrong
check it is a check failure, of another feeder or with the own id it passes uncounted, and with 6 records held it is an
overrun. -/
def Obligations.ReceptionsEnd : Prop :=
  ∀ s : State, s.started = true →
    (s.deaf = false →
      ∀ hunting aborted : Chc,
        hunting = { s.chc with rx := .hunt, escape := false, latch := false, body := [] } →
        aborted = { hunting with receiveAborts := min 65535 (s.chc.receiveAborts + 1) } →
        (s.chc.rx = .sync1 → exec .receiveGapTimeout s = .next { s with chc := hunting }) ∧
        (s.chc.rx = .body → exec .receiveGapTimeout s = .next { s with chc := aborted }) ∧
        (s.chc.rx = .body → s.chc.carr = true → s.chc.latch = true →
          exec (.carrierChange false) s = .next { s with chc := { aborted with carr := false } }) ∧
        (s.chc.rx = .body → s.chc.carr = false → s.chc.tx = .idle →
          exec (.carrierChange true) s = .next { s with chc := { s.chc with carr := true, latch := true } } ∧
          exec (.radioByte .framingError) s = .next { s with chc := aborted } ∧
          exec (.radioByte (.byte 0xB4#8)) s = .next { s with chc := { aborted with rx := .sync1 } } ∧
          ∀ b : Byte, b ≠ 0xB4#8 →
            (s.chc.escape = true → b ≠ 0x94#8 → b ≠ 0x85#8 → exec (.radioByte (.byte b)) s = .next { s with chc := aborted }) ∧
            ∀ (body : List Byte) (length : Nat),
              ((s.chc.escape = false ∧ b ≠ 0xA5#8 ∧ body = s.chc.body ++ [b]) ∨
                (s.chc.escape = true ∧ b = 0x94#8 ∧ body = s.chc.body ++ [0xB4#8]) ∨
                (s.chc.escape = true ∧ b = 0x85#8 ∧ body = s.chc.body ++ [0xA5#8])) →
              length = (body.getD 5 0).toNat →
              (6 ≤ body.length → 40 < length → exec (.radioByte (.byte b)) s = .next { s with chc := aborted }) ∧
              (6 ≤ body.length → length ≤ 40 → body.length = length + 8 →
                ((crc16 (body.take (length + 6))).toNat ≠
                    (body.getD (length + 6) 0).toNat * 256 + (body.getD (length + 7) 0).toNat →
                  exec (.radioByte (.byte b)) s =
                    .next { s with chc := { hunting with checkFailures := min 65535 (s.chc.checkFailures + 1) } }) ∧
                ((crc16 (body.take (length + 6))).toNat =
                    (body.getD (length + 6) 0).toNat * 256 + (body.getD (length + 7) 0).toNat →
                  (((body.getD 0 0).toNat ≠ s.cfg.feeder ∨ (body.getD 1 0).toNat = s.cfg.stationId) →
                    exec (.radioByte (.byte b)) s = .next { s with chc := hunting }) ∧
                  ((body.getD 0 0).toNat = s.cfg.feeder → (body.getD 1 0).toNat ≠ s.cfg.stationId →
                    6 ≤ s.chc.queue.length →
                    exec (.radioByte (.byte b)) s =
                      .next
                        { s with
                          chc := { hunting with receiveOverruns := min 65535 (s.chc.receiveOverruns + 1) } })))) ∧
        (s.chc.rx = .hunt → s.chc.carr = false → s.chc.latch = false →
          (∀ b : Byte, b ≠ 0xB4#8 → exec (.radioByte (.byte b)) s = .next s) ∧
          exec (.radioByte .framingError) s = .next s)) ∧
    (s.deaf = true →
      (∀ rx, exec (.radioByte rx) s = .next s) ∧ exec .receiveGapTimeout s = .next s ∧
      exec (.carrierChange (!s.chc.carr)) s = .next { s with chc := { s.chc with carr := !s.chc.carr } })

/-! ### Reports and peers -/

/-- R113, R118, R119, R121: the beacon timer's expiry builds a BEACON from the state of that moment and reloads the timer for
the interval in force; the BEACON takes a sequence and leaves the last event sequence as it is. R91, R93: a queued BEACON not
in service takes the new sequence and payload in its own place; with one in service the new one is not queued; and with 8
entries queued it is given up, one report lost. R127: an entry turns SILENT 3
× B after it was last heard and forgets its last sequence, and leaves its place after 10 × B; one heard more lately does
neither. -/
def Obligations.BeaconIsBuiltAndPeersAge : Prop :=
  (∀ (s : State) (timer : BeaconTimer) (span : Nat), s.started = true → s.pru.beacon = some timer →
     timer.span ≤ (s.now - timer.reference).toNat →
     ((s.btu.reserve = .normal ∧ span = s.cfg.beaconInterval * 1000) ∨
       (s.btu.reserve = .reserve ∧ span = 4 * (s.cfg.beaconInterval * 1000))) →
     ∃ t, exec .beaconTimerExpiry s = .next t ∧
       t =
         { s with
           pru :=
             { s.pru with
               nextSeq := s.pru.nextSeq + 1
               beacon := some { reference := s.now, span := span, drawn := false } }
           chc := t.chc } ∧
       (s.cfg.stationId = 0 → t.chc = s.chc) ∧
       ∀ (locals : List TagEntry) (payload : List Byte), locals = s.tgu.tags.filter (fun e => e.source.isLocal) →
         payload =
           beBytes 1 s.sqc.seq.code ++ beBytes 1 s.sqc.shots ++
             [if s.cdu.closedMade = true ∧ s.cdu.openMade = false then 1#8
               else if s.cdu.closedMade = false ∧ s.cdu.openMade = true then 0#8 else 2#8] ++
             [if s.btu.reserve = .normal then 0#8 else 1#8] ++
             beBytes 1
               ((if s.mfp.lost = true then 1 else 0) + (if s.sqc.startHold ≠ none then 2 else 0) +
                 (if s.btu.failed = true then 4 else 0) + (if s.tgu.storeFault = true then 8 else 0) +
                 (if s.tgu.overflow ≠ none then 16 else 0)) ++
             beBytes 1 s.chc.reportsLost ++ [s.pru.lastEvent] ++ beBytes 1 locals.length ++
             (locals.map fun e => beBytes 2 e.code.toNat).flatten →
         (s.cfg.stationId ≠ 0 → s.chc.status = [] → s.chc.queued < 8 →
           t.chc.front = s.chc.front ∧
           t.chc.status =
             [{ kind := .beacon, seq := s.pru.nextSeq, payload := payload, copies := 1, attempts := 0,
                inService := false }]) ∧
         (s.cfg.stationId ≠ 0 → s.chc.status = [] → 8 ≤ s.chc.queued →
           t.chc = { s.chc with reportsLost := min 255 (s.chc.reportsLost + 1) }) ∧
         (∀ old, s.cfg.stationId ≠ 0 → s.chc.status = [old] → old.kind = .beacon →
           (old.inService = false →
             t.chc =
               { s.chc with
                 status := [{ old with seq := s.pru.nextSeq, payload := payload, copies := 1, attempts := 0 }] }) ∧
           (old.inService = true → t.chc = s.chc))) ∧
  (∀ (s : State) (i : Nat) (e : PeerEntry), s.started = true → s.pru.peers[i]? = some (some e) →
     (∀ j x, j < i → s.pru.peers[j]? = some (some x) → x.id ≠ e.id) →
     ∀ age : Nat, age = (s.now - e.lastHeard).toNat →
       (e.silent = false → 3 * (s.cfg.beaconInterval * 1000) ≤ age →
         exec (.peerSilent e.id) s =
           .next
             { s with pru := { s.pru with peers := s.pru.peers.set i (some { e with silent := true, lastSeq := none }) } }) ∧
       (10 * (s.cfg.beaconInterval * 1000) ≤ age →
         exec (.peerRemoval e.id) s = .next { s with pru := { s.pru with peers := s.pru.peers.set i none } }) ∧
       (age < 3 * (s.cfg.beaconInterval * 1000) →
         exec (.peerSilent e.id) s = .next s ∧ exec (.peerRemoval e.id) s = .next s))

/-- R122 to R126: a stall-paced take of an empty queue only starts the next 4 ms; one of a record whose sender or kind R121
does not allow is refused and counted. A LOCKOUT record, and a BEACON of a station not further from the source, enter their
station in the lowest free place, in a full table in place of the SILENT entry with the oldest last heard, and with no entry
SILENT nowhere, as one frame unentered; or they refresh the station's own entry: a BEACON sets the summary and makes the last
sequence absent, and is never a duplicate; a LOCKOUT record sets last sequence and fault, and one that repeats the last sequence
only last heard and the condition. Neither is handed to any block. -/
def Obligations.RecordsAreTaken : Prop :=
  ∀ s : State, s.started = true → s.pru.pace = some 0 →
    (s.chc.queue = [] → exec .stallPacedTake s = .next { s with pru := { s.pru with pace := some 4 } }) ∧
    ∀ (r : RxRecord) (rest : List RxRecord), s.chc.queue = r :: rest →
      ((r.sender = 0 ∨ 250 < r.sender ∨ r.position = 0 ∨ 63 < r.position ∨
          r.kind ∉ [0x11#8, 0x21#8, 0x22#8, 0x23#8, 0x24#8, 0x31#8, 0x32#8, 0x41#8] ∨
          (r.kind = 0x24#8 ∧ r.payload.length ≠ 2)) →
        exec .stallPacedTake s =
          .next
            { s with
              chc := { s.chc with queue := rest }
              pru := { s.pru with pace := some 4, reportsRefused := min 65535 (s.pru.reportsRefused + 1) } }) ∧
      (∀ beacon : Bool, 1 ≤ r.sender → r.sender ≤ 250 → 1 ≤ r.position → r.position ≤ 63 →
        ((beacon = false ∧ r.kind = 0x24#8 ∧
            ∃ reason shots : Byte, r.payload = [reason, shots] ∧ 1 ≤ reason.toNat ∧ reason.toNat ≤ 13 ∧ shots.toNat ≤ 4) ∨
          (beacon = true ∧ r.kind = 0x11#8 ∧ r.position ≤ s.cfg.position ∧ (r.payload.getD 0 0).toNat ≤ 7 ∧
            (r.payload.getD 1 0).toNat ≤ 4 ∧ (r.payload.getD 2 0).toNat ≤ 2 ∧ (r.payload.getD 3 0).toNat ≤ 2 ∧
            (r.payload.getD 7 0).toNat ≤ 4 ∧ r.payload.length = 8 + 2 * (r.payload.getD 7 0).toNat)) →
        ((∀ x, some x ∈ s.pru.peers → x.id ≠ r.sender) →
          (∀ place : Nat,
            ((s.pru.peers[place]? = some none ∧ ∀ j, j < place → s.pru.peers[j]? ≠ some none) ∨
              (none ∉ s.pru.peers ∧ ∃ old, s.pru.peers[place]? = some (some old) ∧ old.silent = true ∧
                ∀ j x, s.pru.peers[j]? = some (some x) → x.silent = true →
                  (s.now - x.lastHeard).toNat < (s.now - old.lastHeard).toNat ∨
                    (x.lastHeard = old.lastHeard ∧ place ≤ j))) →
            exec .stallPacedTake s =
              .next
                { s with
                  chc := { s.chc with queue := rest }
                  pru :=
                    { s.pru with
                      pace := some 4
                      peers := s.pru.peers.set place
                        (some
                          { id := r.sender
                            position := r.position
                            lastSeq := if beacon = true then none else some r.seq
                            lastHeard := r.arrival
                            silent := false
                            summary := if beacon = true then some (r.payload.take 8) else none
                            fault :=
                              if beacon = true then none
                              else some { kind := .lockout, time := r.arrival, payload := r.payload } }) } }) ∧
          (none ∉ s.pru.peers → (∀ x, some x ∈ s.pru.peers → x.silent = false) →
            exec .stallPacedTake s =
              .next
                { s with
                  chc := { s.chc with queue := rest }
                  pru := { s.pru with pace := some 4, framesUnentered := min 65535 (s.pru.framesUnentered + 1) } })) ∧
        (∀ (i : Nat) (e : PeerEntry), s.pru.peers[i]? = some (some e) → e.id = r.sender →
          (∀ j x, j < i → s.pru.peers[j]? = some (some x) → x.id ≠ r.sender) →
          (beacon = false → e.lastSeq = some r.seq →
            exec .stallPacedTake s =
              .next
                { s with
                  chc := { s.chc with queue := rest }
                  pru :=
                    { s.pru with
                      pace := some 4
                      duplicates := min 65535 (s.pru.duplicates + 1)
                      peers := s.pru.peers.set i (some { e with lastHeard := r.arrival, silent := false }) } }) ∧
          ((beacon = true ∨ e.lastSeq ≠ some r.seq) →
            exec .stallPacedTake s =
              .next
                { s with
                  chc := { s.chc with queue := rest }
                  pru :=
                    { s.pru with
                      pace := some 4
                      peers := s.pru.peers.set i
                        (some
                          { e with
                            position := r.position
                            lastSeq := if beacon = true then none else some r.seq
                            lastHeard := r.arrival
                            silent := false
                            summary := if beacon = true then some (r.payload.take 8) else e.summary
                            fault :=
                              if beacon = true then e.fault
                              else some { kind := .lockout, time := r.arrival, payload := r.payload } }) } })))

/-- R129, R132 to R135, R140: a PICKUP of a partner further from the source, heard for the first time, on an element of one kind:
it starts a hold of that kind from its arrival time with a HOLD_BEGUN record when none stands, no tag is in force, the kind's
own-order mark is clear and its span has not run out; it replaces the holder of a standing hold and never moves its end later;
and it does nothing while the mark is set or a tag is in force. Which of two station times is the later is the model's choice where
they lie 2^31 ms apart or more (log 29): 00, Time, gives differences modulo 2^32 and no bound. One that covers both kinds begins both holds, the phase hold's
record first (log 31). R136, R138: a partner's TRIP or CLEAR ends the holds whose present holder it is, with HOLDER_TRIP or
HOLDER_CLEAR (the phase hold's record first: log 31), and touches no other; no element stands at F, so that none is released. -/
def Obligations.PartnerPickups : Prop :=
  ∀ (s : State) (r : RxRecord) (rest : List RxRecord) (reportKind : ReportKind) (free : Nat), s.started = true →
    s.pru.pace = some 0 → s.chc.queue = r :: rest → 1 ≤ r.sender → r.sender ≤ 250 → r.position ≤ 63 →
    s.cfg.position < r.position → (∀ x, some x ∈ s.pru.peers → x.id ≠ r.sender) → s.pru.peers[free]? = some none →
    (∀ j, j < free → s.pru.peers[j]? ≠ some none) →
    ∀ (taken : State) (ends : Word32) (phaseSet groundSet : ElementSet),
      taken =
        { s with
          chc := { s.chc with queue := rest }
          pru :=
            { s.pru with
              pace := some 4
              peers := s.pru.peers.set free
                (some
                  { id := r.sender, position := r.position, lastSeq := some r.seq, lastHeard := r.arrival, silent := false,
                    summary := none, fault := some { kind := reportKind, time := r.arrival, payload := r.payload } }) } } →
      ends = r.arrival + BitVec.ofNat 32 s.cfg.holdTime →
      phaseSet = { a := true, b := true, c := true, g := false } → groundSet = { a := false, b := false, c := false, g := true } →
      (∀ elements high low shots : Byte, reportKind = .pickup → r.kind = 0x21#8 → r.payload = [elements, high, low, shots] →
        shots.toNat ≤ 4 →
        (∃ f ∈ s.cfg.filter, f.kindSet.getLsbD 0 = true ∧ BitVec.ofNat 8 r.sender &&& f.idMask = f.idValue &&& f.idMask) →
        (∀ (mine : KindState) (holding : KindState → Ocu) (covered : ElementSet),
          ((elements.getLsbD 3 = false ∧
              (elements.getLsbD 0 = true ∨ elements.getLsbD 1 = true ∨ elements.getLsbD 2 = true) ∧ mine = s.ocu.phase ∧
              (∀ x, holding x = { s.ocu with phase := x }) ∧ covered = phaseSet) ∨
            (elements.getLsbD 3 = true ∧ elements.getLsbD 0 = false ∧ elements.getLsbD 1 = false ∧
              elements.getLsbD 2 = false ∧ mine = s.ocu.ground ∧ (∀ x, holding x = { s.ocu with ground := x }) ∧
              covered = groundSet)) →
          (s.tagInForce = false → mine.ownOrder = false →
            (mine.hold = none → 0 < (ends - s.now).toNat → (ends - s.now).toNat < 2147483648 →
              exec .stallPacedTake s =
                .next
                  { taken with
                    ocu :=
                      holding
                        { mine with
                          hold := some { holder := r.sender, position := r.position, begunAt := r.arrival, endsAt := ends } }
                    rcs := s.withRecords [{ kind := .holdBegun, peerId := some r.sender, elements := some covered }] }) ∧
            (mine.hold = none → ((ends - s.now).toNat = 0 ∨ 2147483648 ≤ (ends - s.now).toNat) →
              exec .stallPacedTake s = .next taken) ∧
            (∀ h, mine.hold = some h → (r.arrival - h.begunAt).toNat < 2147483648 - 65536 → s.cfg.holdTime < 65536 →
              exec .stallPacedTake s =
                .next
                  { taken with
                    ocu :=
                      holding
                        { mine with
                          hold := some
                            { holder := r.sender
                              position := r.position
                              begunAt := h.begunAt
                              endsAt := h.begunAt + BitVec.ofNat 32 s.cfg.holdTime } } })) ∧
          ((s.tagInForce = true ∨ mine.ownOrder = true) → exec .stallPacedTake s = .next taken)) ∧
        (elements.getLsbD 3 = true → (elements.getLsbD 0 = true ∨ elements.getLsbD 1 = true ∨ elements.getLsbD 2 = true) →
          s.tagInForce = false → s.ocu.phase.ownOrder = false → s.ocu.ground.ownOrder = false → s.ocu.phase.hold = none →
          s.ocu.ground.hold = none → 0 < (ends - s.now).toNat → (ends - s.now).toNat < 2147483648 →
          ∀ hold : Hold, hold = { holder := r.sender, position := r.position, begunAt := r.arrival, endsAt := ends } →
          exec .stallPacedTake s =
            .next
              { taken with
                ocu :=
                  { s.ocu with
                    phase := { s.ocu.phase with hold := some hold }
                    ground := { s.ocu.ground with hold := some hold } }
                rcs := s.withRecords
                  [{ kind := .holdBegun, peerId := some r.sender, elements := some phaseSet },
                    { kind := .holdBegun, peerId := some r.sender, elements := some groundSet }] })) ∧
      (∀ (cause : Reason) (bit : Nat),
        ((reportKind = .trip ∧ r.kind = 0x22#8 ∧ cause = .holderTrip ∧ bit = 1 ∧ r.payload.length = 9 ∧
            1 ≤ (r.payload.getD 0 0).toNat ∧ (r.payload.getD 0 0).toNat ≤ 4 ∧ (r.payload.getD 4 0).toNat ≤ 4 ∧
            (r.payload.getD 6 0).toNat ≤ 13) ∨
          (reportKind = .clear ∧ r.kind = 0x23#8 ∧ cause = .holderClear ∧ bit = 2 ∧ r.payload.length = 2 ∧
            (r.payload.getD 1 0).toNat ≤ 1)) →
        (∃ f ∈ s.cfg.filter,
          f.kindSet.getLsbD bit = true ∧ BitVec.ofNat 8 r.sender &&& f.idMask = f.idValue &&& f.idMask) →
        s.mfp.stalled = false → (∀ e ∈ s.ocu.elems.toList, e.acc < 1048576) →
        ∀ (left : Option Hold → Option Hold) (ended : Option Hold → ElementSet → List RecordBody),
          (∀ hold, left hold = hold.filter fun h => decide (h.holder ≠ r.sender)) →
          (∀ hold covered, ended hold covered =
            if (∃ h, hold = some h ∧ h.holder = r.sender) then
              [{ kind := .holdEnded, peerId := some r.sender, elements := some covered, reason := some cause }]
            else []) →
          exec .stallPacedTake s =
            .next
              { taken with
                ocu :=
                  { s.ocu with
                    phase := { s.ocu.phase with hold := left s.ocu.phase.hold }
                    ground := { s.ocu.ground with hold := left s.ocu.ground.hold } }
                rcs := s.withRecords (ended s.ocu.phase.hold phaseSet ++ ended s.ocu.ground.hold groundSet) })

/-- R130, R152, R155 to R158: the tag reports of a station further from the source, heard for the first time. A TAG: a new pair is
entered at the tail with its TAG_ON record, at 8 entries it goes to the overflow record with a TAG_OVERFLOW record in place of
the pair that stood there, and a pair already held changes nothing in the TGU. An UNTAG: a pair of the table leaves with its
TAG_OFF record, and its place goes to the pair of the overflow record; a pair of the overflow record leaves it; another changes
nothing. A BEACON's tag list: its sender's pairs that are not in the list leave, in table order (log 6), a place so freed goes to
the pair of the overflow record, and codes of the list not yet held are entered in its order, a repeated code once, in the free
places and from then on one after another in the overflow record (which holds no pair of the sender, or there is room for all).
A tag that comes into force so ends both holds and locks out as TAGGED does (Begins). -/
def Obligations.PeerTags : Prop :=
  ∀ (s : State) (r : RxRecord) (rest : List RxRecord) (free : Nat), s.started = true →
    s.pru.pace = some 0 → s.chc.queue = r :: rest → 1 ≤ r.sender → r.sender ≤ 250 → r.position ≤ 63 →
    s.cfg.position < r.position → (∀ x, some x ∈ s.pru.peers → x.id ≠ r.sender) → s.pru.peers[free]? = some none →
    (∀ j, j < free → s.pru.peers[j]? ≠ some none) →
    ∀ (beacon : Bool) (taken : State) (entry : RemotePair → TagEntry) (tagOn : RemotePair → RecordBody)
      (tagOff : Word16 → RecordBody),
      taken =
        { s with
          chc := { s.chc with queue := rest }
          pru :=
            { s.pru with
              pace := some 4
              peers := s.pru.peers.set free
                (some
                  { id := r.sender, position := r.position, lastSeq := if beacon = true then none else some r.seq,
                    lastHeard := r.arrival, silent := false,
                    summary := if beacon = true then some (r.payload.take 8) else none, fault := none }) } } →
      (∀ p, entry p = { source := .peer p.peer, code := p.code, applied := s.now, slot := none }) →
      (∀ p, tagOn p =
        { kind := .tagOn, tagSource := some (.peer p.peer), crewCode := some p.code, peerId := some p.peer }) →
      (∀ code, tagOff code =
        { kind := .tagOff, tagSource := some (.peer r.sender), crewCode := some code, peerId := some r.sender }) →
      (∀ (high low : Byte) (pair : RemotePair), beacon = false → r.payload = [high, low] →
        pair = { peer := r.sender, code := high ++ low } →
        (r.kind = 0x31#8 →
          ((∃ e ∈ s.tgu.tags, e.source = .peer r.sender ∧ e.code = pair.code) ∨ s.tgu.overflow = some pair →
            exec .stallPacedTake s = .next taken) ∧
          ((∀ e ∈ s.tgu.tags, e.source = .peer r.sender → e.code ≠ pair.code) → s.tgu.overflow ≠ some pair →
            ∃ t, exec .stallPacedTake s = .next t ∧
              (s.tgu.tags.length < 8 →
                Begins s
                  { taken with
                    tgu := { s.tgu with tags := s.tgu.tags ++ [entry pair] }
                    rcs := s.withRecords [tagOn pair] }
                  t) ∧
              (8 ≤ s.tgu.tags.length →
                t =
                  { taken with
                    tgu := { s.tgu with overflow := some pair }
                    rcs := s.withRecords
                      [{ kind := .tagOverflow, peerId := some r.sender, crewCode := some pair.code }] }))) ∧
        (r.kind = 0x32#8 →
          ((∃ e ∈ s.tgu.tags, e.source = .peer r.sender ∧ e.code = pair.code) →
            exec .stallPacedTake s =
              .next
                { taken with
                  tgu :=
                    { s.tgu with
                      tags :=
                        (s.tgu.tags.filter fun e => !(e.source == .peer r.sender && e.code == pair.code)) ++
                          s.tgu.overflow.toList.map entry
                      overflow := none }
                  rcs := s.withRecords (tagOff pair.code :: s.tgu.overflow.toList.map tagOn) }) ∧
          ((∀ e ∈ s.tgu.tags, e.source = .peer r.sender → e.code ≠ pair.code) →
            exec .stallPacedTake s =
              .next
                { taken with
                  tgu := { s.tgu with overflow := if s.tgu.overflow = some pair then none else s.tgu.overflow } }))) ∧
      (∀ (codes : List Word16) (head : List Byte), beacon = true → r.kind = 0x11#8 → codes.length ≤ 4 → head.length = 7 →
        r.payload = head ++ beBytes 1 codes.length ++ (codes.map fun c => beBytes 2 c.toNat).flatten →
        (head.getD 0 0).toNat ≤ 7 → (head.getD 1 0).toNat ≤ 4 → (head.getD 2 0).toNat ≤ 2 → (head.getD 3 0).toNat ≤ 2 →
        ∀ (strays kept left : List TagEntry) (spare : Option RemotePair)
          (missing entered refused : List RemotePair),
          strays = s.tgu.tags.filter (fun e => e.source == .peer r.sender && !codes.contains e.code) →
          kept = s.tgu.tags.filter (fun e => !(e.source == .peer r.sender && !codes.contains e.code)) →
          spare = s.tgu.overflow.filter (fun p => !(p.peer == r.sender && !codes.contains p.code)) →
          left = kept ++ (if strays = [] then [] else spare.toList.map entry) →
          missing =
            ((codes.eraseDups.map fun c => ({ peer := r.sender, code := c } : RemotePair)).filter fun p =>
              !(left.any fun e => e.source == .peer p.peer && e.code == p.code) && (strays != [] || spare != some p)) →
          entered = missing.take (8 - left.length) → refused = missing.drop (8 - left.length) →
          (refused = [] ∨ strays ≠ [] ∨ ∀ p, spare = some p → p.peer ≠ r.sender) →
          ∃ t, exec .stallPacedTake s = .next t ∧
            Begins s
              { taken with
                tgu :=
                  { s.tgu with
                    tags := left ++ entered.map entry
                    overflow := refused.getLast?.or (if strays = [] then spare else none) }
                rcs := s.withRecords
                  (strays.map (fun e => tagOff e.code) ++ (if strays = [] then [] else spare.toList.map tagOn) ++
                    entered.map tagOn ++
                    refused.map fun p =>
                      ({ kind := .tagOverflow, peerId := some p.peer, crewCode := some p.code } : RecordBody)) }
              t)

/-! ### The crew lockout -/

/-- R144, R145: the decoder's table, row by row, on the WAND line: a confirmed mark that ends or runs on; a mark in a space, of which
the decoder judges nothing below 10 units, and which at 10 closes the space with its width up to the rising edge; and a space that
runs on, a mark that fell before 10 units being a glitch counted into it. An abort returns to WAIT, empties the bits and counts one
reject. Runs of the line act with the command whose event they bring, and with each where they bring none (log 37). No step leaves
the decoder out of step with the line or its bits, or in SILENCE at a space of 1000 units, where the code is complete. -/
def Obligations.WandTable : Prop :=
  (∀ s t : State, s.WandSound → step s = .next t → t.WandSound) ∧
  ∀ (s : State) (i : Nat) (near : Nat → Nat → Bool), s.started = true →
    (∀ nominal width, near nominal width =
      decide (nominal ≤ width + s.cfg.wandTolerance ∧ width ≤ nominal + s.cfg.wandTolerance)) →
    ∀ (held aborted : WandLine → State) (goes : WandLine → Decoder → List Bool → State),
      (∀ line, held line = { s with tgu := { s.tgu with line := line } }) →
      (∀ line, aborted line =
        { s with
          tgu :=
            { s.tgu with decoder := .wait, line := line, bits := [], wandRejects := min 65535 (s.tgu.wandRejects + 1) } }) →
      (∀ line place bits, goes line place bits =
        { s with tgu := { s.tgu with decoder := place, line := line, bits := bits } }) →
      (∀ width more, s.tgu.line = .mark width →
        (s.tgu.decoder = .wait →
          (near 400 width = true → WandMoves s [⟨false, 0⟩] (goes (.space 0) .hspace [])) ∧
          (near 400 width = false → WandHolds s [⟨false, 0⟩] (held (.space 0))) ∧
          WandHolds s [⟨true, more⟩] (held (.mark (width + more)))) ∧
        (s.tgu.decoder = .mark i →
          (near 50 width = true → WandMoves s [⟨false, 0⟩] (goes (.space 0) (.space i) s.tgu.bits)) ∧
          (near 50 width = false → WandAborts s [⟨false, 0⟩] (aborted (.space 0)))) ∧
        (s.tgu.decoder = .trailer →
          (near 50 width = true → WandMoves s [⟨false, 0⟩] (goes (.space 0) .silence s.tgu.bits)) ∧
          (near 50 width = false → WandAborts s [⟨false, 0⟩] (aborted (.space 0)))) ∧
        ((s.tgu.decoder = .mark i ∨ s.tgu.decoder = .trailer) →
          (50 + s.cfg.wandTolerance < width + more → WandAborts s [⟨true, more⟩] (aborted (.mark (width + more)))) ∧
          (width + more ≤ 50 + s.cfg.wandTolerance → WandHolds s [⟨true, more⟩] (held (.mark (width + more)))))) ∧
      (∀ space lit more,
        ((s.tgu.line = .space space ∧ lit = 0) ∨ s.tgu.line = .rising space lit) →
        (lit + more < 10 → WandHolds s [⟨true, more⟩] (held (.rising space (lit + more)))) ∧
        (lit + more = 10 →
          (s.tgu.decoder = .wait → WandHolds s [⟨true, more⟩] (held (.mark 10))) ∧
          (s.tgu.decoder = .hspace →
            (near 200 space = true → WandMoves s [⟨true, more⟩] (goes (.mark 10) (.mark 0) s.tgu.bits)) ∧
            (near 200 space = false → WandAborts s [⟨true, more⟩] (aborted (.mark 10)))) ∧
          (s.tgu.decoder = .space i → i < 32 →
            ∀ place, place = (if i = 31 then Decoder.trailer else .mark (i + 1)) →
              (near 50 space = true → WandMoves s [⟨true, more⟩] (goes (.mark 10) place (s.tgu.bits ++ [false]))) ∧
              (near 50 space = false → near 150 space = true →
                WandMoves s [⟨true, more⟩] (goes (.mark 10) place (s.tgu.bits ++ [true]))) ∧
              (near 50 space = false → near 150 space = false → WandAborts s [⟨true, more⟩] (aborted (.mark 10)))) ∧
          (s.tgu.decoder = .silence → space < 1000 → WandAborts s [⟨true, more⟩] (aborted (.mark 10)))) ∧
        ∀ total, total = space + lit + more →
          (s.tgu.decoder = .wait → WandHolds s [⟨false, more⟩] (held (.space total))) ∧
          (s.tgu.decoder = .hspace →
            (200 + s.cfg.wandTolerance < total → WandAborts s [⟨false, more⟩] (aborted (.space total))) ∧
            (total ≤ 200 + s.cfg.wandTolerance → WandHolds s [⟨false, more⟩] (held (.space total)))) ∧
          (s.tgu.decoder = .space i →
            (150 + s.cfg.wandTolerance < total → WandAborts s [⟨false, more⟩] (aborted (.space total))) ∧
            (total ≤ 150 + s.cfg.wandTolerance → WandHolds s [⟨false, more⟩] (held (.space total)))) ∧
          (s.tgu.decoder = .silence → total < 1000 → WandHolds s [⟨false, more⟩] (held (.space total))))

/-- R143, R144, R146 to R148: what a complete code of 32 bits comes to, at 1000 units of silence with the glitches in it (the line's
runs: log 37): a complement failure is a reject; a known code opens the
window with its lowest slot for 10 s; an unknown one makes its record, starts the error tone and closes the window. The
window's timer closes it, the error tone ends after its second, and the tone toggles every 250 ms (log 38). -/
def Obligations.CrewCodeAndTone : Prop :=
  ∀ s : State, s.started = true →
    (∀ space lit more total, ((s.tgu.line = .space space ∧ lit = 0) ∨ s.tgu.line = .rising space lit) →
      total = space + lit + more → 1000 ≤ total → s.tgu.decoder = .silence → s.tgu.bits.length = 32 →
      ((∃ i, i < 16 ∧ s.tgu.bits.getD (16 + i) false = s.tgu.bits.getD i false) →
        WandCompletes s [⟨false, more⟩]
          { s with
            tgu :=
              { s.tgu with decoder := .wait, line := .space total, wandRejects := min 65535 (s.tgu.wandRejects + 1) } }) ∧
      (∀ code : Word16, (∀ i, i < 16 → s.tgu.bits.getD (16 + i) false = !s.tgu.bits.getD i false) →
        (∀ i, i < 16 → code.getLsbD i = s.tgu.bits.getD i false) →
        (∀ slot, code ≠ 0 → s.cfg.crewCodes[slot]? = some code → (∀ j, j < slot → s.cfg.crewCodes[j]? ≠ some code) →
          WandCompletes s [⟨false, more⟩]
            { s with
              tgu :=
                { s.tgu with
                  decoder := .wait
                  line := .space total
                  window := some { code := code, slot := slot, left := 10000 }
                  toneOn := true
                  tonePhase := some 250 } }) ∧
        ((code = 0 ∨ code ∉ s.cfg.crewCodes) →
          WandCompletes s [⟨false, more⟩]
            { s with
              tgu :=
                { s.tgu with
                  decoder := .wait, line := .space total, errorTone := some 1000, window := none, toneOn := false,
                  tonePhase := none }
              rcs := s.withRecords [{ kind := .unknownCrew, crewCode := some code }] }))) ∧
    (∀ w, s.tgu.window = some w →
      (w.left = 0 →
        exec .crewWindowExpiry s =
          .next { s with tgu := { s.tgu with window := none, toneOn := false, tonePhase := none } }) ∧
      (s.tgu.tonePhase = some 0 →
        exec .toneToggle s = .next { s with tgu := { s.tgu with toneOn := !s.tgu.toneOn, tonePhase := some 250 } })) ∧
    (s.tgu.errorTone = some 0 → exec .errorToneExpiry s = .next { s with tgu := { s.tgu with errorTone := none } }) ∧
    s.pins.tone = (s.tgu.errorTone.isSome || (s.tgu.window.isSome && s.tgu.toneOn))

/-- R149, R150, R152 to R154, R157, R160: the panel's tag keys. With the window closed a press is ignored. With it open, Tag-On
makes a local apply and Tag-Off a panel removal, which close it; a refused apply, and a removal that finds nothing, start the
error tone. A tag is in force before the apply that enters an entry here, so that none begins. A write asked for while a
settings read holds the memory link waits as write again (log 20), and the moment of a write's last byte is free (log 44). -/
def Obligations.TagKeys : Prop :=
  ∀ s : State, s.started = true →
    (s.tgu.keys.tagOn = true → s.Held .tagOnKey false →
      exec (.tagOnKey false) s =
        .next
          { s with inputs := s.inputs.still .tagOnKey, tgu := { s.tgu with keys := { s.tgu.keys with tagOn := false } } }) ∧
    (s.tgu.keys.tagOff = true → s.Held .tagOffKey false →
      exec (.tagOffKey false) s =
        .next
          { s with inputs := s.inputs.still .tagOffKey, tgu := { s.tgu with keys := { s.tgu.keys with tagOff := false } } }) ∧
    (s.tgu.window = none → s.tgu.keys.tagOn = false → s.Held .tagOnKey true →
      exec (.tagOnKey true) s =
        .next
          { s with inputs := s.inputs.still .tagOnKey, tgu := { s.tgu with keys := { s.tgu.keys with tagOn := true } } }) ∧
    (s.tgu.window = none → s.tgu.keys.tagOff = false → s.Held .tagOffKey true →
      exec (.tagOffKey true) s =
        .next
          { s with inputs := s.inputs.still .tagOffKey, tgu := { s.tgu with keys := { s.tgu.keys with tagOff := true } } }) ∧
    (∀ (w : CrewWindow) (locals : Nat), s.tgu.window = some w → s.tgu.keys.tagOn = false →
      s.Held .tagOnKey true →
      locals = (s.tgu.tags.filter fun e => e.source.isLocal).length →
      ∀ closed : State,
        closed =
          { s with
            inputs := s.inputs.still .tagOnKey
            tgu :=
              { s.tgu with
                keys := { s.tgu.keys with tagOn := true }, window := none, toneOn := false, tonePhase := none } } →
        ((∃ e ∈ s.tgu.tags, e.source = .localPanel ∧ e.code = w.code) → exec (.tagOnKey true) s = .next closed) ∧
        ((∀ e ∈ s.tgu.tags, e.source = .localPanel → e.code ≠ w.code) →
          ((4 ≤ locals ∨ 8 ≤ s.tgu.tags.length) →
            exec (.tagOnKey true) s = .next { closed with tgu := { closed.tgu with errorTone := some 1000 } }) ∧
          (locals < 4 → s.tgu.tags.length < 8 → s.tagInForce = true →
            ∃ t, exec (.tagOnKey true) s = .next t ∧ Enters closed t .localPanel w.code w.slot))) ∧
    (∀ w : CrewWindow, s.tgu.window = some w → s.tgu.keys.tagOff = false → s.Held .tagOffKey true →
      ∀ closed : State,
        closed =
          { s with
            inputs := s.inputs.still .tagOffKey
            tgu :=
              { s.tgu with
                keys := { s.tgu.keys with tagOff := true }, window := none, toneOn := false, tonePhase := none } } →
        (removedEntry s.tgu.tags .localPanel .service w.code = none →
          exec (.tagOffKey true) s = .next { closed with tgu := { closed.tgu with errorTone := some 1000 } }) ∧
        (∀ e, removedEntry s.tgu.tags .localPanel .service w.code = some e →
          ∃ t, exec (.tagOffKey true) s = .next t ∧ Removes closed t e))

/-- R36, R140, R143, R152 to R154, R157, R158, R160, R171: Tag-Apply and Tag-Remove at the port, case by case in R153's and
R154's order; and an apply that brings a tag into force: it ends both holds, and locks out RECLOSE_WAIT, CLOSE_CHARGE and a
CLOSING whose pulse has not begun with TAGGED, the rest standing as it is when no hold stood. A write asked for while a settings
read holds the memory link waits as write again (log 20), and the moment of a write's last byte is free (log 44). -/
def Obligations.TagRequests : Prop :=
  ∀ (s : State) (code : Word16) (locals : Nat), s.started = true → s.svp.service = .listen →
    locals = (s.tgu.tags.filter fun e => e.source.isLocal).length →
    (s.cfg.crewSlot code = none →
      exec (.tagApply code) s = .next { s with svp := s.svp.answered 0x20#8 6 [] } ∧
      exec (.tagRemove code) s = .next { s with svp := s.svp.answered 0x21#8 6 [] }) ∧
    ∀ slot, s.cfg.crewSlot code = some slot →
      ((∃ e ∈ s.tgu.tags, e.source = .service ∧ e.code = code) →
        exec (.tagApply code) s = .next { s with svp := s.svp.answered 0x20#8 0 [] }) ∧
      ((∀ e ∈ s.tgu.tags, e.source = .service → e.code ≠ code) →
        ((4 ≤ locals ∨ 8 ≤ s.tgu.tags.length) →
          exec (.tagApply code) s = .next { s with svp := s.svp.answered 0x20#8 7 [] }) ∧
        (locals < 4 → s.tgu.tags.length < 8 →
          ∃ u t, exec (.tagApply code) s = .next t ∧
            Enters { s with svp := s.svp.answered 0x20#8 0 [] } u .service code slot ∧ t.tagInForce = true ∧
            (s.tagInForce = true → t = u) ∧
            (s.tagInForce = false →
              t.ocu.phase.hold = none ∧ t.ocu.ground.hold = none ∧
              (s.ocu.phase.hold = none → s.ocu.ground.hold = none →
                if s.sqc.seq = .recloseWait ∨ s.sqc.seq = .closeCharge ∨
                    (s.sqc.seq = .closing ∧ s.sqc.closeBegun = false)
                then LocksOut u t .tagged [] else t = u)))) ∧
      (removedEntry s.tgu.tags .service .localPanel code = none →
        exec (.tagRemove code) s = .next { s with svp := s.svp.answered 0x21#8 0 [] }) ∧
      (∀ e, removedEntry s.tgu.tags .service .localPanel code = some e →
        ∃ t, exec (.tagRemove code) s = .next t ∧ Removes { s with svp := s.svp.answered 0x21#8 0 [] } t e)

/-- R160, R161, R175: the end of a tag store write, with the acknowledgement once its last byte has gone and without it 20 ms after
that: an acknowledgement clears tag store fault, its absence sets it with a record; a waiting settings read takes the link
first, else a write asked for again starts with the image of the entries as they stand, its 20 ms to run from its last byte,
the moment of which is free (log 44). The image of at most 4 local entries is 15 bytes, and a restore reads those entries from
it. -/
def Obligations.TagStoreWriteEnds : Prop :=
  (∀ s : State, s.started = true →
    (s.svp.linkTimer ≠ some 0 → exec (.tagStoreWriteEnd false) s = .next s) ∧
    (∀ left, s.svp.linkTimer = some left → 20 < left → exec (.tagStoreWriteEnd true) s = .next s)) ∧
  (∀ (s : State) (acknowledged : Bool) (left : Nat), s.started = true → s.svp.link = .write →
    s.svp.linkTimer = some left → ((acknowledged = true ∧ left ≤ 20) ∨ left = 0) →
    ∀ (judged : Tgu) (records : Rcs), judged = { s.tgu with storeFault := !acknowledged } →
      records =
        (if acknowledged = true then s.rcs else s.withRecords [{ kind := .tagStoreFault, reason := some .write }]) →
      (s.svp.readWaits = true →
        exec (.tagStoreWriteEnd acknowledged) s =
          .next
            { s with
              tgu := if s.tgu.writeAgain = true then judged else { judged with writing := false, writeImage := [] }
              svp := { s.svp with link := .read, linkTimer := some 20, readWaits := false }
              rcs := records }) ∧
      (s.svp.readWaits = false → s.tgu.writeAgain = true →
        exec (.tagStoreWriteEnd acknowledged) s =
          .next
            { s with
              tgu := { judged with writing := true, writeAgain := false, writeImage := storeImage s.tgu.tags }
              svp := { s.svp with linkTimer := some (Config.writeSending s.now + 20) }
              rcs := records }) ∧
      (s.svp.readWaits = false → s.tgu.writeAgain = false →
        exec (.tagStoreWriteEnd acknowledged) s =
          .next
            { s with
              tgu := { judged with writing := false, writeImage := [] }
              svp := { s.svp with link := .free, linkTimer := none }
              rcs := records })) ∧
  ∀ tags locals : List TagEntry, locals = tags.filter (fun e => e.source.isLocal) → locals.length ≤ 4 →
    ∀ body : List Byte,
      body =
        beBytes 1 locals.length ++
          (locals.map fun e =>
            [if e.source = .localPanel then 1#8 else if e.source = .service then 2#8 else 3#8] ++
              beBytes 2 e.code.toNat).flatten ++
          List.replicate (12 - 3 * locals.length) 0#8 →
      storeImage tags = body ++ beBytes 2 (byteSum body) ∧ (storeImage tags).length = 15 ∧
      ((∀ e ∈ locals, e.code = 0 ↔ e.source = .store) → (locals.map fun e => (e.source, e.code)).Nodup →
        judgeStore (.complete (storeImage tags)) = some (locals.map fun e => (e.source, e.code)))

/-! ### The service port -/

/-- R165, R168, R171, R173, R174: the four read requests. They change nothing but the service state, and Read-Records-From
sets the unread count; the answers are spelled out, of Read-Status part 0 the groups of the MFP, the SQC, the RCS and the SVP
(codings: log 18), and of the record forms the LOCKOUT record's. R25, R51, R54, R69, R75, R79, R81, R85, R94, R99, R158, R160, R167,
R171, R175: what the output lines of a started part show: the lamps, ATTN, the coil lines and enables, the charger, test load and
battery contactor, KEY, the bytes that go out and the memory select, after the release of the contactor CHSD off with the charger
lines (log 21). TONE is CrewCodeAndTone's. -/
def Obligations.ReadsAnswer : Prop :=
  (∀ s : State, s.started = true → s.svp.service = .listen →
    (∃ ocu rest : List Byte,
      exec (.readStatus .items) s =
        .next
          { s with
            svp := s.svp.answered 0x01#8 0
              ([1#8, 0#8, 2#8] ++ beBytes 2 s.mfp.badFrames ++ [1#8, 1#8, 2#8] ++ beBytes 2 s.mfp.framesMissed ++
                [1#8, 2#8, 1#8, if s.mfp.stalled = true then 1#8 else 0#8] ++
                [1#8, 3#8, 1#8, if s.mfp.lost = true then 1#8 else 0#8] ++ ocu ++
                [3#8, 0#8, 1#8] ++ beBytes 1 s.sqc.seq.code ++ [3#8, 1#8, 1#8] ++ beBytes 1 s.sqc.shots ++
                [3#8, 2#8, 1#8] ++ beBytes 1 ((s.sqc.reason.map LockReason.code).getD 0) ++
                [3#8, 3#8, 1#8, if s.sqc.manualWindow ≠ none then 1#8 else 0#8] ++
                [3#8, 4#8, 1#8, if s.sqc.startHold ≠ none then 1#8 else 0#8] ++ rest ++
                [9#8, 0#8, 1#8] ++ beBytes 1 s.rcs.unread ++ [9#8, 1#8, 4#8] ++ beBytes 4 s.rcs.next.toNat ++
                [9#8, 2#8, 1#8] ++ beBytes 1 s.rcs.ring.length ++
                (match s.rcs.ring.head? with
                  | some r => [9#8, 3#8, 4#8] ++ beBytes 4 r.number.toNat
                  | none => [9#8, 3#8, 0#8]) ++
                [10#8, 0#8, 1#8, if s.svp.fromImage = true then 0#8 else 1#8] ++
                [10#8, 1#8, 1#8] ++ beBytes 1 ((s.svp.faultReason.map SettingsFault.code).getD 0) ++
                [10#8, 2#8, 2#8] ++ beBytes 2 s.svp.discarded ++ [10#8, 3#8, 2#8] ++ beBytes 2 s.svp.badRequests) }) ∧
    exec (.readStatus .settings) s = .next { s with svp := s.svp.answered 0x01#8 0 (encodeImage s.cfg) } ∧
    (∀ (n : Word32) (chosen : List EventRecord) (unread : Nat),
      ((∃ i r, s.rcs.ring[i]? = some r ∧ r.number = n ∧ (∀ j x, j < i → s.rcs.ring[j]? = some x → x.number ≠ n) ∧
          chosen = (s.rcs.ring.drop i).take 4 ∧ unread = s.rcs.ring.length - (i + 4)) ∨
        ((∀ r ∈ s.rcs.ring, r.number ≠ n) ∧ n = s.rcs.next ∧ chosen = [] ∧ unread = 0) ∨
        ((∀ r ∈ s.rcs.ring, r.number ≠ n) ∧ n ≠ s.rcs.next ∧ chosen = s.rcs.ring.take 4 ∧
          unread = s.rcs.ring.length - 4)) →
      exec (.readRecordsFrom n) s =
        .next
          { s with
            rcs := { s.rcs with unread := unread }
            svp := s.svp.answered 0x02#8 0 (beBytes 1 chosen.length ++ (chosen.map EventRecord.bytes).flatten) }) ∧
    (∀ (number time : Word32) (reason : LockReason) (shots : Nat),
      ({ number := number, time := time, body := lockoutRecord reason shots } : EventRecord).bytes =
        beBytes 4 number.toNat ++ beBytes 4 time.toNat ++ [8#8, 0#8, 0#8, 0x18#8] ++ beBytes 1 shots ++
          beBytes 1 reason.code) ∧
    exec .readPeerTable s =
      .next
        { s with
          svp := s.svp.answered 0x03#8 0
            (beBytes 1 s.pru.peers.reduceOption.length ++
              (s.pru.peers.reduceOption.map fun e =>
                beBytes 1 e.id ++ beBytes 1 e.position ++
                  beBytes 1
                    ((if e.lastSeq ≠ none then 1 else 0) + (if e.summary ≠ none then 2 else 0) +
                      (if e.fault ≠ none then 4 else 0) + (if e.silent = true then 8 else 0)) ++
                  [e.lastSeq.getD 0] ++ beBytes 4 e.lastHeard.toNat ++
                  (match e.summary with
                    | some b => b ++ List.replicate (8 - b.length) 0#8
                    | none => List.replicate 8 0#8) ++
                  (match e.fault with
                    | some f =>
                      beBytes 1 f.kind.code ++ beBytes 4 f.time.toNat ++ beBytes 1 f.payload.length ++ f.payload ++
                        List.replicate (9 - f.payload.length) 0#8
                    | none => List.replicate 15 0#8)).flatten) } ∧
    exec .readTagTable s =
      .next
        { s with
          svp := s.svp.answered 0x04#8 0
            (beBytes 1 s.tgu.tags.length ++
              (s.tgu.tags.map fun e =>
                (match e.source with
                  | .localPanel => [1#8, 0#8]
                  | .service => [2#8, 0#8]
                  | .store => [3#8, 0#8]
                  | .peer id => [4#8] ++ beBytes 1 id) ++
                  beBytes 2 e.code.toNat ++ beBytes 4 e.applied.toNat ++ beBytes 1 (e.slot.getD 0xFF)).flatten ++
              (match s.tgu.overflow with
                | some p => [1#8] ++ beBytes 1 p.peer ++ beBytes 2 p.code.toNat
                | none => [0#8, 0#8, 0#8, 0#8]) ++
              [if s.tgu.storeFault = true then 1#8 else 0#8] ++
              [if s.tgu.writing = false then 0#8 else if s.tgu.writeAgain = false then 1#8 else 2#8]) }) ∧
  ∀ s : State, s.started = true →
    (s.pins.ltag = true ↔ s.tgu.tags ≠ [] ∨ s.tgu.overflow ≠ none) ∧ s.pins.lbat = s.btu.failed ∧
    (s.pins.llko = true ↔ s.sqc.seq = .lockout ∨ s.sqc.seq = .breakerFail) ∧
    (s.pins.attn = true ↔ s.cfg.attention ≤ s.rcs.unread) ∧
    (s.pins.trpd = true ↔ s.cdu.pulse = .trip) ∧ (s.pins.clsd = true ↔ s.cdu.pulse = .close) ∧
    s.pins.tcen = s.cdu.tcen ∧ s.pins.ccen = s.cdu.ccen ∧
    (s.pins.bcon = true ↔ s.btu.reserve ≠ .disconnect) ∧
    (s.btu.reserve = .disconnect →
      s.pins.chen = false ∧ s.pins.chbs = false ∧ s.pins.tlod = false ∧ s.pins.chsd = none) ∧
    (s.btu.reserve ≠ .disconnect →
      (s.pins.chen = true ↔ s.btu.charger = .float ∨ s.btu.charger = .boost) ∧
      (s.pins.chbs = true ↔ s.btu.charger = .boost) ∧ (s.pins.tlod = true ↔ s.btu.test = .loaded) ∧
      s.pins.chsd = s.btu.sending) ∧
    (s.pins.key = true ↔ s.chc.tx = .keyUp ∨ s.chc.tx = .sending ∨ s.chc.tx = .keyDown) ∧
    s.pins.ftxd =
      (if s.chc.tx = .sending then s.chc.airFrame ++ (if s.chc.aborting = true then [0xA5#8, 0xA5#8] else []) else []) ∧
    s.pins.stxd = (if s.svp.service = .answering then s.svp.response else []) ∧
    (s.pins.nvcs = true ↔ s.svp.link ≠ .free) ∧
    ((s.svp.link = .read ∨ s.svp.link = .image) → s.pins.nvdo = [0x03#8, 0x00#8, 0x00#8]) ∧
    (s.svp.link = .write →
      s.pins.nvdo =
        [0x02#8, 0x04#8, 0x00#8] ++ s.tgu.writeImage ++
          (if (∃ left, s.svp.linkTimer = some left ∧ left ≤ 20) then [0x05#8] else []))

/-- R170, R171: the assembly of a request frame outside a complete good frame, the bad request, the end of a response, and a
port that is not in LISTEN and takes nothing. The model's choices: that the request rows, REQUEST_DISCARDED and BAD_REQUEST are
commands beside the bytes of SERVICE_BYTE, with these conditions (log 12), and that both counts stand at 65535 (log 45). -/
def Obligations.PortAssembly : Prop :=
  ∀ s : State, s.started = true →
    (s.svp.service ≠ .listen →
      (∀ rx, exec (.serviceByte rx) s = .next s) ∧ exec .serviceGapTimeout s = .next s ∧
      (∀ cause, exec (.requestDiscarded cause) s = .next s) ∧ (∀ r : Request, exec r.command s = .next s)) ∧
    (s.svp.service = .answering →
      exec .responseSent s = .next { s with svp := { s.svp with service := .listen, response := [] } }) ∧
    (s.svp.service = .listen →
      ∀ discarded : State,
        discarded =
          { s with
            svp := { s.svp with rx := .hunt, buffer := [], gap := none, discarded := min 65535 (s.svp.discarded + 1) } } →
        (s.svp.rx = .hunt →
          exec (.serviceByte (.byte 0x5A#8)) s =
            .next { s with svp := { s.svp with rx := .length, buffer := [0x5A#8], gap := some 10 } } ∧
          (∀ b : Byte, b ≠ 0x5A#8 → exec (.serviceByte (.byte b)) s = .next s) ∧
          exec (.serviceByte .framingError) s = .next s) ∧
        (s.svp.rx = .length →
          (∀ b : Byte, exec (.serviceByte (.byte b)) s =
            .next
              (if 2 ≤ b.toNat ∧ b.toNat ≤ 62 then
                { s with svp := { s.svp with rx := .body, buffer := s.svp.buffer ++ [b], gap := some 10 } }
              else discarded)) ∧
          exec (.serviceByte .framingError) s = .next discarded ∧
          exec (.requestDiscarded .badLength) s = .next discarded ∧
          exec (.requestDiscarded .framingError) s = .next discarded) ∧
        (s.svp.rx = .body →
          (∀ (b : Byte) (frame : List Byte), frame = s.svp.buffer ++ [b] →
            (frame.length ≠ 2 + (frame.getD 1 0).toNat →
              exec (.serviceByte (.byte b)) s =
                .next { s with svp := { s.svp with buffer := frame, gap := some 10 } }) ∧
            (frame.length = 2 + (frame.getD 1 0).toNat → byteSum frame % 256 ≠ 0 →
              exec (.serviceByte (.byte b)) s = .next discarded)) ∧
          exec (.serviceByte .framingError) s = .next discarded ∧
          exec (.requestDiscarded .framingError) s = .next discarded ∧
          exec (.requestDiscarded .badSum) s = .next discarded) ∧
        (s.svp.gap = some 0 → exec .serviceGapTimeout s = .next discarded) ∧
        (∀ (code : Byte) (payload : List Byte), (∀ r : Request, r.code = code → r.payload ≠ payload) →
          exec (.badRequest code payload) s =
            .next
              { s with
                svp := { s.svp with badRequests := min 65535 (s.svp.badRequests + 1) }.answered code 1 [] }))

/-! ### Settings and starts -/

/-- R180 to R182, R84, R8, R24, R46, R49, R53, R66, R89, R110, R113, R119, R131, R142, R143, R160, R162, R175: a settings restart is
refused outside LOCKOUT, with a pulse or with a test running, at its taking and again when the read ends; else its read takes or
waits for the link, and when it ends, complete or after its 20 ms incomplete, the settings come into force with their records,
every block at its settings restart values, and the answer Done. The model's: values no rule gives (log 17), the ready flags and
the confirm windows of the CDU (logs 27 and 33), the moment of a test (log 34), the contacts read afresh (log 39), and the bits
received, the setpoint word on its way, Vf and the mark of a first frame (log 43); the memory's 0x5C as an event of its own, or within
a complete read (log 19); and the free moment of a write's last byte (log 44). -/
def Obligations.SettingsRestarts : Prop :=
  ∀ s : State, s.started = true →
    (s.svp.service = .listen →
      (s.sqc.seq ≠ .lockout ∨ s.cdu.pulse ≠ .none ∨ s.btu.test = .settle ∨ s.btu.test = .loaded →
        exec .settingsRestart s = .next { s with svp := s.svp.answered 0x40#8 2 [] }) ∧
      (s.sqc.seq = .lockout → s.cdu.pulse = .none → s.quietTest →
        exec .settingsRestart s =
          .next
            { s with
              svp :=
                { s.svp with
                  rx := .hunt
                  buffer := []
                  gap := none
                  service := .restarting
                  link := if s.svp.link = .free then .read else s.svp.link
                  linkTimer := if s.svp.link = .free then some 20 else s.svp.linkTimer
                  readWaits := if s.svp.link = .free then s.svp.readWaits else true } })) ∧
    (s.svp.service = .restarting →
      ∀ (read : MemRead) (closedMade openMade : Bool),
        exec (.settingsRestartApply .ready closedMade openMade) s =
          .next (if s.svp.link = .read then { s with svp := { s.svp with link := .image, linkTimer := none } } else s) ∧
        (read = .incomplete → (s.svp.link ≠ .read ∨ s.svp.linkTimer ≠ some 0) →
          exec (.settingsRestartApply (.ended read) closedMade openMade) s = .next s) ∧
        (((s.svp.link = .read ∧ s.svp.linkTimer = some 0) ∨
            (read ≠ .incomplete ∧ (s.svp.link = .read ∨ s.svp.link = .image))) →
          (s.sqc.seq ≠ .lockout ∨ s.cdu.pulse ≠ .none ∨ s.btu.test = .settle ∨ s.btu.test = .loaded →
            exec (.settingsRestartApply (.ended read) closedMade openMade) s =
              .next
                { s with
                  tgu :=
                    if s.tgu.writeAgain = true then
                      { s.tgu with writing := true, writeAgain := false, writeImage := storeImage s.tgu.tags }
                    else s.tgu
                  svp :=
                    { s.svp with
                      service := .answering
                      response := responseBytes 0x40#8 2 []
                      link := if s.tgu.writeAgain = true then .write else .free
                      linkTimer := if s.tgu.writeAgain = true then some (Config.writeSending s.now + 20) else none } }) ∧
          (s.sqc.seq = .lockout → s.cdu.pulse = .none → s.quietTest →
            ∀ (st : Settings) (fault : Option SettingsFault) (ready : Bool) (first second : Word16),
              (judgeImage read = .ok st ∧ fault = none ∨
                ∃ e, judgeImage read = .error e ∧ st = defaultSettings ∧ fault = some e) →
              ready = (closedMade && !openMade && !s.tgu.handleDown) →
              first = nextLfsr (seededLfsr st) → second = nextLfsr first →
              ∃ t, exec (.settingsRestartApply (.ended read) closedMade openMade) s = .next t ∧ t.now = s.now ∧
                t.inputs =
                  { s.inputs with
                    posc := { level := closedMade, count := none }, poso := { level := openMade, count := none } } ∧
                t.svp =
                  { rx := .hunt
                    buffer := []
                    gap := none
                    service := .answering
                    discarded := 0
                    badRequests := 0
                    response := responseBytes 0x40#8 0 []
                    settings := st
                    fromImage := decide (fault = none)
                    faultReason := fault
                    link := if s.tgu.writeAgain = true then .write else .free
                    linkTimer := if s.tgu.writeAgain = true then some (Config.writeSending s.now + 20) else none
                    readWaits := s.svp.readWaits
                    startSent := s.svp.startSent } ∧
                t.rcs =
                  s.withRecords
                    ((fault.toList.map fun e : SettingsFault =>
                        ({ kind := .settingsFault, reason := some e.reason } : RecordBody)) ++
                      [{ kind := .settingsRestart
                         seqState := some (if ready = true then .ready else .lockout)
                         reason :=
                           if ready = true then none
                           else some (.lock (if s.tgu.handleDown = true then .handle else .start))
                         operations := some s.cdu.operations }]) ∧
                t.sqc = sqcAtStart st ready s.tgu.handleDown ∧ t.mfp = mfpAtStart ∧ t.ocu = ocuAtStart ∧
                t.cdu =
                  { cduAtStart closedMade openMade with
                    tripV := s.cdu.tripV
                    closeV := s.cdu.closeV
                    tripReady := s.cdu.tripReady
                    closeReady := s.cdu.closeReady
                    operations := s.cdu.operations } ∧
                t.btu =
                  { s.btu with
                    test := .idle
                    sources := { panel := false, service := false, schedule := false }
                    settle := none
                    load := none
                    v0 := none
                    v1 := none
                    i1 := none
                    lastResult := none
                    lastResistance := none
                    failed := false
                    schedule := scheduleAtStart st
                    scheduleDue := false
                    testMoment := false } ∧
                t.tgu.tags =
                  (s.tgu.tags.map fun e =>
                    { e with slot := if e.source.isLocal = true then st.crewSlot e.code else none }) ∧
                t.tgu.overflow = s.tgu.overflow ∧ t.tgu.storeFault = s.tgu.storeFault ∧ t.tgu.keys = s.tgu.keys ∧
                t.tgu.handleDown = s.tgu.handleDown ∧ t.tgu.decoder = .wait ∧ t.tgu.bits = [] ∧ t.tgu.wandRejects = 0 ∧
                t.tgu.window = none ∧ t.tgu.errorTone = none ∧ t.tgu.toneOn = false ∧
                t.chc = chcAtStart second s.chc.carr s.chc.rrdy ∧
                t.pru =
                  pruAtStart first (delayDrawn st s.btu.reserve s.btu.shutdownPending s.now second))))

/-- R175, R177, R179, and the values after reset of every chapter (R8, R24, R46, R49, R66, R84, R89, R110, R113, R119, R131, R142,
R162, R169, R182): a cold start, from any state: station time 0, the settings of the image or the defaults, the records of its
order, the tags restored from the tag store or one STORE entry, the SQC set up from the position and the handle, and every other
block at its initial values with its inputs sampled. R113, R179: a good frame that arrives between the two draws of the PRU, with
no element reaching pickup, advances the LFSR between them, and the take is then frame-paced. The model's: the order stands as one
command of no duration (log 10), and values no rule gives (log 17). -/
def Obligations.ColdStart : Prop :=
  ∀ (s : State) (settings store : MemRead) (i : InputLevels) (st : Settings) (fault : Option SettingsFault)
    (stored : Option (List (TagSource × Word16))) (ready : Bool) (order : List Delivery) (first second : Word16),
    (judgeImage settings = .ok st ∧ fault = none ∨
      ∃ e, judgeImage settings = .error e ∧ st = defaultSettings ∧ fault = some e) →
    stored = judgeStore store → ready = (i.closedMade && !i.openMade && !i.handleDown) →
    first = nextLfsr (seededLfsr st) → second = nextLfsr first →
    (settings = .incomplete → fault = some .sum) ∧ (store = .incomplete → stored = none) ∧
    (∃ t, exec (.coldStart settings store i [] order) s = .next t ∧ t.now = 0 ∧ t.pending = s.pending ∧
      (∀ row ∈ [(InputPin.posc, i.closedMade), (.poso, i.openMade), (.acp, i.acPresent), (.tripKey, i.tripKey),
          (.closeKey, i.closeKey), (.tagOnKey, i.tagOnKey), (.tagOffKey, i.tagOffKey), (.batteryKey, i.batteryKey),
          (.hndl, i.handleDown)],
        t.inputs.line row.1 = { level := row.2, count := none }) ∧
      t.svp =
        { rx := .hunt, buffer := [], gap := none, service := .listen, discarded := 0, badRequests := 0, response := [],
          settings := st, fromImage := decide (fault = none), faultReason := fault, link := .free, linkTimer := none,
          readWaits := false, startSent := [0x03#8, 0x00#8, 0x00#8, 0x03#8, 0x04#8, 0x00#8] } ∧
      t.pins.nvdo = [0x03#8, 0x00#8, 0x00#8, 0x03#8, 0x04#8, 0x00#8] ∧
      t.rcs =
        List.foldl (Rcs.written 0) { ring := [], next := 0, unread := 0 }
          ((fault.toList.map fun e : SettingsFault => ({ kind := .settingsFault, reason := some e.reason } : RecordBody)) ++
            (if stored = none then [({ kind := .tagStoreFault, reason := some .image } : RecordBody)] else []) ++
            [{ kind := .start
               seqState := some (if ready = true then .ready else .lockout)
               reason :=
                 if ready = true then none else some (.lock (if i.handleDown = true then .handle else .start))
               operations := some 0 }]) ∧
      t.tgu =
        { decoder := .wait
          line := .space 0
          bits := []
          wandRejects := 0
          window := none
          errorTone := none
          toneOn := false
          tonePhase := none
          keys :=
            { trip := i.tripKey, close := i.closeKey, tagOn := i.tagOnKey, tagOff := i.tagOffKey, battery := i.batteryKey }
          handleDown := i.handleDown
          tags :=
            match stored with
            | some entries =>
              entries.map fun e => { source := e.1, code := e.2, applied := 0, slot := st.crewSlot e.2 }
            | none => [{ source := .store, code := 0, applied := 0, slot := none }]
          overflow := none
          writing := false
          writeAgain := false
          writeImage := []
          storeFault := decide (stored = none) } ∧
      t.sqc = sqcAtStart st ready i.handleDown ∧ t.mfp = mfpAtStart ∧ t.ocu = ocuAtStart ∧
      t.cdu = cduAtStart i.closedMade i.openMade ∧ t.btu = btuAtStart st i.acPresent ∧
      t.chc = chcAtStart second i.carrier i.radioReady ∧ t.pru = pruAtStart first (delayDrawn st .normal false 0 second)) ∧
    ∀ (between : List LinkBit) (bytes : List Byte), Brings none between bytes → FrameIsGood bytes →
      (∀ f ∈ [((measFields bytes).ia, st.pickupPh), ((measFields bytes).ib, st.pickupPh), ((measFields bytes).ic, st.pickupPh),
        ((measFields bytes).ig, st.pickupGd)], f.1 * 256 / f.2 < 256) →
      ∃ t, exec (.coldStart settings store i between order) s = .next t ∧ t.now = 0 ∧
        t.chc.lfsr = nextLfsr second ∧
        t.pru = { pruAtStart first (delayDrawn st t.btu.reserve false 0 (nextLfsr second)) with pace := none } ∧
        t.mfp.lastGood = some (measFields bytes) ∧ t.mfp.stalled = false ∧ t.svp.service = .listen ∧ t.svp.settings = st
end

