-- ==== Sys2Proof/Laws/Assembly.lean ====
section
/-! SUPPORT. What the assembly of a measurement frame does with bits (R1): bits that are held, bits that are discarded, a short
frame, and the bits that bring a frame to its arrival. -/

namespace Sys2Proof.Machine

/-- The bits of a byte spell the byte. -/
theorem byte_of_bits (b : Byte) :
    BitVec.ofNat 8
        ([b.getLsbD 7, b.getLsbD 6, b.getLsbD 5, b.getLsbD 4, b.getLsbD 3, b.getLsbD 2, b.getLsbD 1,
          b.getLsbD 0].foldl (fun v b => 2 * v + b.toNat) 0) = b := by
  revert b; decide +kernel

theorem bitsOf_length (bytes : List Byte) : (bitsOf bytes).length = 8 * bytes.length := by
  induction bytes with
  | nil => rfl
  | cons b rest ih => simp only [bitsOf, List.flatMap_cons, List.length_append] at *; simp; omega

/-- The bits of some bytes spell those bytes (R1). -/
theorem bytesOfBits_bitsOf (bytes : List Byte) : bytesOfBits (bitsOf bytes) = bytes := by
  induction bytes with
  | nil => rfl
  | cons b rest ih =>
    simp only [bitsOf, List.flatMap_cons, List.cons_append, List.nil_append, bytesOfBits, byte_of_bits] at *
    rw [ih]

/-- Some bits after others. -/
theorem sampleBits_append (frame : Option (List Bool)) (a b : List LinkBit) :
    sampleBits frame (a ++ b) =
      ((sampleBits (sampleBits frame a).1 b).1, (sampleBits frame a).2 ++ (sampleBits (sampleBits frame a).1 b).2) := by
  induction a generalizing frame with
  | nil => rfl
  | cons x rest ih => simp only [List.cons_append, sampleBits, ih, List.append_assoc]

/-- With no frame in progress, bits without a start are discarded (R1). -/
theorem sampleBits_none (bits : List LinkBit) (h : Startless bits) : sampleBits none bits = (none, []) := by
  induction bits with
  | nil => rfl
  | cons x rest ih =>
    have hx := h x (by simp)
    simp [sampleBits, sampleBit, hx, ih fun b hb => h b (by simp [hb])]

/-- Bits short of the 192nd are held (R1). -/
theorem sampleBits_hold (held : List Bool) (bits : List LinkBit) (h : Startless bits) (short : held.length + bits.length < 192) :
    sampleBits (some held) bits = (some (held ++ bits.map (·.bit)), []) := by
  induction bits generalizing held with
  | nil => simp [sampleBits]
  | cons x rest ih =>
    have hx := h x (by simp)
    simp only [List.length_cons] at short
    have step : sampleBit (some held) x = (some (held ++ [x.bit]), none) := by
      simp only [sampleBit, hx]
      rw [if_neg (by decide), if_neg (by omega)]
    simp only [sampleBits, step]
    rw [ih _ (fun b hb => h b (by simp [hb])) (by simp; omega)]
    simp

/-- The 192nd bit is the arrival (R1). -/
theorem sampleBits_arrival (held : List Bool) (bits : List LinkBit) (h : Startless bits) (some_ : bits ≠ [])
    (whole : held.length + bits.length = 192) :
    sampleBits (some held) bits = (none, [.arrived (bytesOfBits (held ++ bits.map (·.bit)))]) := by
  obtain ⟨init, last, rfl⟩ : ∃ init last, bits = init ++ [last] :=
    ⟨bits.dropLast, bits.getLast some_, (List.dropLast_append_getLast some_).symm⟩
  simp only [List.length_append, List.length_cons, List.length_nil] at whole
  have hl := h last (by simp)
  rw [sampleBits_append, sampleBits_hold held init (fun b hb => h b (by simp [hb])) (by omega)]
  have full : (held ++ init.map (·.bit)).length + 1 = 192 := by simp; omega
  simp only [sampleBits, sampleBit, hl]
  rw [if_neg (by decide), if_pos full]
  simp

/-- Bits that bring a frame leave no frame in progress and come to its arrival alone (R1). -/
theorem sampleBits_brings (frame : Option (List Bool)) (bits : List LinkBit) (bytes : List Byte) (h : Brings frame bits bytes) :
    sampleBits frame bits = (none, [.arrived bytes]) := by
  obtain ⟨size, ⟨held, rfl, some_, startless, spells⟩ | ⟨rfl, lead, rest, first, rfl, before, start, startless, spells⟩⟩ := h
  · have whole := congrArg List.length spells
    simp only [List.length_append, List.length_map, bitsOf_length, size] at whole
    rw [sampleBits_arrival held bits startless some_ (by omega), spells, bytesOfBits_bitsOf]
  · have whole := congrArg List.length spells
    simp only [List.length_cons, List.length_map, bitsOf_length, size] at whole
    rw [sampleBits_append, sampleBits_none lead before]
    have begun : sampleBit none first = (some [first.bit], none) := by simp [sampleBit, start]
    have rest_ne : rest ≠ [] := by intro e; simp [e] at whole
    simp only [sampleBits, begun]
    rw [sampleBits_arrival [first.bit] rest startless rest_ne (by simp; omega)]
    simp [spells, bytesOfBits_bitsOf]

/-- Bits that bring a frame hand it over, with no frame in progress left (R1, R2). -/
theorem State.bitsToArrival_brings (s : State) (bits : List LinkBit) (bytes : List Byte) (order : List Delivery)
    (h : Brings s.mfp.frame bits bytes) :
    s.bitsToArrival bits order = (s.withMfp fun m => { m with frame := none }).frameArrives bytes order := by
  simp [State.bitsToArrival, State.sampled, State.withMfp, sampleBits_brings _ _ _ h]

/-- Bits without a start, short of the 192nd, are held in the frame in progress (R1). -/
theorem State.bitsToArrival_hold (s : State) (bits : List LinkBit) (held : List Bool) (order : List Delivery)
    (frame : s.mfp.frame = some held) (h : Startless bits) (short : held.length + bits.length < 192) :
    s.bitsToArrival bits order = s.withMfp fun m => { m with frame := some (held ++ bits.map (·.bit)) } := by
  simp [State.bitsToArrival, State.sampled, State.withMfp, frame, sampleBits_hold held bits h short]

/-- A field of one byte is that byte. -/
theorem field_one (bytes : List Byte) (off : Nat) (h : off < bytes.length) : field bytes off 1 = (bytes.getD off 0).toNat := by
  have split : (bytes.drop off).take 1 = [bytes.getD off 0] := by
    rw [List.drop_eq_getElem_cons h, List.take_succ_cons, List.take_zero]
    simp [List.getD_eq_getElem?_getD, List.getElem?_eq_getElem h]
  simp [field, split, fromBe]

/-- A field of two bytes has the first of them as its high byte. -/
theorem field_two (bytes : List Byte) (off : Nat) (h : off + 1 < bytes.length) :
    field bytes off 2 = (bytes.getD off 0).toNat * 256 + (bytes.getD (off + 1) 0).toNat := by
  have split : (bytes.drop off).take 2 = [bytes.getD off 0, bytes.getD (off + 1) 0] := by
    rw [List.drop_eq_getElem_cons (by omega), List.drop_eq_getElem_cons h, List.take_succ_cons, List.take_succ_cons,
      List.take_zero]
    simp [List.getD_eq_getElem?_getD, List.getElem?_eq_getElem h, List.getElem?_eq_getElem (show off < bytes.length by omega)]
  simp [field, split, fromBe]

/-- The judgement of a frame is R2's. -/
theorem goodFrame_iff (b : List Byte) : goodFrame b = true ↔ FrameIsGood b := by
  unfold goodFrame FrameIsGood
  simp only [Bool.and_eq_true, beq_iff_eq, decide_eq_true_eq, and_assoc]
  refine and_congr_right fun size => ?_
  rw [field_two b 0 (by omega), field_one b 11 (by omega), field_one b 12 (by omega)]
  have start : b.take 2 = [b.getD 0 0, b.getD 1 0] := by
    match b, size with
    | _ :: _ :: _, _ => rfl
  rw [start, Nat.zero_add]
  generalize b.getD 0 0 = b0, b.getD 1 0 = b1, b.getD 11 0 = b11, b.getD 12 0 = b12
  simp only [List.cons.injEq, and_true, ← BitVec.toNat_inj, BitVec.toNat_ofNat]
  have h0 := b0.isLt
  have h1 := b1.isLt
  refine and_congr (by omega) (and_congr_right fun _ => and_congr (by omega) (by simp))

end Sys2Proof.Machine
end

