-- ==== Sys2Proof/Laws/State.lean ====
section
/-! SUPPORT. One lemma for each field under each block update, so that no proof unfolds a record update. -/

namespace Sys2Proof.Machine

/-! ### withMfp -/

section

variable (s : State) (f : Mfp → Mfp)

@[simp] theorem State.withMfp_now : (s.withMfp f).now = s.now := rfl
@[simp] theorem State.withMfp_mfp : (s.withMfp f).mfp = f s.mfp := rfl
@[simp] theorem State.withMfp_ocu : (s.withMfp f).ocu = s.ocu := rfl
@[simp] theorem State.withMfp_sqc : (s.withMfp f).sqc = s.sqc := rfl
@[simp] theorem State.withMfp_cdu : (s.withMfp f).cdu = s.cdu := rfl
@[simp] theorem State.withMfp_btu : (s.withMfp f).btu = s.btu := rfl
@[simp] theorem State.withMfp_chc : (s.withMfp f).chc = s.chc := rfl
@[simp] theorem State.withMfp_pru : (s.withMfp f).pru = s.pru := rfl
@[simp] theorem State.withMfp_tgu : (s.withMfp f).tgu = s.tgu := rfl
@[simp] theorem State.withMfp_rcs : (s.withMfp f).rcs = s.rcs := rfl
@[simp] theorem State.withMfp_svp : (s.withMfp f).svp = s.svp := rfl
@[simp] theorem State.withMfp_inputs : (s.withMfp f).inputs = s.inputs := rfl
@[simp] theorem State.withMfp_free : (s.withMfp f).free = s.free := rfl
@[simp] theorem State.withMfp_pending : (s.withMfp f).pending = s.pending := rfl
@[simp] theorem State.withMfp_cfg : (s.withMfp f).cfg = s.cfg := rfl

end

/-! ### withOcu -/

section

variable (s : State) (f : Ocu → Ocu)

@[simp] theorem State.withOcu_now : (s.withOcu f).now = s.now := rfl
@[simp] theorem State.withOcu_mfp : (s.withOcu f).mfp = s.mfp := rfl
@[simp] theorem State.withOcu_ocu : (s.withOcu f).ocu = f s.ocu := rfl
@[simp] theorem State.withOcu_sqc : (s.withOcu f).sqc = s.sqc := rfl
@[simp] theorem State.withOcu_cdu : (s.withOcu f).cdu = s.cdu := rfl
@[simp] theorem State.withOcu_btu : (s.withOcu f).btu = s.btu := rfl
@[simp] theorem State.withOcu_chc : (s.withOcu f).chc = s.chc := rfl
@[simp] theorem State.withOcu_pru : (s.withOcu f).pru = s.pru := rfl
@[simp] theorem State.withOcu_tgu : (s.withOcu f).tgu = s.tgu := rfl
@[simp] theorem State.withOcu_rcs : (s.withOcu f).rcs = s.rcs := rfl
@[simp] theorem State.withOcu_svp : (s.withOcu f).svp = s.svp := rfl
@[simp] theorem State.withOcu_inputs : (s.withOcu f).inputs = s.inputs := rfl
@[simp] theorem State.withOcu_free : (s.withOcu f).free = s.free := rfl
@[simp] theorem State.withOcu_pending : (s.withOcu f).pending = s.pending := rfl
@[simp] theorem State.withOcu_cfg : (s.withOcu f).cfg = s.cfg := rfl

end

/-! ### withSqc -/

section

variable (s : State) (f : Sqc → Sqc)

@[simp] theorem State.withSqc_now : (s.withSqc f).now = s.now := rfl
@[simp] theorem State.withSqc_mfp : (s.withSqc f).mfp = s.mfp := rfl
@[simp] theorem State.withSqc_ocu : (s.withSqc f).ocu = s.ocu := rfl
@[simp] theorem State.withSqc_sqc : (s.withSqc f).sqc = f s.sqc := rfl
@[simp] theorem State.withSqc_cdu : (s.withSqc f).cdu = s.cdu := rfl
@[simp] theorem State.withSqc_btu : (s.withSqc f).btu = s.btu := rfl
@[simp] theorem State.withSqc_chc : (s.withSqc f).chc = s.chc := rfl
@[simp] theorem State.withSqc_pru : (s.withSqc f).pru = s.pru := rfl
@[simp] theorem State.withSqc_tgu : (s.withSqc f).tgu = s.tgu := rfl
@[simp] theorem State.withSqc_rcs : (s.withSqc f).rcs = s.rcs := rfl
@[simp] theorem State.withSqc_svp : (s.withSqc f).svp = s.svp := rfl
@[simp] theorem State.withSqc_inputs : (s.withSqc f).inputs = s.inputs := rfl
@[simp] theorem State.withSqc_free : (s.withSqc f).free = s.free := rfl
@[simp] theorem State.withSqc_pending : (s.withSqc f).pending = s.pending := rfl
@[simp] theorem State.withSqc_cfg : (s.withSqc f).cfg = s.cfg := rfl

end

/-! ### withCdu -/

section

variable (s : State) (f : Cdu → Cdu)

@[simp] theorem State.withCdu_now : (s.withCdu f).now = s.now := rfl
@[simp] theorem State.withCdu_mfp : (s.withCdu f).mfp = s.mfp := rfl
@[simp] theorem State.withCdu_ocu : (s.withCdu f).ocu = s.ocu := rfl
@[simp] theorem State.withCdu_sqc : (s.withCdu f).sqc = s.sqc := rfl
@[simp] theorem State.withCdu_cdu : (s.withCdu f).cdu = f s.cdu := rfl
@[simp] theorem State.withCdu_btu : (s.withCdu f).btu = s.btu := rfl
@[simp] theorem State.withCdu_chc : (s.withCdu f).chc = s.chc := rfl
@[simp] theorem State.withCdu_pru : (s.withCdu f).pru = s.pru := rfl
@[simp] theorem State.withCdu_tgu : (s.withCdu f).tgu = s.tgu := rfl
@[simp] theorem State.withCdu_rcs : (s.withCdu f).rcs = s.rcs := rfl
@[simp] theorem State.withCdu_svp : (s.withCdu f).svp = s.svp := rfl
@[simp] theorem State.withCdu_inputs : (s.withCdu f).inputs = s.inputs := rfl
@[simp] theorem State.withCdu_free : (s.withCdu f).free = s.free := rfl
@[simp] theorem State.withCdu_pending : (s.withCdu f).pending = s.pending := rfl
@[simp] theorem State.withCdu_cfg : (s.withCdu f).cfg = s.cfg := rfl

end

/-! ### withBtu -/

section

variable (s : State) (f : Btu → Btu)

@[simp] theorem State.withBtu_now : (s.withBtu f).now = s.now := rfl
@[simp] theorem State.withBtu_mfp : (s.withBtu f).mfp = s.mfp := rfl
@[simp] theorem State.withBtu_ocu : (s.withBtu f).ocu = s.ocu := rfl
@[simp] theorem State.withBtu_sqc : (s.withBtu f).sqc = s.sqc := rfl
@[simp] theorem State.withBtu_cdu : (s.withBtu f).cdu = s.cdu := rfl
@[simp] theorem State.withBtu_btu : (s.withBtu f).btu = f s.btu := rfl
@[simp] theorem State.withBtu_chc : (s.withBtu f).chc = s.chc := rfl
@[simp] theorem State.withBtu_pru : (s.withBtu f).pru = s.pru := rfl
@[simp] theorem State.withBtu_tgu : (s.withBtu f).tgu = s.tgu := rfl
@[simp] theorem State.withBtu_rcs : (s.withBtu f).rcs = s.rcs := rfl
@[simp] theorem State.withBtu_svp : (s.withBtu f).svp = s.svp := rfl
@[simp] theorem State.withBtu_inputs : (s.withBtu f).inputs = s.inputs := rfl
@[simp] theorem State.withBtu_free : (s.withBtu f).free = s.free := rfl
@[simp] theorem State.withBtu_pending : (s.withBtu f).pending = s.pending := rfl
@[simp] theorem State.withBtu_cfg : (s.withBtu f).cfg = s.cfg := rfl

end

/-! ### withChc -/

section

variable (s : State) (f : Chc → Chc)

@[simp] theorem State.withChc_now : (s.withChc f).now = s.now := rfl
@[simp] theorem State.withChc_mfp : (s.withChc f).mfp = s.mfp := rfl
@[simp] theorem State.withChc_ocu : (s.withChc f).ocu = s.ocu := rfl
@[simp] theorem State.withChc_sqc : (s.withChc f).sqc = s.sqc := rfl
@[simp] theorem State.withChc_cdu : (s.withChc f).cdu = s.cdu := rfl
@[simp] theorem State.withChc_btu : (s.withChc f).btu = s.btu := rfl
@[simp] theorem State.withChc_chc : (s.withChc f).chc = f s.chc := rfl
@[simp] theorem State.withChc_pru : (s.withChc f).pru = s.pru := rfl
@[simp] theorem State.withChc_tgu : (s.withChc f).tgu = s.tgu := rfl
@[simp] theorem State.withChc_rcs : (s.withChc f).rcs = s.rcs := rfl
@[simp] theorem State.withChc_svp : (s.withChc f).svp = s.svp := rfl
@[simp] theorem State.withChc_inputs : (s.withChc f).inputs = s.inputs := rfl
@[simp] theorem State.withChc_free : (s.withChc f).free = s.free := rfl
@[simp] theorem State.withChc_pending : (s.withChc f).pending = s.pending := rfl
@[simp] theorem State.withChc_cfg : (s.withChc f).cfg = s.cfg := rfl

end

/-! ### withPru -/

section

variable (s : State) (f : Pru → Pru)

@[simp] theorem State.withPru_now : (s.withPru f).now = s.now := rfl
@[simp] theorem State.withPru_mfp : (s.withPru f).mfp = s.mfp := rfl
@[simp] theorem State.withPru_ocu : (s.withPru f).ocu = s.ocu := rfl
@[simp] theorem State.withPru_sqc : (s.withPru f).sqc = s.sqc := rfl
@[simp] theorem State.withPru_cdu : (s.withPru f).cdu = s.cdu := rfl
@[simp] theorem State.withPru_btu : (s.withPru f).btu = s.btu := rfl
@[simp] theorem State.withPru_chc : (s.withPru f).chc = s.chc := rfl
@[simp] theorem State.withPru_pru : (s.withPru f).pru = f s.pru := rfl
@[simp] theorem State.withPru_tgu : (s.withPru f).tgu = s.tgu := rfl
@[simp] theorem State.withPru_rcs : (s.withPru f).rcs = s.rcs := rfl
@[simp] theorem State.withPru_svp : (s.withPru f).svp = s.svp := rfl
@[simp] theorem State.withPru_inputs : (s.withPru f).inputs = s.inputs := rfl
@[simp] theorem State.withPru_free : (s.withPru f).free = s.free := rfl
@[simp] theorem State.withPru_pending : (s.withPru f).pending = s.pending := rfl
@[simp] theorem State.withPru_cfg : (s.withPru f).cfg = s.cfg := rfl

end

/-! ### withTgu -/

section

variable (s : State) (f : Tgu → Tgu)

@[simp] theorem State.withTgu_now : (s.withTgu f).now = s.now := rfl
@[simp] theorem State.withTgu_mfp : (s.withTgu f).mfp = s.mfp := rfl
@[simp] theorem State.withTgu_ocu : (s.withTgu f).ocu = s.ocu := rfl
@[simp] theorem State.withTgu_sqc : (s.withTgu f).sqc = s.sqc := rfl
@[simp] theorem State.withTgu_cdu : (s.withTgu f).cdu = s.cdu := rfl
@[simp] theorem State.withTgu_btu : (s.withTgu f).btu = s.btu := rfl
@[simp] theorem State.withTgu_chc : (s.withTgu f).chc = s.chc := rfl
@[simp] theorem State.withTgu_pru : (s.withTgu f).pru = s.pru := rfl
@[simp] theorem State.withTgu_tgu : (s.withTgu f).tgu = f s.tgu := rfl
@[simp] theorem State.withTgu_rcs : (s.withTgu f).rcs = s.rcs := rfl
@[simp] theorem State.withTgu_svp : (s.withTgu f).svp = s.svp := rfl
@[simp] theorem State.withTgu_inputs : (s.withTgu f).inputs = s.inputs := rfl
@[simp] theorem State.withTgu_free : (s.withTgu f).free = s.free := rfl
@[simp] theorem State.withTgu_pending : (s.withTgu f).pending = s.pending := rfl
@[simp] theorem State.withTgu_cfg : (s.withTgu f).cfg = s.cfg := rfl

end

/-! ### withRcs -/

section

variable (s : State) (f : Rcs → Rcs)

@[simp] theorem State.withRcs_now : (s.withRcs f).now = s.now := rfl
@[simp] theorem State.withRcs_mfp : (s.withRcs f).mfp = s.mfp := rfl
@[simp] theorem State.withRcs_ocu : (s.withRcs f).ocu = s.ocu := rfl
@[simp] theorem State.withRcs_sqc : (s.withRcs f).sqc = s.sqc := rfl
@[simp] theorem State.withRcs_cdu : (s.withRcs f).cdu = s.cdu := rfl
@[simp] theorem State.withRcs_btu : (s.withRcs f).btu = s.btu := rfl
@[simp] theorem State.withRcs_chc : (s.withRcs f).chc = s.chc := rfl
@[simp] theorem State.withRcs_pru : (s.withRcs f).pru = s.pru := rfl
@[simp] theorem State.withRcs_tgu : (s.withRcs f).tgu = s.tgu := rfl
@[simp] theorem State.withRcs_rcs : (s.withRcs f).rcs = f s.rcs := rfl
@[simp] theorem State.withRcs_svp : (s.withRcs f).svp = s.svp := rfl
@[simp] theorem State.withRcs_inputs : (s.withRcs f).inputs = s.inputs := rfl
@[simp] theorem State.withRcs_free : (s.withRcs f).free = s.free := rfl
@[simp] theorem State.withRcs_pending : (s.withRcs f).pending = s.pending := rfl
@[simp] theorem State.withRcs_cfg : (s.withRcs f).cfg = s.cfg := rfl

end

/-! ### withSvp -/

section

variable (s : State) (f : Svp → Svp)

@[simp] theorem State.withSvp_now : (s.withSvp f).now = s.now := rfl
@[simp] theorem State.withSvp_mfp : (s.withSvp f).mfp = s.mfp := rfl
@[simp] theorem State.withSvp_ocu : (s.withSvp f).ocu = s.ocu := rfl
@[simp] theorem State.withSvp_sqc : (s.withSvp f).sqc = s.sqc := rfl
@[simp] theorem State.withSvp_cdu : (s.withSvp f).cdu = s.cdu := rfl
@[simp] theorem State.withSvp_btu : (s.withSvp f).btu = s.btu := rfl
@[simp] theorem State.withSvp_chc : (s.withSvp f).chc = s.chc := rfl
@[simp] theorem State.withSvp_pru : (s.withSvp f).pru = s.pru := rfl
@[simp] theorem State.withSvp_tgu : (s.withSvp f).tgu = s.tgu := rfl
@[simp] theorem State.withSvp_rcs : (s.withSvp f).rcs = s.rcs := rfl
@[simp] theorem State.withSvp_svp : (s.withSvp f).svp = f s.svp := rfl
@[simp] theorem State.withSvp_inputs : (s.withSvp f).inputs = s.inputs := rfl
@[simp] theorem State.withSvp_free : (s.withSvp f).free = s.free := rfl
@[simp] theorem State.withSvp_pending : (s.withSvp f).pending = s.pending := rfl

end

/-! ### withInputs -/

section

variable (s : State) (f : Inputs → Inputs)

@[simp] theorem State.withInputs_now : (s.withInputs f).now = s.now := rfl
@[simp] theorem State.withInputs_mfp : (s.withInputs f).mfp = s.mfp := rfl
@[simp] theorem State.withInputs_ocu : (s.withInputs f).ocu = s.ocu := rfl
@[simp] theorem State.withInputs_sqc : (s.withInputs f).sqc = s.sqc := rfl
@[simp] theorem State.withInputs_cdu : (s.withInputs f).cdu = s.cdu := rfl
@[simp] theorem State.withInputs_btu : (s.withInputs f).btu = s.btu := rfl
@[simp] theorem State.withInputs_chc : (s.withInputs f).chc = s.chc := rfl
@[simp] theorem State.withInputs_pru : (s.withInputs f).pru = s.pru := rfl
@[simp] theorem State.withInputs_tgu : (s.withInputs f).tgu = s.tgu := rfl
@[simp] theorem State.withInputs_rcs : (s.withInputs f).rcs = s.rcs := rfl
@[simp] theorem State.withInputs_svp : (s.withInputs f).svp = s.svp := rfl
@[simp] theorem State.withInputs_inputs : (s.withInputs f).inputs = f s.inputs := rfl
@[simp] theorem State.withInputs_free : (s.withInputs f).free = s.free := rfl
@[simp] theorem State.withInputs_pending : (s.withInputs f).pending = s.pending := rfl
@[simp] theorem State.withInputs_cfg : (s.withInputs f).cfg = s.cfg := rfl

end

/-! ### onlyIf and whenStarted -/

section

variable (s : State) (c : Bool) (f : State → State)

@[simp] theorem State.onlyIf_now : (s.onlyIf c f).now = if c then (f s).now else s.now := by
  cases c <;> rfl
@[simp] theorem State.onlyIf_mfp : (s.onlyIf c f).mfp = if c then (f s).mfp else s.mfp := by
  cases c <;> rfl
@[simp] theorem State.onlyIf_ocu : (s.onlyIf c f).ocu = if c then (f s).ocu else s.ocu := by
  cases c <;> rfl
@[simp] theorem State.onlyIf_sqc : (s.onlyIf c f).sqc = if c then (f s).sqc else s.sqc := by
  cases c <;> rfl
@[simp] theorem State.onlyIf_cdu : (s.onlyIf c f).cdu = if c then (f s).cdu else s.cdu := by
  cases c <;> rfl
@[simp] theorem State.onlyIf_btu : (s.onlyIf c f).btu = if c then (f s).btu else s.btu := by
  cases c <;> rfl
@[simp] theorem State.onlyIf_chc : (s.onlyIf c f).chc = if c then (f s).chc else s.chc := by
  cases c <;> rfl
@[simp] theorem State.onlyIf_pru : (s.onlyIf c f).pru = if c then (f s).pru else s.pru := by
  cases c <;> rfl
@[simp] theorem State.onlyIf_tgu : (s.onlyIf c f).tgu = if c then (f s).tgu else s.tgu := by
  cases c <;> rfl
@[simp] theorem State.onlyIf_rcs : (s.onlyIf c f).rcs = if c then (f s).rcs else s.rcs := by
  cases c <;> rfl
@[simp] theorem State.onlyIf_svp : (s.onlyIf c f).svp = if c then (f s).svp else s.svp := by
  cases c <;> rfl
@[simp] theorem State.onlyIf_inputs : (s.onlyIf c f).inputs = if c then (f s).inputs else s.inputs := by
  cases c <;> rfl
@[simp] theorem State.onlyIf_free : (s.onlyIf c f).free = if c then (f s).free else s.free := by
  cases c <;> rfl
@[simp] theorem State.onlyIf_pending : (s.onlyIf c f).pending = if c then (f s).pending else s.pending := by
  cases c <;> rfl
@[simp] theorem State.onlyIf_cfg : (s.onlyIf c f).cfg = if c then (f s).cfg else s.cfg := by
  cases c <;> rfl

@[simp] theorem State.onlyIf_true : s.onlyIf true f = f s := rfl
@[simp] theorem State.onlyIf_false : s.onlyIf false f = s := rfl

/-- A started station acts. -/
theorem State.whenStarted_of_started (h : s.started = true) : s.whenStarted f = f s := by simp [State.whenStarted, h]

/-- A station not started discards the event (log 2). -/
theorem State.whenStarted_of_not_started (h : s.started = false) : s.whenStarted f = s := by
  simp [State.whenStarted, h]

end

end Sys2Proof.Machine
end

