-- ==== Sys2Proof/Laws/FramesChannel.lean ====
section
/-! SUPPORT. What the operations of the channel, the reports, the battery and the coils leave unchanged. -/

namespace Sys2Proof.Machine

@[simp] theorem State.record_frame (s : State) (body : RecordBody) :
    (s.record body).now = s.now ∧ (s.record body).mfp = s.mfp ∧ (s.record body).ocu = s.ocu ∧ (s.record body).sqc = s.sqc ∧
    (s.record body).cdu = s.cdu ∧ (s.record body).btu = s.btu ∧ (s.record body).chc = s.chc ∧ (s.record body).pru = s.pru ∧
    (s.record body).tgu = s.tgu ∧ (s.record body).svp = s.svp ∧ (s.record body).free = s.free ∧
    (s.record body).inputs = s.inputs ∧ (s.record body).pending = s.pending := by
  simp [State.record]

@[simp] theorem State.advanceLfsr_frame (s : State) :
    s.advanceLfsr.now = s.now ∧ s.advanceLfsr.mfp = s.mfp ∧ s.advanceLfsr.ocu = s.ocu ∧ s.advanceLfsr.sqc = s.sqc ∧
    s.advanceLfsr.cdu = s.cdu ∧ s.advanceLfsr.btu = s.btu ∧ s.advanceLfsr.pru = s.pru ∧ s.advanceLfsr.tgu = s.tgu ∧
    s.advanceLfsr.rcs = s.rcs ∧ s.advanceLfsr.svp = s.svp ∧ s.advanceLfsr.free = s.free ∧ s.advanceLfsr.inputs = s.inputs ∧
    s.advanceLfsr.pending = s.pending := by
  simp [State.advanceLfsr]

@[simp] theorem State.enterDefer_frame (s : State) :
    s.enterDefer.now = s.now ∧ s.enterDefer.mfp = s.mfp ∧ s.enterDefer.ocu = s.ocu ∧ s.enterDefer.sqc = s.sqc ∧
    s.enterDefer.cdu = s.cdu ∧ s.enterDefer.btu = s.btu ∧ s.enterDefer.pru = s.pru ∧ s.enterDefer.tgu = s.tgu ∧
    s.enterDefer.rcs = s.rcs ∧ s.enterDefer.svp = s.svp ∧ s.enterDefer.free = s.free ∧ s.enterDefer.inputs = s.inputs ∧
    s.enterDefer.pending = s.pending := by
  simp [State.enterDefer]

@[simp] theorem State.enterIdle_frame (s : State) :
    s.enterIdle.now = s.now ∧ s.enterIdle.mfp = s.mfp ∧ s.enterIdle.ocu = s.ocu ∧ s.enterIdle.sqc = s.sqc ∧
    s.enterIdle.cdu = s.cdu ∧ s.enterIdle.btu = s.btu ∧ s.enterIdle.pru = s.pru ∧ s.enterIdle.tgu = s.tgu ∧
    s.enterIdle.rcs = s.rcs ∧ s.enterIdle.svp = s.svp ∧ s.enterIdle.free = s.free ∧ s.enterIdle.inputs = s.inputs ∧
    s.enterIdle.pending = s.pending := by
  simp [State.enterIdle]

@[simp] theorem State.deferOrIdle_frame (s : State) :
    s.deferOrIdle.now = s.now ∧ s.deferOrIdle.mfp = s.mfp ∧ s.deferOrIdle.ocu = s.ocu ∧ s.deferOrIdle.sqc = s.sqc ∧
    s.deferOrIdle.cdu = s.cdu ∧ s.deferOrIdle.btu = s.btu ∧ s.deferOrIdle.pru = s.pru ∧ s.deferOrIdle.tgu = s.tgu ∧
    s.deferOrIdle.rcs = s.rcs ∧ s.deferOrIdle.svp = s.svp ∧ s.deferOrIdle.free = s.free ∧ s.deferOrIdle.inputs = s.inputs ∧
    s.deferOrIdle.pending = s.pending := by
  unfold State.deferOrIdle
  split <;> simp

@[simp] theorem State.redraw_frame (s : State) (e : TxEntry) :
    (s.redraw e).now = s.now ∧ (s.redraw e).mfp = s.mfp ∧ (s.redraw e).ocu = s.ocu ∧ (s.redraw e).sqc = s.sqc ∧
    (s.redraw e).cdu = s.cdu ∧ (s.redraw e).btu = s.btu ∧ (s.redraw e).pru = s.pru ∧ (s.redraw e).tgu = s.tgu ∧
    (s.redraw e).rcs = s.rcs ∧ (s.redraw e).svp = s.svp ∧ (s.redraw e).free = s.free ∧ (s.redraw e).inputs = s.inputs ∧
    (s.redraw e).pending = s.pending := by
  unfold State.redraw
  repeat' split
  all_goals simp

@[simp] theorem State.settleTransmitter_frame (s : State) :
    s.settleTransmitter.now = s.now ∧ s.settleTransmitter.mfp = s.mfp ∧ s.settleTransmitter.ocu = s.ocu ∧
    s.settleTransmitter.sqc = s.sqc ∧ s.settleTransmitter.cdu = s.cdu ∧ s.settleTransmitter.btu = s.btu ∧
    s.settleTransmitter.pru = s.pru ∧ s.settleTransmitter.tgu = s.tgu ∧ s.settleTransmitter.rcs = s.rcs ∧
    s.settleTransmitter.svp = s.svp ∧ s.settleTransmitter.free = s.free ∧ s.settleTransmitter.inputs = s.inputs ∧
    s.settleTransmitter.pending = s.pending := by
  unfold State.settleTransmitter
  split <;> simp

@[simp] theorem State.judgeBusy_frame (s : State) :
    s.judgeBusy.now = s.now ∧ s.judgeBusy.mfp = s.mfp ∧ s.judgeBusy.ocu = s.ocu ∧ s.judgeBusy.sqc = s.sqc ∧
    s.judgeBusy.cdu = s.cdu ∧ s.judgeBusy.btu = s.btu ∧ s.judgeBusy.pru = s.pru ∧ s.judgeBusy.tgu = s.tgu ∧
    s.judgeBusy.rcs = s.rcs ∧ s.judgeBusy.svp = s.svp ∧ s.judgeBusy.free = s.free ∧ s.judgeBusy.inputs = s.inputs ∧
    s.judgeBusy.pending = s.pending := by
  unfold State.judgeBusy
  split <;> simp

@[simp] theorem State.loseReport_frame (s : State) :
    s.loseReport.now = s.now ∧ s.loseReport.mfp = s.mfp ∧ s.loseReport.ocu = s.ocu ∧ s.loseReport.sqc = s.sqc ∧
    s.loseReport.cdu = s.cdu ∧ s.loseReport.btu = s.btu ∧ s.loseReport.pru = s.pru ∧ s.loseReport.tgu = s.tgu ∧
    s.loseReport.rcs = s.rcs ∧ s.loseReport.svp = s.svp ∧ s.loseReport.free = s.free ∧ s.loseReport.inputs = s.inputs ∧
    s.loseReport.pending = s.pending := by
  simp [State.loseReport]

@[simp] theorem State.joinQueue_frame (s : State) (e : TxEntry) :
    (s.joinQueue e).now = s.now ∧ (s.joinQueue e).mfp = s.mfp ∧ (s.joinQueue e).ocu = s.ocu ∧ (s.joinQueue e).sqc = s.sqc ∧
    (s.joinQueue e).cdu = s.cdu ∧ (s.joinQueue e).btu = s.btu ∧ (s.joinQueue e).pru = s.pru ∧ (s.joinQueue e).tgu = s.tgu ∧
    (s.joinQueue e).rcs = s.rcs ∧ (s.joinQueue e).svp = s.svp ∧ (s.joinQueue e).free = s.free ∧
    (s.joinQueue e).inputs = s.inputs ∧ (s.joinQueue e).pending = s.pending := by
  unfold State.joinQueue
  split <;> simp

@[simp] theorem State.takeReport_frame (s : State) (kind : ReportKind) (seq : Byte) (payload : List Byte) :
    (s.takeReport kind seq payload).now = s.now ∧ (s.takeReport kind seq payload).mfp = s.mfp ∧
    (s.takeReport kind seq payload).ocu = s.ocu ∧ (s.takeReport kind seq payload).sqc = s.sqc ∧
    (s.takeReport kind seq payload).cdu = s.cdu ∧ (s.takeReport kind seq payload).btu = s.btu ∧
    (s.takeReport kind seq payload).pru = s.pru ∧ (s.takeReport kind seq payload).tgu = s.tgu ∧
    (s.takeReport kind seq payload).rcs = s.rcs ∧ (s.takeReport kind seq payload).svp = s.svp ∧
    (s.takeReport kind seq payload).free = s.free ∧ (s.takeReport kind seq payload).inputs = s.inputs ∧
    (s.takeReport kind seq payload).pending = s.pending := by
  unfold State.takeReport
  repeat' split
  all_goals simp

@[simp] theorem State.dropStatus_frame (s : State) :
    s.dropStatus.now = s.now ∧ s.dropStatus.mfp = s.mfp ∧ s.dropStatus.ocu = s.ocu ∧ s.dropStatus.sqc = s.sqc ∧
    s.dropStatus.cdu = s.cdu ∧ s.dropStatus.btu = s.btu ∧ s.dropStatus.pru = s.pru ∧ s.dropStatus.tgu = s.tgu ∧
    s.dropStatus.rcs = s.rcs ∧ s.dropStatus.svp = s.svp ∧ s.dropStatus.free = s.free ∧ s.dropStatus.inputs = s.inputs ∧
    s.dropStatus.pending = s.pending := by
  simp [State.dropStatus]

@[simp] theorem State.dropInService_frame (s : State) :
    s.dropInService.now = s.now ∧ s.dropInService.mfp = s.mfp ∧ s.dropInService.ocu = s.ocu ∧ s.dropInService.sqc = s.sqc ∧
    s.dropInService.cdu = s.cdu ∧ s.dropInService.btu = s.btu ∧ s.dropInService.pru = s.pru ∧ s.dropInService.tgu = s.tgu ∧
    s.dropInService.rcs = s.rcs ∧ s.dropInService.svp = s.svp ∧ s.dropInService.free = s.free ∧
    s.dropInService.inputs = s.inputs ∧ s.dropInService.pending = s.pending := by
  simp [State.dropInService]

@[simp] theorem State.changeInService_frame (s : State) (f : TxEntry → TxEntry) :
    (s.changeInService f).now = s.now ∧ (s.changeInService f).mfp = s.mfp ∧ (s.changeInService f).ocu = s.ocu ∧
    (s.changeInService f).sqc = s.sqc ∧ (s.changeInService f).cdu = s.cdu ∧ (s.changeInService f).btu = s.btu ∧
    (s.changeInService f).pru = s.pru ∧ (s.changeInService f).tgu = s.tgu ∧ (s.changeInService f).rcs = s.rcs ∧
    (s.changeInService f).svp = s.svp ∧ (s.changeInService f).free = s.free ∧ (s.changeInService f).inputs = s.inputs ∧
    (s.changeInService f).pending = s.pending := by
  simp [State.changeInService]

@[simp] theorem State.failAttempt_frame (s : State) (cause : AttemptCause) :
    (s.failAttempt cause).now = s.now ∧ (s.failAttempt cause).mfp = s.mfp ∧ (s.failAttempt cause).ocu = s.ocu ∧
    (s.failAttempt cause).sqc = s.sqc ∧ (s.failAttempt cause).cdu = s.cdu ∧ (s.failAttempt cause).btu = s.btu ∧
    (s.failAttempt cause).pru = s.pru ∧ (s.failAttempt cause).tgu = s.tgu ∧ (s.failAttempt cause).svp = s.svp ∧
    (s.failAttempt cause).free = s.free ∧ (s.failAttempt cause).inputs = s.inputs ∧
    (s.failAttempt cause).pending = s.pending := by
  unfold State.failAttempt
  repeat' split
  all_goals simp

@[simp] theorem State.countCopy_frame (s : State) :
    s.countCopy.now = s.now ∧ s.countCopy.mfp = s.mfp ∧ s.countCopy.ocu = s.ocu ∧ s.countCopy.sqc = s.sqc ∧
    s.countCopy.cdu = s.cdu ∧ s.countCopy.btu = s.btu ∧ s.countCopy.pru = s.pru ∧ s.countCopy.tgu = s.tgu ∧
    s.countCopy.rcs = s.rcs ∧ s.countCopy.svp = s.svp ∧ s.countCopy.free = s.free ∧ s.countCopy.inputs = s.inputs ∧
    s.countCopy.pending = s.pending := by
  unfold State.countCopy
  repeat' split
  all_goals simp

@[simp] theorem State.enterKeyDown_frame (s : State) :
    s.enterKeyDown.now = s.now ∧ s.enterKeyDown.mfp = s.mfp ∧ s.enterKeyDown.ocu = s.ocu ∧ s.enterKeyDown.sqc = s.sqc ∧
    s.enterKeyDown.cdu = s.cdu ∧ s.enterKeyDown.btu = s.btu ∧ s.enterKeyDown.pru = s.pru ∧ s.enterKeyDown.tgu = s.tgu ∧
    s.enterKeyDown.rcs = s.rcs ∧ s.enterKeyDown.svp = s.svp ∧ s.enterKeyDown.free = s.free ∧
    s.enterKeyDown.inputs = s.inputs ∧ s.enterKeyDown.pending = s.pending := by
  simp [State.enterKeyDown]

@[simp] theorem State.releaseKey_frame (s : State) :
    s.releaseKey.now = s.now ∧ s.releaseKey.mfp = s.mfp ∧ s.releaseKey.ocu = s.ocu ∧ s.releaseKey.sqc = s.sqc ∧
    s.releaseKey.cdu = s.cdu ∧ s.releaseKey.btu = s.btu ∧ s.releaseKey.pru = s.pru ∧ s.releaseKey.tgu = s.tgu ∧
    s.releaseKey.rcs = s.rcs ∧ s.releaseKey.svp = s.svp ∧ s.releaseKey.free = s.free ∧ s.releaseKey.inputs = s.inputs ∧
    s.releaseKey.pending = s.pending := by
  simp [State.releaseKey]

@[simp] theorem State.channelReset_frame (s : State) :
    s.channelReset.now = s.now ∧ s.channelReset.mfp = s.mfp ∧ s.channelReset.ocu = s.ocu ∧ s.channelReset.sqc = s.sqc ∧
    s.channelReset.cdu = s.cdu ∧ s.channelReset.btu = s.btu ∧ s.channelReset.pru = s.pru ∧ s.channelReset.tgu = s.tgu ∧
    s.channelReset.svp = s.svp ∧ s.channelReset.free = s.free ∧ s.channelReset.inputs = s.inputs ∧
    s.channelReset.pending = s.pending := by
  simp [State.channelReset]

@[simp] theorem State.enterSending_frame (s : State) :
    s.enterSending.now = s.now ∧ s.enterSending.mfp = s.mfp ∧ s.enterSending.ocu = s.ocu ∧ s.enterSending.sqc = s.sqc ∧
    s.enterSending.cdu = s.cdu ∧ s.enterSending.btu = s.btu ∧ s.enterSending.pru = s.pru ∧ s.enterSending.tgu = s.tgu ∧
    s.enterSending.rcs = s.rcs ∧ s.enterSending.svp = s.svp ∧ s.enterSending.free = s.free ∧
    s.enterSending.inputs = s.inputs ∧ s.enterSending.pending = s.pending := by
  unfold State.enterSending
  split <;> simp

@[simp] theorem State.buildReport_frame (s : State) (kind : ReportKind) (payload : List Byte) :
    (s.buildReport kind payload).now = s.now ∧ (s.buildReport kind payload).mfp = s.mfp ∧
    (s.buildReport kind payload).ocu = s.ocu ∧ (s.buildReport kind payload).sqc = s.sqc ∧
    (s.buildReport kind payload).cdu = s.cdu ∧ (s.buildReport kind payload).btu = s.btu ∧
    (s.buildReport kind payload).tgu = s.tgu ∧ (s.buildReport kind payload).rcs = s.rcs ∧
    (s.buildReport kind payload).svp = s.svp ∧ (s.buildReport kind payload).free = s.free ∧
    (s.buildReport kind payload).inputs = s.inputs ∧ (s.buildReport kind payload).pending = s.pending := by
  simp [State.buildReport]

@[simp] theorem State.buildPickup_frame (s : State) (elements : ElementSet) (largest : Nat) :
    (s.buildPickup elements largest).now = s.now ∧ (s.buildPickup elements largest).mfp = s.mfp ∧
    (s.buildPickup elements largest).ocu = s.ocu ∧ (s.buildPickup elements largest).sqc = s.sqc ∧
    (s.buildPickup elements largest).cdu = s.cdu ∧ (s.buildPickup elements largest).btu = s.btu ∧
    (s.buildPickup elements largest).tgu = s.tgu ∧ (s.buildPickup elements largest).rcs = s.rcs ∧
    (s.buildPickup elements largest).svp = s.svp ∧ (s.buildPickup elements largest).free = s.free ∧
    (s.buildPickup elements largest).inputs = s.inputs ∧ (s.buildPickup elements largest).pending = s.pending := by
  simp [State.buildPickup]

@[simp] theorem State.buildTrip_frame (s : State) (t : CurrentTrip) (failed : Bool) :
    (s.buildTrip t failed).now = s.now ∧ (s.buildTrip t failed).mfp = s.mfp ∧ (s.buildTrip t failed).ocu = s.ocu ∧
    (s.buildTrip t failed).sqc = s.sqc ∧ (s.buildTrip t failed).cdu = s.cdu ∧ (s.buildTrip t failed).btu = s.btu ∧
    (s.buildTrip t failed).tgu = s.tgu ∧ (s.buildTrip t failed).rcs = s.rcs ∧ (s.buildTrip t failed).svp = s.svp ∧
    (s.buildTrip t failed).free = s.free ∧ (s.buildTrip t failed).inputs = s.inputs ∧
    (s.buildTrip t failed).pending = s.pending := by
  simp [State.buildTrip]

@[simp] theorem State.buildClear_frame (s : State) (elements : ElementSet) (stepped : Bool) :
    (s.buildClear elements stepped).now = s.now ∧ (s.buildClear elements stepped).mfp = s.mfp ∧
    (s.buildClear elements stepped).ocu = s.ocu ∧ (s.buildClear elements stepped).sqc = s.sqc ∧
    (s.buildClear elements stepped).cdu = s.cdu ∧ (s.buildClear elements stepped).btu = s.btu ∧
    (s.buildClear elements stepped).tgu = s.tgu ∧ (s.buildClear elements stepped).rcs = s.rcs ∧
    (s.buildClear elements stepped).svp = s.svp ∧ (s.buildClear elements stepped).free = s.free ∧
    (s.buildClear elements stepped).inputs = s.inputs ∧ (s.buildClear elements stepped).pending = s.pending := by
  simp [State.buildClear]

@[simp] theorem State.buildLockout_frame (s : State) (reason : LockReason) :
    (s.buildLockout reason).now = s.now ∧ (s.buildLockout reason).mfp = s.mfp ∧ (s.buildLockout reason).ocu = s.ocu ∧
    (s.buildLockout reason).sqc = s.sqc ∧ (s.buildLockout reason).cdu = s.cdu ∧ (s.buildLockout reason).btu = s.btu ∧
    (s.buildLockout reason).tgu = s.tgu ∧ (s.buildLockout reason).rcs = s.rcs ∧ (s.buildLockout reason).svp = s.svp ∧
    (s.buildLockout reason).free = s.free ∧ (s.buildLockout reason).inputs = s.inputs ∧
    (s.buildLockout reason).pending = s.pending := by
  simp [State.buildLockout]

@[simp] theorem State.buildTag_frame (s : State) (code : Word16) :
    (s.buildTag code).now = s.now ∧ (s.buildTag code).mfp = s.mfp ∧ (s.buildTag code).ocu = s.ocu ∧
    (s.buildTag code).sqc = s.sqc ∧ (s.buildTag code).cdu = s.cdu ∧ (s.buildTag code).btu = s.btu ∧
    (s.buildTag code).tgu = s.tgu ∧ (s.buildTag code).rcs = s.rcs ∧ (s.buildTag code).svp = s.svp ∧
    (s.buildTag code).free = s.free ∧ (s.buildTag code).inputs = s.inputs ∧ (s.buildTag code).pending = s.pending := by
  simp [State.buildTag]

@[simp] theorem State.buildUntag_frame (s : State) (code : Word16) :
    (s.buildUntag code).now = s.now ∧ (s.buildUntag code).mfp = s.mfp ∧ (s.buildUntag code).ocu = s.ocu ∧
    (s.buildUntag code).sqc = s.sqc ∧ (s.buildUntag code).cdu = s.cdu ∧ (s.buildUntag code).btu = s.btu ∧
    (s.buildUntag code).tgu = s.tgu ∧ (s.buildUntag code).rcs = s.rcs ∧ (s.buildUntag code).svp = s.svp ∧
    (s.buildUntag code).free = s.free ∧ (s.buildUntag code).inputs = s.inputs ∧ (s.buildUntag code).pending = s.pending := by
  simp [State.buildUntag]

@[simp] theorem State.buildShutdown_frame (s : State) :
    s.buildShutdown.now = s.now ∧ s.buildShutdown.mfp = s.mfp ∧ s.buildShutdown.ocu = s.ocu ∧ s.buildShutdown.sqc = s.sqc ∧
    s.buildShutdown.cdu = s.cdu ∧ s.buildShutdown.btu = s.btu ∧ s.buildShutdown.tgu = s.tgu ∧ s.buildShutdown.rcs = s.rcs ∧
    s.buildShutdown.svp = s.svp ∧ s.buildShutdown.free = s.free ∧ s.buildShutdown.inputs = s.inputs ∧
    s.buildShutdown.pending = s.pending := by
  simp [State.buildShutdown]

@[simp] theorem State.buildBeacon_frame (s : State) :
    s.buildBeacon.now = s.now ∧ s.buildBeacon.mfp = s.mfp ∧ s.buildBeacon.ocu = s.ocu ∧ s.buildBeacon.sqc = s.sqc ∧
    s.buildBeacon.cdu = s.cdu ∧ s.buildBeacon.btu = s.btu ∧ s.buildBeacon.tgu = s.tgu ∧ s.buildBeacon.rcs = s.rcs ∧
    s.buildBeacon.svp = s.svp ∧ s.buildBeacon.free = s.free ∧ s.buildBeacon.inputs = s.inputs ∧
    s.buildBeacon.pending = s.pending := by
  simp [State.buildBeacon]

@[simp] theorem State.stopBeacon_frame (s : State) :
    s.stopBeacon.now = s.now ∧ s.stopBeacon.mfp = s.mfp ∧ s.stopBeacon.ocu = s.ocu ∧ s.stopBeacon.sqc = s.sqc ∧
    s.stopBeacon.cdu = s.cdu ∧ s.stopBeacon.btu = s.btu ∧ s.stopBeacon.chc = s.chc ∧ s.stopBeacon.tgu = s.tgu ∧
    s.stopBeacon.rcs = s.rcs ∧ s.stopBeacon.svp = s.svp ∧ s.stopBeacon.free = s.free ∧ s.stopBeacon.inputs = s.inputs ∧
    s.stopBeacon.pending = s.pending := by
  simp [State.stopBeacon]

@[simp] theorem State.reloadBeacon_frame (s : State) :
    s.reloadBeacon.now = s.now ∧ s.reloadBeacon.mfp = s.mfp ∧ s.reloadBeacon.ocu = s.ocu ∧ s.reloadBeacon.sqc = s.sqc ∧
    s.reloadBeacon.cdu = s.cdu ∧ s.reloadBeacon.btu = s.btu ∧ s.reloadBeacon.chc = s.chc ∧ s.reloadBeacon.tgu = s.tgu ∧
    s.reloadBeacon.rcs = s.rcs ∧ s.reloadBeacon.svp = s.svp ∧ s.reloadBeacon.free = s.free ∧
    s.reloadBeacon.inputs = s.inputs ∧ s.reloadBeacon.pending = s.pending := by
  simp [State.reloadBeacon]

@[simp] theorem State.expireBeacon_frame (s : State) :
    s.expireBeacon.now = s.now ∧ s.expireBeacon.mfp = s.mfp ∧ s.expireBeacon.ocu = s.ocu ∧ s.expireBeacon.sqc = s.sqc ∧
    s.expireBeacon.cdu = s.cdu ∧ s.expireBeacon.btu = s.btu ∧ s.expireBeacon.tgu = s.tgu ∧ s.expireBeacon.rcs = s.rcs ∧
    s.expireBeacon.svp = s.svp ∧ s.expireBeacon.free = s.free ∧ s.expireBeacon.inputs = s.inputs ∧
    s.expireBeacon.pending = s.pending := by
  simp [State.expireBeacon]

@[simp] theorem State.drawBeaconDelay_frame (s : State) :
    s.drawBeaconDelay.now = s.now ∧ s.drawBeaconDelay.mfp = s.mfp ∧ s.drawBeaconDelay.ocu = s.ocu ∧
    s.drawBeaconDelay.sqc = s.sqc ∧ s.drawBeaconDelay.cdu = s.cdu ∧ s.drawBeaconDelay.btu = s.btu ∧
    s.drawBeaconDelay.tgu = s.tgu ∧ s.drawBeaconDelay.rcs = s.rcs ∧ s.drawBeaconDelay.svp = s.svp ∧
    s.drawBeaconDelay.free = s.free ∧ s.drawBeaconDelay.inputs = s.inputs ∧ s.drawBeaconDelay.pending = s.pending := by
  simp [State.drawBeaconDelay]

@[simp] theorem State.respanBeacon_frame (s : State) :
    s.respanBeacon.now = s.now ∧ s.respanBeacon.mfp = s.mfp ∧ s.respanBeacon.ocu = s.ocu ∧ s.respanBeacon.sqc = s.sqc ∧
    s.respanBeacon.cdu = s.cdu ∧ s.respanBeacon.btu = s.btu ∧ s.respanBeacon.tgu = s.tgu ∧ s.respanBeacon.rcs = s.rcs ∧
    s.respanBeacon.svp = s.svp ∧ s.respanBeacon.free = s.free ∧ s.respanBeacon.inputs = s.inputs ∧
    s.respanBeacon.pending = s.pending := by
  unfold State.respanBeacon
  repeat' split
  all_goals simp

@[simp] theorem State.followReserve_frame (s : State) (old : Reserve) :
    (s.followReserve old).now = s.now ∧ (s.followReserve old).mfp = s.mfp ∧ (s.followReserve old).ocu = s.ocu ∧
    (s.followReserve old).sqc = s.sqc ∧ (s.followReserve old).cdu = s.cdu ∧ (s.followReserve old).btu = s.btu ∧
    (s.followReserve old).tgu = s.tgu ∧ (s.followReserve old).rcs = s.rcs ∧ (s.followReserve old).svp = s.svp ∧
    (s.followReserve old).free = s.free ∧ (s.followReserve old).inputs = s.inputs ∧
    (s.followReserve old).pending = s.pending := by
  unfold State.followReserve
  repeat' split
  all_goals simp

@[simp] theorem State.drawSequence_frame (s : State) :
    s.drawSequence.now = s.now ∧ s.drawSequence.mfp = s.mfp ∧ s.drawSequence.ocu = s.ocu ∧ s.drawSequence.sqc = s.sqc ∧
    s.drawSequence.cdu = s.cdu ∧ s.drawSequence.btu = s.btu ∧ s.drawSequence.tgu = s.tgu ∧ s.drawSequence.rcs = s.rcs ∧
    s.drawSequence.svp = s.svp ∧ s.drawSequence.free = s.free ∧ s.drawSequence.inputs = s.inputs ∧
    s.drawSequence.pending = s.pending := by
  simp [State.drawSequence]

@[simp] theorem State.sendSetpoint_frame (s : State) :
    s.sendSetpoint.now = s.now ∧ s.sendSetpoint.mfp = s.mfp ∧ s.sendSetpoint.ocu = s.ocu ∧ s.sendSetpoint.sqc = s.sqc ∧
    s.sendSetpoint.cdu = s.cdu ∧ s.sendSetpoint.chc = s.chc ∧ s.sendSetpoint.pru = s.pru ∧ s.sendSetpoint.tgu = s.tgu ∧
    s.sendSetpoint.rcs = s.rcs ∧ s.sendSetpoint.svp = s.svp ∧ s.sendSetpoint.free = s.free ∧
    s.sendSetpoint.inputs = s.inputs ∧ s.sendSetpoint.pending = s.pending := by
  simp [State.sendSetpoint]

@[simp] theorem State.setCharger_frame (s : State) (mode : Charger) :
    (s.setCharger mode).now = s.now ∧ (s.setCharger mode).mfp = s.mfp ∧ (s.setCharger mode).ocu = s.ocu ∧
    (s.setCharger mode).sqc = s.sqc ∧ (s.setCharger mode).cdu = s.cdu ∧ (s.setCharger mode).chc = s.chc ∧
    (s.setCharger mode).pru = s.pru ∧ (s.setCharger mode).tgu = s.tgu ∧ (s.setCharger mode).rcs = s.rcs ∧
    (s.setCharger mode).svp = s.svp ∧ (s.setCharger mode).free = s.free ∧ (s.setCharger mode).inputs = s.inputs ∧
    (s.setCharger mode).pending = s.pending := by
  simp [State.setCharger]

@[simp] theorem State.endBoost_frame (s : State) :
    s.endBoost.now = s.now ∧ s.endBoost.mfp = s.mfp ∧ s.endBoost.ocu = s.ocu ∧ s.endBoost.sqc = s.sqc ∧
    s.endBoost.cdu = s.cdu ∧ s.endBoost.chc = s.chc ∧ s.endBoost.pru = s.pru ∧ s.endBoost.tgu = s.tgu ∧
    s.endBoost.rcs = s.rcs ∧ s.endBoost.svp = s.svp ∧ s.endBoost.free = s.free ∧ s.endBoost.inputs = s.inputs ∧
    s.endBoost.pending = s.pending := by
  simp [State.endBoost]

@[simp] theorem State.requestTest_frame (s : State) (source : TestSource) :
    (s.requestTest source).now = s.now ∧ (s.requestTest source).mfp = s.mfp ∧ (s.requestTest source).ocu = s.ocu ∧
    (s.requestTest source).sqc = s.sqc ∧ (s.requestTest source).cdu = s.cdu ∧ (s.requestTest source).chc = s.chc ∧
    (s.requestTest source).pru = s.pru ∧ (s.requestTest source).tgu = s.tgu ∧ (s.requestTest source).rcs = s.rcs ∧
    (s.requestTest source).svp = s.svp ∧ (s.requestTest source).free = s.free ∧ (s.requestTest source).inputs = s.inputs ∧
    (s.requestTest source).pending = s.pending := by
  simp [State.requestTest]

@[simp] theorem State.handleResult_frame (s : State) (result : TestResult) (resistance : Option Nat) (cause : Option AbandonCause) :
    (s.handleResult result resistance cause).now = s.now ∧ (s.handleResult result resistance cause).mfp = s.mfp ∧
    (s.handleResult result resistance cause).ocu = s.ocu ∧ (s.handleResult result resistance cause).sqc = s.sqc ∧
    (s.handleResult result resistance cause).cdu = s.cdu ∧ (s.handleResult result resistance cause).chc = s.chc ∧
    (s.handleResult result resistance cause).pru = s.pru ∧ (s.handleResult result resistance cause).tgu = s.tgu ∧
    (s.handleResult result resistance cause).svp = s.svp ∧ (s.handleResult result resistance cause).free = s.free ∧
    (s.handleResult result resistance cause).inputs = s.inputs ∧
    (s.handleResult result resistance cause).pending = s.pending := by
  simp [State.handleResult]

@[simp] theorem State.abandonTest_frame (s : State) (cause : AbandonCause) :
    (s.abandonTest cause).now = s.now ∧ (s.abandonTest cause).mfp = s.mfp ∧ (s.abandonTest cause).ocu = s.ocu ∧
    (s.abandonTest cause).sqc = s.sqc ∧ (s.abandonTest cause).cdu = s.cdu ∧ (s.abandonTest cause).chc = s.chc ∧
    (s.abandonTest cause).pru = s.pru ∧ (s.abandonTest cause).tgu = s.tgu ∧ (s.abandonTest cause).svp = s.svp ∧
    (s.abandonTest cause).free = s.free ∧ (s.abandonTest cause).inputs = s.inputs ∧
    (s.abandonTest cause).pending = s.pending := by
  simp [State.abandonTest]

@[simp] theorem State.refreshCharge_frame (s : State) :
    s.refreshCharge.now = s.now ∧ s.refreshCharge.mfp = s.mfp ∧ s.refreshCharge.ocu = s.ocu ∧ s.refreshCharge.sqc = s.sqc ∧
    s.refreshCharge.btu = s.btu ∧ s.refreshCharge.chc = s.chc ∧ s.refreshCharge.pru = s.pru ∧ s.refreshCharge.tgu = s.tgu ∧
    s.refreshCharge.rcs = s.rcs ∧ s.refreshCharge.svp = s.svp ∧ s.refreshCharge.free = s.free ∧
    s.refreshCharge.inputs = s.inputs ∧ s.refreshCharge.pending = s.pending := by
  simp [State.refreshCharge]

@[simp] theorem State.beginTripPulse_frame (s : State) (request : TripRequest) :
    (s.beginTripPulse request).now = s.now ∧ (s.beginTripPulse request).mfp = s.mfp ∧
    (s.beginTripPulse request).ocu = s.ocu ∧ (s.beginTripPulse request).sqc = s.sqc ∧
    (s.beginTripPulse request).btu = s.btu ∧ (s.beginTripPulse request).chc = s.chc ∧
    (s.beginTripPulse request).pru = s.pru ∧ (s.beginTripPulse request).tgu = s.tgu ∧
    (s.beginTripPulse request).rcs = s.rcs ∧ (s.beginTripPulse request).svp = s.svp ∧
    (s.beginTripPulse request).free = s.free ∧ (s.beginTripPulse request).inputs = s.inputs ∧
    (s.beginTripPulse request).pending = s.pending := by
  simp [State.beginTripPulse]

@[simp] theorem State.beginClosePulse_frame (s : State) :
    s.beginClosePulse.now = s.now ∧ s.beginClosePulse.mfp = s.mfp ∧ s.beginClosePulse.ocu = s.ocu ∧
    s.beginClosePulse.sqc = s.sqc ∧ s.beginClosePulse.btu = s.btu ∧ s.beginClosePulse.chc = s.chc ∧
    s.beginClosePulse.pru = s.pru ∧ s.beginClosePulse.tgu = s.tgu ∧ s.beginClosePulse.rcs = s.rcs ∧
    s.beginClosePulse.svp = s.svp ∧ s.beginClosePulse.free = s.free ∧ s.beginClosePulse.inputs = s.inputs ∧
    s.beginClosePulse.pending = s.pending := by
  simp [State.beginClosePulse]

@[simp] theorem State.endPulse_frame (s : State) :
    s.endPulse.now = s.now ∧ s.endPulse.mfp = s.mfp ∧ s.endPulse.ocu = s.ocu ∧ s.endPulse.sqc = s.sqc ∧
    s.endPulse.btu = s.btu ∧ s.endPulse.chc = s.chc ∧ s.endPulse.pru = s.pru ∧ s.endPulse.tgu = s.tgu ∧
    s.endPulse.rcs = s.rcs ∧ s.endPulse.svp = s.svp ∧ s.endPulse.free = s.free ∧ s.endPulse.inputs = s.inputs ∧
    s.endPulse.pending = s.pending := by
  simp [State.endPulse]

@[simp] theorem State.preempt_frame (s : State) :
    s.preempt.now = s.now ∧ s.preempt.mfp = s.mfp ∧ s.preempt.ocu = s.ocu ∧ s.preempt.sqc = s.sqc ∧ s.preempt.btu = s.btu ∧
    s.preempt.chc = s.chc ∧ s.preempt.pru = s.pru ∧ s.preempt.tgu = s.tgu ∧ s.preempt.svp = s.svp ∧ s.preempt.free = s.free ∧
    s.preempt.inputs = s.inputs ∧ s.preempt.pending = s.pending := by
  simp [State.preempt]

@[simp] theorem State.cduTripOrder_frame (s : State) :
    s.cduTripOrder.now = s.now ∧ s.cduTripOrder.mfp = s.mfp ∧ s.cduTripOrder.ocu = s.ocu ∧ s.cduTripOrder.sqc = s.sqc ∧
    s.cduTripOrder.btu = s.btu ∧ s.cduTripOrder.chc = s.chc ∧ s.cduTripOrder.pru = s.pru ∧ s.cduTripOrder.tgu = s.tgu ∧
    s.cduTripOrder.svp = s.svp ∧ s.cduTripOrder.free = s.free ∧ s.cduTripOrder.inputs = s.inputs ∧
    s.cduTripOrder.pending = s.pending := by
  simp only [State.cduTripOrder]
  repeat' split
  all_goals simp

@[simp] theorem State.cduAttemptOrder_frame (s : State) :
    s.cduAttemptOrder.now = s.now ∧ s.cduAttemptOrder.mfp = s.mfp ∧ s.cduAttemptOrder.ocu = s.ocu ∧
    s.cduAttemptOrder.sqc = s.sqc ∧ s.cduAttemptOrder.btu = s.btu ∧ s.cduAttemptOrder.chc = s.chc ∧
    s.cduAttemptOrder.pru = s.pru ∧ s.cduAttemptOrder.tgu = s.tgu ∧ s.cduAttemptOrder.rcs = s.rcs ∧
    s.cduAttemptOrder.svp = s.svp ∧ s.cduAttemptOrder.free = s.free ∧ s.cduAttemptOrder.inputs = s.inputs ∧
    s.cduAttemptOrder.pending = s.pending := by
  simp [State.cduAttemptOrder]

@[simp] theorem State.endTripRequest_frame (s : State) :
    s.endTripRequest.now = s.now ∧ s.endTripRequest.mfp = s.mfp ∧ s.endTripRequest.ocu = s.ocu ∧
    s.endTripRequest.sqc = s.sqc ∧ s.endTripRequest.btu = s.btu ∧ s.endTripRequest.chc = s.chc ∧
    s.endTripRequest.pru = s.pru ∧ s.endTripRequest.tgu = s.tgu ∧ s.endTripRequest.rcs = s.rcs ∧
    s.endTripRequest.svp = s.svp ∧ s.endTripRequest.free = s.free ∧ s.endTripRequest.inputs = s.inputs ∧
    s.endTripRequest.pending = s.pending := by
  simp [State.endTripRequest]

@[simp] theorem State.withdrawTrip_frame (s : State) :
    s.withdrawTrip.now = s.now ∧ s.withdrawTrip.mfp = s.mfp ∧ s.withdrawTrip.ocu = s.ocu ∧ s.withdrawTrip.sqc = s.sqc ∧
    s.withdrawTrip.btu = s.btu ∧ s.withdrawTrip.chc = s.chc ∧ s.withdrawTrip.pru = s.pru ∧ s.withdrawTrip.tgu = s.tgu ∧
    s.withdrawTrip.rcs = s.rcs ∧ s.withdrawTrip.svp = s.svp ∧ s.withdrawTrip.free = s.free ∧
    s.withdrawTrip.inputs = s.inputs ∧ s.withdrawTrip.pending = s.pending := by
  unfold State.withdrawTrip
  split <;> simp

end Sys2Proof.Machine
end

