-- ==== Sys2Proof/Laws/Inputs.lean ====
section
/-! SUPPORT. What the operations of the debounced inputs do, said once: reading after putting, edges, the end of a count, and the
passing of a millisecond (R62, R67, R149, R151). -/

namespace Sys2Proof.Machine

/-! ### Reading and putting -/

@[simp] theorem Inputs.line_put (i : Inputs) (pin : InputPin) (l : InputLine) : (i.put pin l).line pin = l := by
  cases pin <;> rfl

theorem Inputs.line_put_of_ne (i : Inputs) {pin other : InputPin} (l : InputLine) (h : other ≠ pin) :
    (i.put pin l).line other = i.line other := by
  cases pin <;> cases other <;> first | rfl | exact absurd rfl h

@[simp] theorem Inputs.put_put (i : Inputs) (pin : InputPin) (l m : InputLine) : (i.put pin l).put pin m = i.put pin m := by
  cases pin <;> rfl

/-- Two sets of inputs that agree at every pin are one. -/
theorem Inputs.ext_line {i j : Inputs} (h : ∀ pin, i.line pin = j.line pin) : i = j := by
  cases i; cases j
  simp only [Inputs.mk.injEq]
  exact ⟨h .posc, h .poso, h .acp, h .tripKey, h .closeKey, h .tagOnKey, h .tagOffKey, h .batteryKey, h .hndl⟩

@[simp] theorem Inputs.tick_line (i : Inputs) (pin : InputPin) : i.tick.line pin = (i.line pin).tick := by cases pin <;> rfl

/-- Every input of a start stands at its level with no count. -/
theorem inputsStart_line (i : InputLevels) (pin : InputPin) : ((inputsStart i).line pin).count = none := by
  cases pin <;> rfl

/-! ### Edges and counts -/

@[simp] theorem State.endCount_frame (s : State) (pin : InputPin) :
    (s.endCount pin).now = s.now ∧ (s.endCount pin).mfp = s.mfp ∧ (s.endCount pin).ocu = s.ocu ∧
    (s.endCount pin).sqc = s.sqc ∧ (s.endCount pin).cdu = s.cdu ∧ (s.endCount pin).btu = s.btu ∧
    (s.endCount pin).chc = s.chc ∧ (s.endCount pin).pru = s.pru ∧ (s.endCount pin).tgu = s.tgu ∧
    (s.endCount pin).rcs = s.rcs ∧ (s.endCount pin).svp = s.svp ∧ (s.endCount pin).free = s.free ∧
    (s.endCount pin).pending = s.pending := by
  simp [State.endCount]

@[simp] theorem State.inputGoes_frame (s : State) (pin : InputPin) (level : Bool) :
    (s.inputGoes pin level).now = s.now ∧ (s.inputGoes pin level).mfp = s.mfp ∧ (s.inputGoes pin level).ocu = s.ocu ∧
    (s.inputGoes pin level).sqc = s.sqc ∧ (s.inputGoes pin level).cdu = s.cdu ∧ (s.inputGoes pin level).btu = s.btu ∧
    (s.inputGoes pin level).chc = s.chc ∧ (s.inputGoes pin level).pru = s.pru ∧ (s.inputGoes pin level).tgu = s.tgu ∧
    (s.inputGoes pin level).rcs = s.rcs ∧ (s.inputGoes pin level).svp = s.svp ∧ (s.inputGoes pin level).free = s.free ∧
    (s.inputGoes pin level).pending = s.pending := by
  unfold State.inputGoes State.onlyIf
  split <;> simp

/-- An edge puts the input at the level: at the debounced state with no count, away from it with its whole span; a level that is no
change leaves the input as it is. -/
theorem State.inputGoes_line (s : State) (pin : InputPin) (level : Bool) :
    (s.inputGoes pin level).inputs.line pin =
      if (s.inputs.line pin).level = level then s.inputs.line pin
      else { level := level, count := if level = s.debounced pin then none else some pin.span } := by
  by_cases h : (s.inputs.line pin).level = level <;> simp [State.inputGoes, h]

/-- An edge at one pin leaves every other input. -/
theorem State.inputGoes_line_of_ne (s : State) {pin other : InputPin} (level : Bool) (h : other ≠ pin) :
    (s.inputGoes pin level).inputs.line other = s.inputs.line other := by
  unfold State.inputGoes State.onlyIf
  split
  · simp [Inputs.line_put_of_ne _ _ h]
  · rfl

/-- What it takes for a debounced state to follow its input. -/
theorem State.inputHolds_iff (s : State) (pin : InputPin) (level : Bool) :
    s.inputHolds pin level = true ↔ s.inputs.line pin = { level := level, count := some 0 } ∧ s.debounced pin ≠ level := by
  cases hl : s.inputs.line pin
  simp [State.inputHolds, due, hl, and_right_comm]

theorem State.debounce_edge (s : State) (pin : InputPin) (level : Bool) (change : State → State) :
    s.debounce pin level .edge change = s.inputGoes pin level := rfl

/-- A held level acts where it has been held, and nowhere else. -/
theorem State.debounce_held (s : State) (pin : InputPin) (level : Bool) (change : State → State) :
    s.debounce pin level .held change = if s.inputHolds pin level = true then change (s.endCount pin) else s := rfl

/-! ### The contacts -/

/-- Ending some counts changes nothing but the inputs. -/
theorem State.endCounts (s : State) (pins : List InputPin) :
    pins.foldl State.endCount s = { s with inputs := (pins.foldl State.endCount s).inputs } := by
  induction pins generalizing s with
  | nil => rfl
  | cons pin rest ih =>
    rw [List.foldl_cons, ih (s.endCount pin)]
    rfl

@[simp] theorem State.contactsGo_frame (s : State) (contact : Contact) (made : Bool) :
    (s.contactsGo contact made).now = s.now ∧ (s.contactsGo contact made).mfp = s.mfp ∧
    (s.contactsGo contact made).ocu = s.ocu ∧ (s.contactsGo contact made).sqc = s.sqc ∧
    (s.contactsGo contact made).cdu = s.cdu ∧ (s.contactsGo contact made).btu = s.btu ∧
    (s.contactsGo contact made).chc = s.chc ∧ (s.contactsGo contact made).pru = s.pru ∧
    (s.contactsGo contact made).tgu = s.tgu ∧ (s.contactsGo contact made).rcs = s.rcs ∧
    (s.contactsGo contact made).svp = s.svp ∧ (s.contactsGo contact made).free = s.free ∧
    (s.contactsGo contact made).pending = s.pending := by
  cases contact <;> simp [State.contactsGo, contactPins]

@[simp] theorem State.setContacts_frame (s : State) (pins : List InputPin) (made : Bool) :
    (s.setContacts pins made).now = s.now ∧ (s.setContacts pins made).mfp = s.mfp ∧ (s.setContacts pins made).ocu = s.ocu ∧
    (s.setContacts pins made).sqc = s.sqc ∧ (s.setContacts pins made).btu = s.btu ∧ (s.setContacts pins made).chc = s.chc ∧
    (s.setContacts pins made).pru = s.pru ∧ (s.setContacts pins made).tgu = s.tgu ∧ (s.setContacts pins made).rcs = s.rcs ∧
    (s.setContacts pins made).svp = s.svp ∧ (s.setContacts pins made).free = s.free ∧
    (s.setContacts pins made).pending = s.pending := by
  unfold State.setContacts
  rw [State.endCounts]
  simp

end Sys2Proof.Machine
end

