-- ==== Sys2Proof/Laws/FramesSequence.lean ====
section
/-! SUPPORT. What the operations of the sequence, the overcurrent elements, the breaker and the reserve leave unchanged. -/

namespace Sys2Proof.Machine

@[simp] theorem State.enterSeq_frame (s : State) (new : SeqState) :
    (s.enterSeq new).now = s.now ∧ (s.enterSeq new).mfp = s.mfp ∧ (s.enterSeq new).chc = s.chc ∧
    (s.enterSeq new).pru = s.pru ∧ (s.enterSeq new).tgu = s.tgu ∧ (s.enterSeq new).svp = s.svp ∧
    (s.enterSeq new).free = s.free ∧ (s.enterSeq new).inputs = s.inputs ∧ (s.enterSeq new).pending = s.pending := by
  simp [State.enterSeq]

@[simp] theorem State.enterLockout_frame (s : State) (reason : LockReason) :
    (s.enterLockout reason).now = s.now ∧ (s.enterLockout reason).mfp = s.mfp ∧ (s.enterLockout reason).tgu = s.tgu ∧
    (s.enterLockout reason).svp = s.svp ∧ (s.enterLockout reason).free = s.free ∧ (s.enterLockout reason).inputs = s.inputs ∧
    (s.enterLockout reason).pending = s.pending := by
  simp [State.enterLockout]

@[simp] theorem State.beginTrip_frame (s : State) (trip : CurrentTrip) :
    (s.beginTrip trip).now = s.now ∧ (s.beginTrip trip).mfp = s.mfp ∧ (s.beginTrip trip).tgu = s.tgu ∧
    (s.beginTrip trip).svp = s.svp ∧ (s.beginTrip trip).free = s.free ∧ (s.beginTrip trip).inputs = s.inputs ∧
    (s.beginTrip trip).pending = s.pending := by
  simp [State.beginTrip]

@[simp] theorem State.takeTrip_frame (s : State) (o : TripOrder) :
    (s.takeTrip o).now = s.now ∧ (s.takeTrip o).mfp = s.mfp ∧ (s.takeTrip o).tgu = s.tgu ∧ (s.takeTrip o).svp = s.svp ∧
    (s.takeTrip o).free = s.free ∧ (s.takeTrip o).inputs = s.inputs ∧ (s.takeTrip o).pending = s.pending := by
  simp [State.takeTrip]

@[simp] theorem State.takeLockoutTrip_frame (s : State) (o : TripOrder) :
    (s.takeLockoutTrip o).now = s.now ∧ (s.takeLockoutTrip o).mfp = s.mfp ∧ (s.takeLockoutTrip o).tgu = s.tgu ∧
    (s.takeLockoutTrip o).svp = s.svp ∧ (s.takeLockoutTrip o).free = s.free ∧ (s.takeLockoutTrip o).inputs = s.inputs ∧
    (s.takeLockoutTrip o).pending = s.pending := by
  simp [State.takeLockoutTrip]

@[simp] theorem State.sqcTripOrder_frame (s : State) (o : TripOrder) :
    (s.sqcTripOrder o).now = s.now ∧ (s.sqcTripOrder o).mfp = s.mfp ∧ (s.sqcTripOrder o).tgu = s.tgu ∧
    (s.sqcTripOrder o).svp = s.svp ∧ (s.sqcTripOrder o).free = s.free ∧ (s.sqcTripOrder o).inputs = s.inputs ∧
    (s.sqcTripOrder o).pending = s.pending := by
  unfold State.sqcTripOrder
  repeat' split
  all_goals simp

@[simp] theorem State.sqcTripConfirm_frame (s : State) :
    s.sqcTripConfirm.now = s.now ∧ s.sqcTripConfirm.mfp = s.mfp ∧ s.sqcTripConfirm.tgu = s.tgu ∧
    s.sqcTripConfirm.svp = s.svp ∧ s.sqcTripConfirm.free = s.free ∧ s.sqcTripConfirm.inputs = s.inputs ∧
    s.sqcTripConfirm.pending = s.pending := by
  unfold State.sqcTripConfirm
  repeat' split
  all_goals simp

@[simp] theorem State.tripFailed_frame (s : State) :
    s.tripFailed.now = s.now ∧ s.tripFailed.mfp = s.mfp ∧ s.tripFailed.tgu = s.tgu ∧ s.tripFailed.svp = s.svp ∧
    s.tripFailed.free = s.free ∧ s.tripFailed.inputs = s.inputs ∧ s.tripFailed.pending = s.pending := by
  unfold State.tripFailed State.onlyIf
  split
  · cases h : s.sqc.trip <;> simp [h]
  · simp

@[simp] theorem State.closeFailure_frame (s : State) :
    s.closeFailure.now = s.now ∧ s.closeFailure.mfp = s.mfp ∧ s.closeFailure.tgu = s.tgu ∧ s.closeFailure.svp = s.svp ∧
    s.closeFailure.free = s.free ∧ s.closeFailure.inputs = s.inputs ∧ s.closeFailure.pending = s.pending := by
  simp [State.closeFailure]

@[simp] theorem State.fireClose_frame (s : State) :
    s.fireClose.now = s.now ∧ s.fireClose.mfp = s.mfp ∧ s.fireClose.tgu = s.tgu ∧ s.fireClose.svp = s.svp ∧
    s.fireClose.free = s.free ∧ s.fireClose.inputs = s.inputs ∧ s.fireClose.pending = s.pending := by
  unfold State.fireClose
  split <;> simp

@[simp] theorem State.closeGate_frame (s : State) (wait : Bool) :
    (s.closeGate wait).now = s.now ∧ (s.closeGate wait).mfp = s.mfp ∧ (s.closeGate wait).tgu = s.tgu ∧
    (s.closeGate wait).svp = s.svp ∧ (s.closeGate wait).free = s.free ∧ (s.closeGate wait).inputs = s.inputs ∧
    (s.closeGate wait).pending = s.pending := by
  unfold State.closeGate
  repeat' split
  all_goals simp

@[simp] theorem State.readyByHand_frame (s : State) :
    s.readyByHand.now = s.now ∧ s.readyByHand.mfp = s.mfp ∧ s.readyByHand.chc = s.chc ∧ s.readyByHand.pru = s.pru ∧
    s.readyByHand.tgu = s.tgu ∧ s.readyByHand.svp = s.svp ∧ s.readyByHand.free = s.free ∧ s.readyByHand.inputs = s.inputs ∧
    s.readyByHand.pending = s.pending := by
  simp [State.readyByHand]

@[simp] theorem State.closeConfirm_frame (s : State) :
    s.closeConfirm.now = s.now ∧ s.closeConfirm.mfp = s.mfp ∧ s.closeConfirm.chc = s.chc ∧ s.closeConfirm.pru = s.pru ∧
    s.closeConfirm.tgu = s.tgu ∧ s.closeConfirm.svp = s.svp ∧ s.closeConfirm.free = s.free ∧
    s.closeConfirm.inputs = s.inputs ∧ s.closeConfirm.pending = s.pending := by
  unfold State.closeConfirm State.onlyIf
  split
  · cases h : s.sqc.closeKind <;> cases h2 : s.tagInForce <;> simp [h, h2]
  · simp

@[simp] theorem State.tripReadyReport_frame (s : State) :
    s.tripReadyReport.now = s.now ∧ s.tripReadyReport.mfp = s.mfp ∧ s.tripReadyReport.ocu = s.ocu ∧
    s.tripReadyReport.sqc = s.sqc ∧ s.tripReadyReport.btu = s.btu ∧ s.tripReadyReport.chc = s.chc ∧
    s.tripReadyReport.pru = s.pru ∧ s.tripReadyReport.tgu = s.tgu ∧ s.tripReadyReport.rcs = s.rcs ∧
    s.tripReadyReport.svp = s.svp ∧ s.tripReadyReport.free = s.free ∧ s.tripReadyReport.inputs = s.inputs ∧
    s.tripReadyReport.pending = s.pending := by
  unfold State.tripReadyReport
  split <;> simp

@[simp] theorem State.closeReadyReport_frame (s : State) :
    s.closeReadyReport.now = s.now ∧ s.closeReadyReport.mfp = s.mfp ∧ s.closeReadyReport.tgu = s.tgu ∧
    s.closeReadyReport.svp = s.svp ∧ s.closeReadyReport.free = s.free ∧ s.closeReadyReport.inputs = s.inputs ∧
    s.closeReadyReport.pending = s.pending := by
  unfold State.closeReadyReport
  split <;> simp

@[simp] theorem State.handReports_frame (s : State) :
    s.handReports.now = s.now ∧ s.handReports.mfp = s.mfp ∧ s.handReports.tgu = s.tgu ∧ s.handReports.svp = s.svp ∧
    s.handReports.free = s.free ∧ s.handReports.inputs = s.inputs ∧ s.handReports.pending = s.pending := by
  simp only [State.handReports]
  repeat' split
  all_goals simp

@[simp] theorem State.deliverVoltages_frame (s : State) (tripV closeV : Nat) (closing : Bool) :
    (s.deliverVoltages tripV closeV closing).now = s.now ∧ (s.deliverVoltages tripV closeV closing).mfp = s.mfp ∧
    (s.deliverVoltages tripV closeV closing).tgu = s.tgu ∧ (s.deliverVoltages tripV closeV closing).svp = s.svp ∧
    (s.deliverVoltages tripV closeV closing).free = s.free ∧ (s.deliverVoltages tripV closeV closing).inputs = s.inputs ∧
    (s.deliverVoltages tripV closeV closing).pending = s.pending := by
  simp [State.deliverVoltages]

@[simp] theorem State.operatorTrip_frame (s : State) :
    s.operatorTrip.now = s.now ∧ s.operatorTrip.mfp = s.mfp ∧ s.operatorTrip.tgu = s.tgu ∧ s.operatorTrip.svp = s.svp ∧
    s.operatorTrip.free = s.free ∧ s.operatorTrip.inputs = s.inputs ∧ s.operatorTrip.pending = s.pending := by
  unfold State.operatorTrip
  repeat' split
  all_goals simp

@[simp] theorem State.operatorClose_frame (s : State) :
    s.operatorClose.now = s.now ∧ s.operatorClose.mfp = s.mfp ∧ s.operatorClose.tgu = s.tgu ∧ s.operatorClose.svp = s.svp ∧
    s.operatorClose.free = s.free ∧ s.operatorClose.inputs = s.inputs ∧ s.operatorClose.pending = s.pending := by
  unfold State.operatorClose State.onlyIf
  split
  · cases h : s.cdu.closeReady <;> simp [h]
  · simp

@[simp] theorem State.openWithoutPulse_frame (s : State) :
    s.openWithoutPulse.now = s.now ∧ s.openWithoutPulse.mfp = s.mfp ∧ s.openWithoutPulse.tgu = s.tgu ∧
    s.openWithoutPulse.svp = s.svp ∧ s.openWithoutPulse.free = s.free ∧ s.openWithoutPulse.inputs = s.inputs ∧
    s.openWithoutPulse.pending = s.pending := by
  unfold State.openWithoutPulse
  split <;> simp

@[simp] theorem State.closedWithoutPulse_frame (s : State) :
    s.closedWithoutPulse.now = s.now ∧ s.closedWithoutPulse.mfp = s.mfp ∧ s.closedWithoutPulse.tgu = s.tgu ∧
    s.closedWithoutPulse.svp = s.svp ∧ s.closedWithoutPulse.free = s.free ∧ s.closedWithoutPulse.inputs = s.inputs ∧
    s.closedWithoutPulse.pending = s.pending := by
  unfold State.closedWithoutPulse State.onlyIf
  split
  · by_cases h : s.tgu.handleDown = true <;> by_cases h2 : s.sqc.seq = .lockout <;> simp [h, h2]
  · simp

@[simp] theorem State.sqcTagOn_frame (s : State) :
    s.sqcTagOn.now = s.now ∧ s.sqcTagOn.mfp = s.mfp ∧ s.sqcTagOn.tgu = s.tgu ∧ s.sqcTagOn.svp = s.svp ∧
    s.sqcTagOn.free = s.free ∧ s.sqcTagOn.inputs = s.inputs ∧ s.sqcTagOn.pending = s.pending := by
  unfold State.sqcTagOn
  repeat' split
  all_goals simp

@[simp] theorem State.sqcMeasurementLost_frame (s : State) :
    s.sqcMeasurementLost.now = s.now ∧ s.sqcMeasurementLost.mfp = s.mfp ∧ s.sqcMeasurementLost.tgu = s.tgu ∧
    s.sqcMeasurementLost.svp = s.svp ∧ s.sqcMeasurementLost.free = s.free ∧ s.sqcMeasurementLost.inputs = s.inputs ∧
    s.sqcMeasurementLost.pending = s.pending := by
  simp [State.sqcMeasurementLost]

@[simp] theorem State.sqcCritical_frame (s : State) :
    s.sqcCritical.now = s.now ∧ s.sqcCritical.mfp = s.mfp ∧ s.sqcCritical.tgu = s.tgu ∧ s.sqcCritical.svp = s.svp ∧
    s.sqcCritical.free = s.free ∧ s.sqcCritical.inputs = s.inputs ∧ s.sqcCritical.pending = s.pending := by
  unfold State.sqcCritical
  repeat' split
  all_goals simp

@[simp] theorem State.sqcCloseEnergyFault_frame (s : State) :
    s.sqcCloseEnergyFault.now = s.now ∧ s.sqcCloseEnergyFault.mfp = s.mfp ∧ s.sqcCloseEnergyFault.tgu = s.tgu ∧
    s.sqcCloseEnergyFault.svp = s.svp ∧ s.sqcCloseEnergyFault.free = s.free ∧ s.sqcCloseEnergyFault.inputs = s.inputs ∧
    s.sqcCloseEnergyFault.pending = s.pending := by
  unfold State.sqcCloseEnergyFault
  repeat' split
  all_goals simp

@[simp] theorem State.sqcHandleDown_frame (s : State) :
    s.sqcHandleDown.now = s.now ∧ s.sqcHandleDown.mfp = s.mfp ∧ s.sqcHandleDown.tgu = s.tgu ∧ s.sqcHandleDown.svp = s.svp ∧
    s.sqcHandleDown.free = s.free ∧ s.sqcHandleDown.inputs = s.inputs ∧ s.sqcHandleDown.pending = s.pending := by
  simp [State.sqcHandleDown]

@[simp] theorem State.sqcResetExpiry_frame (s : State) :
    s.sqcResetExpiry.now = s.now ∧ s.sqcResetExpiry.mfp = s.mfp ∧ s.sqcResetExpiry.tgu = s.tgu ∧
    s.sqcResetExpiry.svp = s.svp ∧ s.sqcResetExpiry.free = s.free ∧ s.sqcResetExpiry.inputs = s.inputs ∧
    s.sqcResetExpiry.pending = s.pending := by
  unfold State.sqcResetExpiry
  split <;> simp

@[simp] theorem State.sqcFirstPickup_frame (s : State) (elements : ElementSet) :
    (s.sqcFirstPickup elements).now = s.now ∧ (s.sqcFirstPickup elements).mfp = s.mfp ∧
    (s.sqcFirstPickup elements).ocu = s.ocu ∧ (s.sqcFirstPickup elements).cdu = s.cdu ∧
    (s.sqcFirstPickup elements).btu = s.btu ∧ (s.sqcFirstPickup elements).chc = s.chc ∧
    (s.sqcFirstPickup elements).pru = s.pru ∧ (s.sqcFirstPickup elements).tgu = s.tgu ∧
    (s.sqcFirstPickup elements).rcs = s.rcs ∧ (s.sqcFirstPickup elements).svp = s.svp ∧
    (s.sqcFirstPickup elements).free = s.free ∧ (s.sqcFirstPickup elements).inputs = s.inputs ∧
    (s.sqcFirstPickup elements).pending = s.pending := by
  simp [State.sqcFirstPickup]

@[simp] theorem State.sqcSource_frame (s : State) (present : Bool) :
    (s.sqcSource present).now = s.now ∧ (s.sqcSource present).mfp = s.mfp ∧ (s.sqcSource present).ocu = s.ocu ∧
    (s.sqcSource present).cdu = s.cdu ∧ (s.sqcSource present).btu = s.btu ∧ (s.sqcSource present).chc = s.chc ∧
    (s.sqcSource present).pru = s.pru ∧ (s.sqcSource present).tgu = s.tgu ∧ (s.sqcSource present).rcs = s.rcs ∧
    (s.sqcSource present).svp = s.svp ∧ (s.sqcSource present).free = s.free ∧ (s.sqcSource present).inputs = s.inputs ∧
    (s.sqcSource present).pending = s.pending := by
  simp [State.sqcSource]

@[simp] theorem State.stepSequence_frame (s : State) (elements : ElementSet) :
    (s.stepSequence elements).now = s.now ∧ (s.stepSequence elements).mfp = s.mfp ∧ (s.stepSequence elements).tgu = s.tgu ∧
    (s.stepSequence elements).svp = s.svp ∧ (s.stepSequence elements).free = s.free ∧
    (s.stepSequence elements).inputs = s.inputs ∧ (s.stepSequence elements).pending = s.pending := by
  simp [State.stepSequence]

@[simp] theorem State.sqcEpisodeEnd_frame (s : State) (longestRun : Nat) (orderRaised : Bool) :
    (s.sqcEpisodeEnd longestRun orderRaised).now = s.now ∧ (s.sqcEpisodeEnd longestRun orderRaised).mfp = s.mfp ∧
    (s.sqcEpisodeEnd longestRun orderRaised).tgu = s.tgu ∧ (s.sqcEpisodeEnd longestRun orderRaised).svp = s.svp ∧
    (s.sqcEpisodeEnd longestRun orderRaised).free = s.free ∧ (s.sqcEpisodeEnd longestRun orderRaised).inputs = s.inputs ∧
    (s.sqcEpisodeEnd longestRun orderRaised).pending = s.pending := by
  unfold State.sqcEpisodeEnd
  split <;> simp

@[simp] theorem State.raiseOrder_frame (s : State) (o : TripOrder) :
    (s.raiseOrder o).now = s.now ∧ (s.raiseOrder o).mfp = s.mfp ∧ (s.raiseOrder o).tgu = s.tgu ∧
    (s.raiseOrder o).svp = s.svp ∧ (s.raiseOrder o).free = s.free ∧ (s.raiseOrder o).inputs = s.inputs ∧
    (s.raiseOrder o).pending = s.pending := by
  simp [State.raiseOrder]

@[simp] theorem State.releaseTest_frame (s : State) (k : Kind) :
    (s.releaseTest k).now = s.now ∧ (s.releaseTest k).mfp = s.mfp ∧ (s.releaseTest k).tgu = s.tgu ∧
    (s.releaseTest k).svp = s.svp ∧ (s.releaseTest k).free = s.free ∧ (s.releaseTest k).inputs = s.inputs ∧
    (s.releaseTest k).pending = s.pending := by
  unfold State.releaseTest
  split <;> simp

@[simp] theorem State.endHold_frame (s : State) (k : Kind) (cause : Reason) :
    (s.endHold k cause).now = s.now ∧ (s.endHold k cause).mfp = s.mfp ∧ (s.endHold k cause).tgu = s.tgu ∧
    (s.endHold k cause).svp = s.svp ∧ (s.endHold k cause).free = s.free ∧ (s.endHold k cause).inputs = s.inputs ∧
    (s.endHold k cause).pending = s.pending := by
  unfold State.endHold
  split <;> simp

@[simp] theorem State.endHolds_frame (s : State) (cause : Reason) :
    (s.endHolds cause).now = s.now ∧ (s.endHolds cause).mfp = s.mfp ∧ (s.endHolds cause).tgu = s.tgu ∧
    (s.endHolds cause).svp = s.svp ∧ (s.endHolds cause).free = s.free ∧ (s.endHolds cause).inputs = s.inputs ∧
    (s.endHolds cause).pending = s.pending := by
  simp [State.endHolds]

@[simp] theorem State.partnerPickup_frame (s : State) (k : Kind) (sender position : Nat) (arrival : Word32) :
    (s.partnerPickup k sender position arrival).now = s.now ∧ (s.partnerPickup k sender position arrival).mfp = s.mfp ∧
    (s.partnerPickup k sender position arrival).sqc = s.sqc ∧ (s.partnerPickup k sender position arrival).cdu = s.cdu ∧
    (s.partnerPickup k sender position arrival).btu = s.btu ∧ (s.partnerPickup k sender position arrival).chc = s.chc ∧
    (s.partnerPickup k sender position arrival).pru = s.pru ∧ (s.partnerPickup k sender position arrival).tgu = s.tgu ∧
    (s.partnerPickup k sender position arrival).svp = s.svp ∧ (s.partnerPickup k sender position arrival).free = s.free ∧
    (s.partnerPickup k sender position arrival).inputs = s.inputs ∧
    (s.partnerPickup k sender position arrival).pending = s.pending := by
  unfold State.partnerPickup
  repeat' split
  all_goals simp

@[simp] theorem State.partnerPickups_frame (s : State) (sender position : Nat) (elements : ElementSet) (arrival : Word32) :
    (s.partnerPickups sender position elements arrival).now = s.now ∧
    (s.partnerPickups sender position elements arrival).mfp = s.mfp ∧
    (s.partnerPickups sender position elements arrival).sqc = s.sqc ∧
    (s.partnerPickups sender position elements arrival).cdu = s.cdu ∧
    (s.partnerPickups sender position elements arrival).btu = s.btu ∧
    (s.partnerPickups sender position elements arrival).chc = s.chc ∧
    (s.partnerPickups sender position elements arrival).pru = s.pru ∧
    (s.partnerPickups sender position elements arrival).tgu = s.tgu ∧
    (s.partnerPickups sender position elements arrival).svp = s.svp ∧
    (s.partnerPickups sender position elements arrival).free = s.free ∧
    (s.partnerPickups sender position elements arrival).inputs = s.inputs ∧
    (s.partnerPickups sender position elements arrival).pending = s.pending := by
  simp [State.partnerPickups]

@[simp] theorem State.partnerEnd_frame (s : State) (k : Kind) (sender : Nat) (cause : Reason) :
    (s.partnerEnd k sender cause).now = s.now ∧ (s.partnerEnd k sender cause).mfp = s.mfp ∧
    (s.partnerEnd k sender cause).tgu = s.tgu ∧ (s.partnerEnd k sender cause).svp = s.svp ∧
    (s.partnerEnd k sender cause).free = s.free ∧ (s.partnerEnd k sender cause).inputs = s.inputs ∧
    (s.partnerEnd k sender cause).pending = s.pending := by
  unfold State.partnerEnd
  repeat' split
  all_goals simp

@[simp] theorem State.partnerEnds_frame (s : State) (sender : Nat) (cause : Reason) :
    (s.partnerEnds sender cause).now = s.now ∧ (s.partnerEnds sender cause).mfp = s.mfp ∧
    (s.partnerEnds sender cause).tgu = s.tgu ∧ (s.partnerEnds sender cause).svp = s.svp ∧
    (s.partnerEnds sender cause).free = s.free ∧ (s.partnerEnds sender cause).inputs = s.inputs ∧
    (s.partnerEnds sender cause).pending = s.pending := by
  simp [State.partnerEnds]

@[simp] theorem State.clearElements_frame (s : State) :
    s.clearElements.now = s.now ∧ s.clearElements.mfp = s.mfp ∧ s.clearElements.sqc = s.sqc ∧ s.clearElements.cdu = s.cdu ∧
    s.clearElements.btu = s.btu ∧ s.clearElements.chc = s.chc ∧ s.clearElements.pru = s.pru ∧ s.clearElements.tgu = s.tgu ∧
    s.clearElements.rcs = s.rcs ∧ s.clearElements.svp = s.svp ∧ s.clearElements.free = s.free ∧
    s.clearElements.inputs = s.inputs ∧ s.clearElements.pending = s.pending := by
  simp [State.clearElements]

@[simp] theorem State.tripConfirmed_frame (s : State) (clearFirst : Bool) :
    (s.tripConfirmed clearFirst).now = s.now ∧ (s.tripConfirmed clearFirst).mfp = s.mfp ∧
    (s.tripConfirmed clearFirst).tgu = s.tgu ∧ (s.tripConfirmed clearFirst).svp = s.svp ∧
    (s.tripConfirmed clearFirst).free = s.free ∧ (s.tripConfirmed clearFirst).inputs = s.inputs ∧
    (s.tripConfirmed clearFirst).pending = s.pending := by
  unfold State.tripConfirmed
  split <;> simp

@[simp] theorem State.freezeCounts_frame (s : State) :
    s.freezeCounts.now = s.now ∧ s.freezeCounts.mfp = s.mfp ∧ s.freezeCounts.sqc = s.sqc ∧ s.freezeCounts.cdu = s.cdu ∧
    s.freezeCounts.btu = s.btu ∧ s.freezeCounts.chc = s.chc ∧ s.freezeCounts.pru = s.pru ∧ s.freezeCounts.tgu = s.tgu ∧
    s.freezeCounts.rcs = s.rcs ∧ s.freezeCounts.svp = s.svp ∧ s.freezeCounts.free = s.free ∧
    s.freezeCounts.inputs = s.inputs ∧ s.freezeCounts.pending = s.pending := by
  simp [State.freezeCounts]

@[simp] theorem State.firstPickup_frame (s : State) (elements : ElementSet) (largest : Nat) :
    (s.firstPickup elements largest).now = s.now ∧ (s.firstPickup elements largest).mfp = s.mfp ∧
    (s.firstPickup elements largest).ocu = s.ocu ∧ (s.firstPickup elements largest).cdu = s.cdu ∧
    (s.firstPickup elements largest).tgu = s.tgu ∧ (s.firstPickup elements largest).svp = s.svp ∧
    (s.firstPickup elements largest).free = s.free ∧ (s.firstPickup elements largest).inputs = s.inputs ∧
    (s.firstPickup elements largest).pending = s.pending := by
  simp [State.firstPickup]

@[simp] theorem State.frameStep_frame (s : State) (f : MeasFields) :
    (s.frameStep f).now = s.now ∧ (s.frameStep f).mfp = s.mfp ∧ (s.frameStep f).tgu = s.tgu ∧ (s.frameStep f).svp = s.svp ∧
    (s.frameStep f).free = s.free ∧ (s.frameStep f).inputs = s.inputs ∧ (s.frameStep f).pending = s.pending := by
  simp only [State.frameStep]
  repeat' split
  all_goals simp

@[simp] theorem State.confirmTrip_frame (s : State) (clearFirst : Bool) :
    (s.confirmTrip clearFirst).now = s.now ∧ (s.confirmTrip clearFirst).mfp = s.mfp ∧
    (s.confirmTrip clearFirst).tgu = s.tgu ∧ (s.confirmTrip clearFirst).svp = s.svp ∧
    (s.confirmTrip clearFirst).free = s.free ∧ (s.confirmTrip clearFirst).inputs = s.inputs ∧
    (s.confirmTrip clearFirst).pending = s.pending := by
  simp [State.confirmTrip]

@[simp] theorem State.changeToOpen_frame (s : State) (clearFirst : Bool) :
    (s.changeToOpen clearFirst).now = s.now ∧ (s.changeToOpen clearFirst).mfp = s.mfp ∧
    (s.changeToOpen clearFirst).tgu = s.tgu ∧ (s.changeToOpen clearFirst).svp = s.svp ∧
    (s.changeToOpen clearFirst).free = s.free ∧ (s.changeToOpen clearFirst).inputs = s.inputs ∧
    (s.changeToOpen clearFirst).pending = s.pending := by
  unfold State.changeToOpen
  split <;> simp

@[simp] theorem State.changeToClosed_frame (s : State) :
    s.changeToClosed.now = s.now ∧ s.changeToClosed.mfp = s.mfp ∧ s.changeToClosed.tgu = s.tgu ∧
    s.changeToClosed.svp = s.svp ∧ s.changeToClosed.free = s.free ∧ s.changeToClosed.inputs = s.inputs ∧
    s.changeToClosed.pending = s.pending := by
  unfold State.changeToClosed
  split <;> simp

@[simp] theorem State.definiteChange_frame (s : State) (closed : Bool) (clearFirst : Bool) :
    (s.definiteChange closed clearFirst).now = s.now ∧ (s.definiteChange closed clearFirst).mfp = s.mfp ∧
    (s.definiteChange closed clearFirst).tgu = s.tgu ∧ (s.definiteChange closed clearFirst).svp = s.svp ∧
    (s.definiteChange closed clearFirst).free = s.free ∧ (s.definiteChange closed clearFirst).inputs = s.inputs ∧
    (s.definiteChange closed clearFirst).pending = s.pending := by
  unfold State.definiteChange
  split <;> simp

@[simp] theorem State.judgePosition_frame (s : State) (before : Position) (clearFirst : Bool) :
    (s.judgePosition before clearFirst).now = s.now ∧ (s.judgePosition before clearFirst).mfp = s.mfp ∧
    (s.judgePosition before clearFirst).tgu = s.tgu ∧ (s.judgePosition before clearFirst).svp = s.svp ∧
    (s.judgePosition before clearFirst).free = s.free ∧ (s.judgePosition before clearFirst).inputs = s.inputs ∧
    (s.judgePosition before clearFirst).pending = s.pending := by
  unfold State.judgePosition
  split <;> simp

@[simp] theorem State.changeContact_frame (s : State) (contact : Contact) (made clearFirst : Bool) :
    (s.changeContact contact made clearFirst).now = s.now ∧ (s.changeContact contact made clearFirst).mfp = s.mfp ∧
    (s.changeContact contact made clearFirst).tgu = s.tgu ∧ (s.changeContact contact made clearFirst).svp = s.svp ∧
    (s.changeContact contact made clearFirst).free = s.free ∧
    (s.changeContact contact made clearFirst).pending = s.pending := by
  unfold State.changeContact State.onlyIf
  dsimp only
  split <;> simp

@[simp] theorem State.mechanismFailure_frame (s : State) :
    s.mechanismFailure.now = s.now ∧ s.mechanismFailure.mfp = s.mfp ∧ s.mechanismFailure.tgu = s.tgu ∧
    s.mechanismFailure.svp = s.svp ∧ s.mechanismFailure.free = s.free ∧ s.mechanismFailure.inputs = s.inputs ∧
    s.mechanismFailure.pending = s.pending := by
  simp [State.mechanismFailure]

@[simp] theorem State.endTripWindow_frame (s : State) :
    s.endTripWindow.now = s.now ∧ s.endTripWindow.mfp = s.mfp ∧ s.endTripWindow.tgu = s.tgu ∧ s.endTripWindow.svp = s.svp ∧
    s.endTripWindow.free = s.free ∧ s.endTripWindow.inputs = s.inputs ∧ s.endTripWindow.pending = s.pending := by
  unfold State.endTripWindow
  repeat' split
  all_goals simp

@[simp] theorem State.endCloseWindow_frame (s : State) :
    s.endCloseWindow.now = s.now ∧ s.endCloseWindow.mfp = s.mfp ∧ s.endCloseWindow.tgu = s.tgu ∧
    s.endCloseWindow.svp = s.svp ∧ s.endCloseWindow.free = s.free ∧ s.endCloseWindow.inputs = s.inputs ∧
    s.endCloseWindow.pending = s.pending := by
  unfold State.endCloseWindow
  split <;> simp

@[simp] theorem State.tripEnergyFault_frame (s : State) :
    s.tripEnergyFault.now = s.now ∧ s.tripEnergyFault.mfp = s.mfp ∧ s.tripEnergyFault.tgu = s.tgu ∧
    s.tripEnergyFault.svp = s.svp ∧ s.tripEnergyFault.free = s.free ∧ s.tripEnergyFault.inputs = s.inputs ∧
    s.tripEnergyFault.pending = s.pending := by
  simp [State.tripEnergyFault]

@[simp] theorem State.closeEnergyFault_frame (s : State) :
    s.closeEnergyFault.now = s.now ∧ s.closeEnergyFault.mfp = s.mfp ∧ s.closeEnergyFault.tgu = s.tgu ∧
    s.closeEnergyFault.svp = s.svp ∧ s.closeEnergyFault.free = s.free ∧ s.closeEnergyFault.inputs = s.inputs ∧
    s.closeEnergyFault.pending = s.pending := by
  simp [State.closeEnergyFault]

@[simp] theorem State.raisePositionFault_frame (s : State) :
    s.raisePositionFault.now = s.now ∧ s.raisePositionFault.mfp = s.mfp ∧ s.raisePositionFault.ocu = s.ocu ∧
    s.raisePositionFault.sqc = s.sqc ∧ s.raisePositionFault.btu = s.btu ∧ s.raisePositionFault.chc = s.chc ∧
    s.raisePositionFault.pru = s.pru ∧ s.raisePositionFault.tgu = s.tgu ∧ s.raisePositionFault.svp = s.svp ∧
    s.raisePositionFault.free = s.free ∧ s.raisePositionFault.inputs = s.inputs ∧
    s.raisePositionFault.pending = s.pending := by
  simp [State.raisePositionFault]

@[simp] theorem State.changeReserve_frame (s : State) (new : Reserve) :
    (s.changeReserve new).now = s.now ∧ (s.changeReserve new).mfp = s.mfp ∧ (s.changeReserve new).tgu = s.tgu ∧
    (s.changeReserve new).svp = s.svp ∧ (s.changeReserve new).free = s.free ∧ (s.changeReserve new).inputs = s.inputs ∧
    (s.changeReserve new).pending = s.pending := by
  simp [State.changeReserve]

@[simp] theorem State.judgeBattery_frame (s : State) :
    s.judgeBattery.now = s.now ∧ s.judgeBattery.mfp = s.mfp ∧ s.judgeBattery.tgu = s.tgu ∧ s.judgeBattery.svp = s.svp ∧
    s.judgeBattery.free = s.free ∧ s.judgeBattery.inputs = s.inputs ∧ s.judgeBattery.pending = s.pending := by
  simp [State.judgeBattery]

@[simp] theorem State.watchLowVoltage_frame (s : State) :
    s.watchLowVoltage.now = s.now ∧ s.watchLowVoltage.mfp = s.mfp ∧ s.watchLowVoltage.ocu = s.ocu ∧
    s.watchLowVoltage.sqc = s.sqc ∧ s.watchLowVoltage.cdu = s.cdu ∧ s.watchLowVoltage.chc = s.chc ∧
    s.watchLowVoltage.pru = s.pru ∧ s.watchLowVoltage.tgu = s.tgu ∧ s.watchLowVoltage.rcs = s.rcs ∧
    s.watchLowVoltage.svp = s.svp ∧ s.watchLowVoltage.free = s.free ∧ s.watchLowVoltage.inputs = s.inputs ∧
    s.watchLowVoltage.pending = s.pending := by
  simp [State.watchLowVoltage]

@[simp] theorem State.watchTaper_frame (s : State) :
    s.watchTaper.now = s.now ∧ s.watchTaper.mfp = s.mfp ∧ s.watchTaper.ocu = s.ocu ∧ s.watchTaper.sqc = s.sqc ∧
    s.watchTaper.cdu = s.cdu ∧ s.watchTaper.chc = s.chc ∧ s.watchTaper.pru = s.pru ∧ s.watchTaper.tgu = s.tgu ∧
    s.watchTaper.rcs = s.rcs ∧ s.watchTaper.svp = s.svp ∧ s.watchTaper.free = s.free ∧ s.watchTaper.inputs = s.inputs ∧
    s.watchTaper.pending = s.pending := by
  simp [State.watchTaper]

@[simp] theorem State.deliverBattery_frame (s : State) (v : Nat) (i temperature : Int) :
    (s.deliverBattery v i temperature).now = s.now ∧ (s.deliverBattery v i temperature).mfp = s.mfp ∧
    (s.deliverBattery v i temperature).tgu = s.tgu ∧ (s.deliverBattery v i temperature).svp = s.svp ∧
    (s.deliverBattery v i temperature).free = s.free ∧ (s.deliverBattery v i temperature).inputs = s.inputs ∧
    (s.deliverBattery v i temperature).pending = s.pending := by
  simp [State.deliverBattery]

@[simp] theorem State.acReturns_frame (s : State) :
    s.acReturns.now = s.now ∧ s.acReturns.mfp = s.mfp ∧ s.acReturns.tgu = s.tgu ∧ s.acReturns.svp = s.svp ∧
    s.acReturns.free = s.free ∧ s.acReturns.inputs = s.inputs ∧ s.acReturns.pending = s.pending := by
  unfold State.acReturns
  split <;> simp

@[simp] theorem State.acGoes_frame (s : State) :
    s.acGoes.now = s.now ∧ s.acGoes.mfp = s.mfp ∧ s.acGoes.tgu = s.tgu ∧ s.acGoes.svp = s.svp ∧ s.acGoes.free = s.free ∧
    s.acGoes.inputs = s.inputs ∧ s.acGoes.pending = s.pending := by
  simp [State.acGoes]

@[simp] theorem State.setShutdown_frame (s : State) :
    s.setShutdown.now = s.now ∧ s.setShutdown.mfp = s.mfp ∧ s.setShutdown.ocu = s.ocu ∧ s.setShutdown.sqc = s.sqc ∧
    s.setShutdown.cdu = s.cdu ∧ s.setShutdown.tgu = s.tgu ∧ s.setShutdown.svp = s.svp ∧ s.setShutdown.free = s.free ∧
    s.setShutdown.inputs = s.inputs ∧ s.setShutdown.pending = s.pending := by
  simp [State.setShutdown]

@[simp] theorem State.releaseContactor_frame (s : State) :
    s.releaseContactor.now = s.now ∧ s.releaseContactor.mfp = s.mfp ∧ s.releaseContactor.ocu = s.ocu ∧
    s.releaseContactor.sqc = s.sqc ∧ s.releaseContactor.chc = s.chc ∧ s.releaseContactor.pru = s.pru ∧
    s.releaseContactor.tgu = s.tgu ∧ s.releaseContactor.rcs = s.rcs ∧ s.releaseContactor.svp = s.svp ∧
    s.releaseContactor.free = s.free ∧ s.releaseContactor.inputs = s.inputs ∧ s.releaseContactor.pending = s.pending := by
  simp [State.releaseContactor]

@[simp] theorem State.endSetpointWord_frame (s : State) :
    s.endSetpointWord.now = s.now ∧ s.endSetpointWord.mfp = s.mfp ∧ s.endSetpointWord.ocu = s.ocu ∧
    s.endSetpointWord.sqc = s.sqc ∧ s.endSetpointWord.cdu = s.cdu ∧ s.endSetpointWord.chc = s.chc ∧
    s.endSetpointWord.pru = s.pru ∧ s.endSetpointWord.tgu = s.tgu ∧ s.endSetpointWord.rcs = s.rcs ∧
    s.endSetpointWord.svp = s.svp ∧ s.endSetpointWord.free = s.free ∧ s.endSetpointWord.inputs = s.inputs ∧
    s.endSetpointWord.pending = s.pending := by
  simp [State.endSetpointWord]

@[simp] theorem State.boostLimitEnds_frame (s : State) :
    s.boostLimitEnds.now = s.now ∧ s.boostLimitEnds.mfp = s.mfp ∧ s.boostLimitEnds.ocu = s.ocu ∧
    s.boostLimitEnds.sqc = s.sqc ∧ s.boostLimitEnds.cdu = s.cdu ∧ s.boostLimitEnds.chc = s.chc ∧
    s.boostLimitEnds.pru = s.pru ∧ s.boostLimitEnds.tgu = s.tgu ∧ s.boostLimitEnds.rcs = s.rcs ∧
    s.boostLimitEnds.svp = s.svp ∧ s.boostLimitEnds.free = s.free ∧ s.boostLimitEnds.inputs = s.inputs ∧
    s.boostLimitEnds.pending = s.pending := by
  unfold State.boostLimitEnds
  split <;> simp

@[simp] theorem State.startTest_frame (s : State) :
    s.startTest.now = s.now ∧ s.startTest.mfp = s.mfp ∧ s.startTest.ocu = s.ocu ∧ s.startTest.sqc = s.sqc ∧
    s.startTest.cdu = s.cdu ∧ s.startTest.chc = s.chc ∧ s.startTest.pru = s.pru ∧ s.startTest.tgu = s.tgu ∧
    s.startTest.rcs = s.rcs ∧ s.startTest.svp = s.svp ∧ s.startTest.free = s.free ∧ s.startTest.inputs = s.inputs ∧
    s.startTest.pending = s.pending := by
  simp [State.startTest]

@[simp] theorem State.settleEnds_frame (s : State) :
    s.settleEnds.now = s.now ∧ s.settleEnds.mfp = s.mfp ∧ s.settleEnds.ocu = s.ocu ∧ s.settleEnds.sqc = s.sqc ∧
    s.settleEnds.cdu = s.cdu ∧ s.settleEnds.chc = s.chc ∧ s.settleEnds.pru = s.pru ∧ s.settleEnds.tgu = s.tgu ∧
    s.settleEnds.rcs = s.rcs ∧ s.settleEnds.svp = s.svp ∧ s.settleEnds.free = s.free ∧ s.settleEnds.inputs = s.inputs ∧
    s.settleEnds.pending = s.pending := by
  simp [State.settleEnds]

@[simp] theorem State.loadEnds_frame (s : State) :
    s.loadEnds.now = s.now ∧ s.loadEnds.mfp = s.mfp ∧ s.loadEnds.ocu = s.ocu ∧ s.loadEnds.sqc = s.sqc ∧
    s.loadEnds.cdu = s.cdu ∧ s.loadEnds.chc = s.chc ∧ s.loadEnds.pru = s.pru ∧ s.loadEnds.tgu = s.tgu ∧
    s.loadEnds.svp = s.svp ∧ s.loadEnds.inputs = s.inputs ∧ s.loadEnds.pending = s.pending := by
  simp [State.loadEnds]

end Sys2Proof.Machine
end

