-- ==== Sys2Proof/Laws/FramesTags.lean ====
section
/-! SUPPORT. What the operations of the tags, the panel, the peers and the receiver leave unchanged. -/

namespace Sys2Proof.Machine

@[simp] theorem State.enterTag_frame (s : State) (source : TagSource) (code : Word16) (slot : Option Nat) :
    (s.enterTag source code slot).now = s.now ∧ (s.enterTag source code slot).mfp = s.mfp ∧
    (s.enterTag source code slot).ocu = s.ocu ∧ (s.enterTag source code slot).sqc = s.sqc ∧
    (s.enterTag source code slot).cdu = s.cdu ∧ (s.enterTag source code slot).btu = s.btu ∧
    (s.enterTag source code slot).chc = s.chc ∧ (s.enterTag source code slot).pru = s.pru ∧
    (s.enterTag source code slot).svp = s.svp ∧ (s.enterTag source code slot).free = s.free ∧
    (s.enterTag source code slot).inputs = s.inputs ∧ (s.enterTag source code slot).pending = s.pending := by
  simp [State.enterTag]

@[simp] theorem State.removeTag_frame (s : State) (source : TagSource) (code : Word16) :
    (s.removeTag source code).now = s.now ∧ (s.removeTag source code).mfp = s.mfp ∧ (s.removeTag source code).ocu = s.ocu ∧
    (s.removeTag source code).sqc = s.sqc ∧ (s.removeTag source code).cdu = s.cdu ∧ (s.removeTag source code).btu = s.btu ∧
    (s.removeTag source code).chc = s.chc ∧ (s.removeTag source code).pru = s.pru ∧ (s.removeTag source code).svp = s.svp ∧
    (s.removeTag source code).free = s.free ∧ (s.removeTag source code).inputs = s.inputs ∧
    (s.removeTag source code).pending = s.pending := by
  simp [State.removeTag]

@[simp] theorem State.clearOverflow_frame (s : State) :
    s.clearOverflow.now = s.now ∧ s.clearOverflow.mfp = s.mfp ∧ s.clearOverflow.ocu = s.ocu ∧ s.clearOverflow.sqc = s.sqc ∧
    s.clearOverflow.cdu = s.cdu ∧ s.clearOverflow.btu = s.btu ∧ s.clearOverflow.chc = s.chc ∧ s.clearOverflow.pru = s.pru ∧
    s.clearOverflow.rcs = s.rcs ∧ s.clearOverflow.svp = s.svp ∧ s.clearOverflow.free = s.free ∧
    s.clearOverflow.inputs = s.inputs ∧ s.clearOverflow.pending = s.pending := by
  simp [State.clearOverflow]

@[simp] theorem State.offerPlace_frame (s : State) :
    s.offerPlace.now = s.now ∧ s.offerPlace.mfp = s.mfp ∧ s.offerPlace.ocu = s.ocu ∧ s.offerPlace.sqc = s.sqc ∧
    s.offerPlace.cdu = s.cdu ∧ s.offerPlace.btu = s.btu ∧ s.offerPlace.chc = s.chc ∧ s.offerPlace.pru = s.pru ∧
    s.offerPlace.svp = s.svp ∧ s.offerPlace.free = s.free ∧ s.offerPlace.inputs = s.inputs ∧
    s.offerPlace.pending = s.pending := by
  unfold State.offerPlace
  split <;> simp

@[simp] theorem State.enterRemote_frame (s : State) (peer : Nat) (code : Word16) :
    (s.enterRemote peer code).now = s.now ∧ (s.enterRemote peer code).mfp = s.mfp ∧ (s.enterRemote peer code).ocu = s.ocu ∧
    (s.enterRemote peer code).sqc = s.sqc ∧ (s.enterRemote peer code).cdu = s.cdu ∧ (s.enterRemote peer code).btu = s.btu ∧
    (s.enterRemote peer code).chc = s.chc ∧ (s.enterRemote peer code).pru = s.pru ∧ (s.enterRemote peer code).svp = s.svp ∧
    (s.enterRemote peer code).free = s.free ∧ (s.enterRemote peer code).inputs = s.inputs ∧
    (s.enterRemote peer code).pending = s.pending := by
  unfold State.enterRemote
  split <;> simp

section

variable (v : Svp) (now : Word32)

@[simp] theorem Svp.beginRead_link : v.beginRead.link = .read := rfl
@[simp] theorem Svp.beginRead_linkTimer : v.beginRead.linkTimer = some 20 := rfl
@[simp] theorem Svp.beginRead_readWaits : v.beginRead.readWaits = v.readWaits := rfl
@[simp] theorem Svp.beginRead_settings : v.beginRead.settings = v.settings := rfl
@[simp] theorem Svp.beginRead_service : v.beginRead.service = v.service := rfl
@[simp] theorem Svp.beginWrite_link : (v.beginWrite now).link = .write := rfl
@[simp] theorem Svp.beginWrite_linkTimer : (v.beginWrite now).linkTimer = some (Config.writeSending now + 20) := rfl
@[simp] theorem Svp.beginWrite_readWaits : (v.beginWrite now).readWaits = v.readWaits := rfl
@[simp] theorem Svp.beginWrite_settings : (v.beginWrite now).settings = v.settings := rfl
@[simp] theorem Svp.beginWrite_service : (v.beginWrite now).service = v.service := rfl
@[simp] theorem Svp.release_link : v.release.link = .free := rfl
@[simp] theorem Svp.release_linkTimer : v.release.linkTimer = none := rfl
@[simp] theorem Svp.release_readWaits : v.release.readWaits = v.readWaits := rfl
@[simp] theorem Svp.release_settings : v.release.settings = v.settings := rfl
@[simp] theorem Svp.release_service : v.release.service = v.service := rfl

/-- A settings read that is answered keeps everything but the link and its timer (R175). -/
theorem Svp.answerRead_frame :
    v.answerRead.service = v.service ∧ v.answerRead.settings = v.settings ∧ v.answerRead.readWaits = v.readWaits ∧
    v.answerRead.response = v.response := by
  unfold Svp.answerRead
  split <;> simp

end

@[simp] theorem State.startWrite_frame (s : State) :
    s.startWrite.now = s.now ∧ s.startWrite.mfp = s.mfp ∧ s.startWrite.ocu = s.ocu ∧ s.startWrite.sqc = s.sqc ∧
    s.startWrite.cdu = s.cdu ∧ s.startWrite.btu = s.btu ∧ s.startWrite.chc = s.chc ∧ s.startWrite.pru = s.pru ∧
    s.startWrite.rcs = s.rcs ∧ s.startWrite.free = s.free ∧ s.startWrite.inputs = s.inputs ∧
    s.startWrite.pending = s.pending ∧ s.startWrite.svp.settings = s.svp.settings := by
  simp [State.startWrite]

@[simp] theorem State.requestWrite_frame (s : State) :
    s.requestWrite.now = s.now ∧ s.requestWrite.mfp = s.mfp ∧ s.requestWrite.ocu = s.ocu ∧ s.requestWrite.sqc = s.sqc ∧
    s.requestWrite.cdu = s.cdu ∧ s.requestWrite.btu = s.btu ∧ s.requestWrite.chc = s.chc ∧ s.requestWrite.pru = s.pru ∧
    s.requestWrite.rcs = s.rcs ∧ s.requestWrite.free = s.free ∧ s.requestWrite.inputs = s.inputs ∧
    s.requestWrite.pending = s.pending ∧ s.requestWrite.svp.settings = s.svp.settings := by
  unfold State.requestWrite
  repeat' split
  all_goals simp

@[simp] theorem State.idleWrite_frame (s : State) :
    s.idleWrite.now = s.now ∧ s.idleWrite.mfp = s.mfp ∧ s.idleWrite.ocu = s.ocu ∧ s.idleWrite.sqc = s.sqc ∧
    s.idleWrite.cdu = s.cdu ∧ s.idleWrite.btu = s.btu ∧ s.idleWrite.chc = s.chc ∧ s.idleWrite.pru = s.pru ∧
    s.idleWrite.rcs = s.rcs ∧ s.idleWrite.svp = s.svp ∧ s.idleWrite.free = s.free ∧ s.idleWrite.inputs = s.inputs ∧
    s.idleWrite.pending = s.pending := by
  simp [State.idleWrite]

@[simp] theorem State.afterWrite_frame (s : State) :
    s.afterWrite.now = s.now ∧ s.afterWrite.mfp = s.mfp ∧ s.afterWrite.ocu = s.ocu ∧ s.afterWrite.sqc = s.sqc ∧
    s.afterWrite.cdu = s.cdu ∧ s.afterWrite.btu = s.btu ∧ s.afterWrite.chc = s.chc ∧ s.afterWrite.pru = s.pru ∧
    s.afterWrite.rcs = s.rcs ∧ s.afterWrite.free = s.free ∧ s.afterWrite.inputs = s.inputs ∧
    s.afterWrite.pending = s.pending ∧ s.afterWrite.svp.settings = s.svp.settings := by
  unfold State.afterWrite
  repeat' split
  all_goals simp

@[simp] theorem State.endWrite_frame (s : State) (acknowledged : Bool) :
    (s.endWrite acknowledged).now = s.now ∧ (s.endWrite acknowledged).mfp = s.mfp ∧ (s.endWrite acknowledged).ocu = s.ocu ∧
    (s.endWrite acknowledged).sqc = s.sqc ∧ (s.endWrite acknowledged).cdu = s.cdu ∧ (s.endWrite acknowledged).btu = s.btu ∧
    (s.endWrite acknowledged).chc = s.chc ∧ (s.endWrite acknowledged).pru = s.pru ∧ (s.endWrite acknowledged).free = s.free ∧
    (s.endWrite acknowledged).inputs = s.inputs ∧ (s.endWrite acknowledged).pending = s.pending ∧
    (s.endWrite acknowledged).svp.settings = s.svp.settings := by
  unfold State.endWrite
  split <;> simp

@[simp] theorem State.freeLink_frame (s : State) :
    s.freeLink.now = s.now ∧ s.freeLink.mfp = s.mfp ∧ s.freeLink.ocu = s.ocu ∧ s.freeLink.sqc = s.sqc ∧
    s.freeLink.cdu = s.cdu ∧ s.freeLink.btu = s.btu ∧ s.freeLink.chc = s.chc ∧ s.freeLink.pru = s.pru ∧
    s.freeLink.rcs = s.rcs ∧ s.freeLink.free = s.free ∧ s.freeLink.inputs = s.inputs ∧ s.freeLink.pending = s.pending ∧
    s.freeLink.svp.settings = s.svp.settings := by
  unfold State.freeLink
  split <;> simp

@[simp] theorem State.requestRead_frame (s : State) :
    s.requestRead.now = s.now ∧ s.requestRead.mfp = s.mfp ∧ s.requestRead.ocu = s.ocu ∧ s.requestRead.sqc = s.sqc ∧
    s.requestRead.cdu = s.cdu ∧ s.requestRead.btu = s.btu ∧ s.requestRead.chc = s.chc ∧ s.requestRead.pru = s.pru ∧
    s.requestRead.tgu = s.tgu ∧ s.requestRead.rcs = s.rcs ∧ s.requestRead.free = s.free ∧ s.requestRead.inputs = s.inputs ∧
    s.requestRead.pending = s.pending ∧ s.requestRead.svp.settings = s.svp.settings := by
  simp [State.requestRead, apply_ite Svp.settings]

@[simp] theorem State.localApply_frame (s : State) (source : TagSource) (code : Word16) (slot : Option Nat) :
    (s.localApply source code slot).now = s.now ∧ (s.localApply source code slot).mfp = s.mfp ∧
    (s.localApply source code slot).free = s.free ∧ (s.localApply source code slot).inputs = s.inputs ∧
    (s.localApply source code slot).pending = s.pending ∧ (s.localApply source code slot).svp.settings = s.svp.settings := by
  simp only [State.localApply, State.onlyIf, State.tagEvent]
  repeat' split
  all_goals simp

@[simp] theorem State.localRemoval_frame (s : State) (own other : TagSource) (code : Word16) :
    (s.localRemoval own other code).now = s.now ∧ (s.localRemoval own other code).mfp = s.mfp ∧
    (s.localRemoval own other code).free = s.free ∧ (s.localRemoval own other code).inputs = s.inputs ∧
    (s.localRemoval own other code).pending = s.pending ∧ (s.localRemoval own other code).svp.settings = s.svp.settings := by
  simp only [State.localRemoval, State.onlyIf, State.tagEvent]
  repeat' split
  all_goals simp

@[simp] theorem State.peerTag_frame (s : State) (peer : Nat) (code : Word16) :
    (s.peerTag peer code).now = s.now ∧ (s.peerTag peer code).mfp = s.mfp ∧ (s.peerTag peer code).svp = s.svp ∧
    (s.peerTag peer code).free = s.free ∧ (s.peerTag peer code).inputs = s.inputs ∧
    (s.peerTag peer code).pending = s.pending := by
  simp only [State.peerTag, State.onlyIf, State.tagEvent]
  repeat' split
  all_goals simp

@[simp] theorem State.peerUntag_frame (s : State) (peer : Nat) (code : Word16) :
    (s.peerUntag peer code).now = s.now ∧ (s.peerUntag peer code).mfp = s.mfp ∧ (s.peerUntag peer code).svp = s.svp ∧
    (s.peerUntag peer code).free = s.free ∧ (s.peerUntag peer code).inputs = s.inputs ∧
    (s.peerUntag peer code).pending = s.pending := by
  simp only [State.peerUntag, State.onlyIf, State.tagEvent]
  repeat' split
  all_goals simp

/-- A projection that every step of a fold keeps is kept by the fold. -/
theorem foldl_keeps {α β : Type} (p : State → β) (f : State → α → State) (h : ∀ s x, p (f s x) = p s) (l : List α)
    (s : State) : p (l.foldl f s) = p s := by
  induction l generalizing s with
  | nil => rfl
  | cons x l ih => rw [List.foldl_cons, ih, h]

/-- Everything but the tags and the records, as one projection. -/
def State.besideTags (s : State) :=
  (s.now, s.mfp, s.ocu, s.sqc, s.cdu, s.btu, s.chc, s.pru, s.svp, s.free, s.inputs, s.pending)

@[simp] theorem State.dropStrays_frame (s : State) (peer : Nat) (codes : List Word16) :
    (s.dropStrays peer codes).now = s.now ∧ (s.dropStrays peer codes).mfp = s.mfp ∧ (s.dropStrays peer codes).ocu = s.ocu ∧
    (s.dropStrays peer codes).sqc = s.sqc ∧ (s.dropStrays peer codes).cdu = s.cdu ∧ (s.dropStrays peer codes).btu = s.btu ∧
    (s.dropStrays peer codes).chc = s.chc ∧ (s.dropStrays peer codes).pru = s.pru ∧ (s.dropStrays peer codes).svp = s.svp ∧
    (s.dropStrays peer codes).free = s.free ∧ (s.dropStrays peer codes).inputs = s.inputs ∧
    (s.dropStrays peer codes).pending = s.pending := by
  have h := foldl_keeps State.besideTags (fun s e => s.removeTag e.source e.code)
    (fun s e => by simp [State.besideTags]) (s.strayTags peer codes) s
  simp only [State.besideTags, Prod.mk.injEq] at h
  simp only [State.dropStrays]
  split
  · simp [h]
  · exact h

@[simp] theorem State.enterList_frame (s : State) (peer : Nat) (codes : List Word16) :
    (s.enterList peer codes).now = s.now ∧ (s.enterList peer codes).mfp = s.mfp ∧ (s.enterList peer codes).ocu = s.ocu ∧
    (s.enterList peer codes).sqc = s.sqc ∧ (s.enterList peer codes).cdu = s.cdu ∧ (s.enterList peer codes).btu = s.btu ∧
    (s.enterList peer codes).chc = s.chc ∧ (s.enterList peer codes).pru = s.pru ∧ (s.enterList peer codes).svp = s.svp ∧
    (s.enterList peer codes).free = s.free ∧ (s.enterList peer codes).inputs = s.inputs ∧
    (s.enterList peer codes).pending = s.pending := by
  have h := foldl_keeps State.besideTags
    (fun s code => s.onlyIf (!s.holdsPair peer code) fun s => s.enterRemote peer code)
    (fun s e => by simp [State.besideTags]) codes.eraseDups s
  simpa only [State.enterList, State.besideTags, Prod.mk.injEq] using h

@[simp] theorem State.peerTagList_frame (s : State) (peer : Nat) (codes : List Word16) :
    (s.peerTagList peer codes).now = s.now ∧ (s.peerTagList peer codes).mfp = s.mfp ∧
    (s.peerTagList peer codes).svp = s.svp ∧ (s.peerTagList peer codes).free = s.free ∧
    (s.peerTagList peer codes).inputs = s.inputs ∧ (s.peerTagList peer codes).pending = s.pending := by
  simp only [State.peerTagList, State.onlyIf, State.tagEvent]
  repeat' split
  all_goals simp

@[simp] theorem State.restoreTags_frame (s : State) (read : MemRead) :
    (s.restoreTags read).now = s.now ∧ (s.restoreTags read).mfp = s.mfp ∧ (s.restoreTags read).ocu = s.ocu ∧
    (s.restoreTags read).sqc = s.sqc ∧ (s.restoreTags read).cdu = s.cdu ∧ (s.restoreTags read).btu = s.btu ∧
    (s.restoreTags read).chc = s.chc ∧ (s.restoreTags read).pru = s.pru ∧ (s.restoreTags read).svp = s.svp ∧
    (s.restoreTags read).free = s.free ∧ (s.restoreTags read).inputs = s.inputs ∧
    (s.restoreTags read).pending = s.pending := by
  unfold State.restoreTags
  split <;> simp

/-- What the decoder leaves of the TGU: everything but its place, the line, the bits and the rejects. -/
def Tgu.besideWand (t : Tgu) (u : Tgu) : Prop :=
  u = { t with decoder := u.decoder, line := u.line, bits := u.bits, wandRejects := u.wandRejects }

theorem Tgu.besideWand_trans {t u v : Tgu} (h : t.besideWand u) (k : u.besideWand v) : t.besideWand v := by
  unfold Tgu.besideWand at *
  rw [k, h]

theorem Tgu.follow_besideWand (t : Tgu) (verdict : Verdict) : t.besideWand (t.follow verdict) := by
  cases verdict <;> rfl

theorem Tgu.spaceAt_besideWand (t : Tgu) (tolerance width : Nat) : t.besideWand (t.spaceAt tolerance width).1 := by
  have h := t.follow_besideWand (judgeSpacePassing t.decoder tolerance width)
  unfold Tgu.besideWand at *
  simp only [Tgu.spaceAt]
  rw [h]

theorem Tgu.markAt_besideWand (t : Tgu) (tolerance width : Nat) : t.besideWand (t.markAt tolerance width).1 := by
  have h := t.follow_besideWand (judgeMarkPassing t.decoder tolerance width)
  unfold Tgu.besideWand at *
  simp only [Tgu.markAt]
  rw [h]

theorem Tgu.markFrom_besideWand (t : Tgu) (tolerance space width : Nat) :
    t.besideWand (t.markFrom tolerance space width).1 := by
  unfold Tgu.markFrom
  split
  · rfl
  · exact Tgu.besideWand_trans (t.follow_besideWand _) (Tgu.markAt_besideWand _ tolerance width)

theorem Tgu.wandRun_besideWand (t : Tgu) (tolerance : Nat) (run : WandRun) : t.besideWand (t.wandRun tolerance run).1 := by
  unfold Tgu.wandRun
  split
  · exact t.markFrom_besideWand ..
  · exact t.spaceAt_besideWand ..
  · exact t.markFrom_besideWand ..
  · exact t.spaceAt_besideWand ..
  · exact t.markAt_besideWand ..
  · exact Tgu.besideWand_trans (t.follow_besideWand _) (Tgu.spaceAt_besideWand ..)

/-- Runs of the WAND line change the decoder's place, the line, the bits and the rejects alone. -/
theorem Tgu.wandRuns_besideWand (tolerance : Nat) (runs : List WandRun) (t : Tgu) :
    t.besideWand (t.wandRuns tolerance runs).1 := by
  induction runs generalizing t with
  | nil => rfl
  | cons run rest ih => exact Tgu.besideWand_trans (t.wandRun_besideWand tolerance run) (ih _)

/-- How the runs of the WAND line are parted among commands does not matter: one list after another is their join. -/
theorem Tgu.wandRuns_append (tolerance : Nat) (runs more : List WandRun) (t : Tgu) :
    t.wandRuns tolerance (runs ++ more) =
      (((t.wandRuns tolerance runs).1.wandRuns tolerance more).1,
        (t.wandRuns tolerance runs).2 ++ ((t.wandRuns tolerance runs).1.wandRuns tolerance more).2) := by
  induction runs generalizing t with
  | nil => rfl
  | cons run rest ih => simp [Tgu.wandRuns, ih]

@[simp] theorem State.followWand_frame (s : State) (runs : List WandRun) (own : Verdict → Bool) :
    (s.followWand runs own).now = s.now ∧ (s.followWand runs own).mfp = s.mfp ∧ (s.followWand runs own).ocu = s.ocu ∧
    (s.followWand runs own).sqc = s.sqc ∧ (s.followWand runs own).cdu = s.cdu ∧ (s.followWand runs own).btu = s.btu ∧
    (s.followWand runs own).chc = s.chc ∧ (s.followWand runs own).pru = s.pru ∧ (s.followWand runs own).rcs = s.rcs ∧
    (s.followWand runs own).svp = s.svp ∧ (s.followWand runs own).free = s.free ∧ (s.followWand runs own).inputs = s.inputs ∧
    (s.followWand runs own).pending = s.pending := by
  unfold State.followWand State.onlyIf
  split <;> simp

/-- The wand leaves the tags, the keys, the handle, the window, the tone and the tag store as they stand. -/
theorem State.followWand_tgu (s : State) (runs : List WandRun) (own : Verdict → Bool) :
    s.tgu.besideWand (s.followWand runs own).tgu := by
  unfold State.followWand State.onlyIf
  split
  · exact Tgu.wandRuns_besideWand _ runs s.tgu
  · rfl

@[simp] theorem State.startErrorTone_frame (s : State) :
    s.startErrorTone.now = s.now ∧ s.startErrorTone.mfp = s.mfp ∧ s.startErrorTone.ocu = s.ocu ∧
    s.startErrorTone.sqc = s.sqc ∧ s.startErrorTone.cdu = s.cdu ∧ s.startErrorTone.btu = s.btu ∧
    s.startErrorTone.chc = s.chc ∧ s.startErrorTone.pru = s.pru ∧ s.startErrorTone.rcs = s.rcs ∧
    s.startErrorTone.svp = s.svp ∧ s.startErrorTone.free = s.free ∧ s.startErrorTone.inputs = s.inputs ∧
    s.startErrorTone.pending = s.pending := by
  simp [State.startErrorTone]

@[simp] theorem State.openWindow_frame (s : State) (code : Word16) (slot : Nat) :
    (s.openWindow code slot).now = s.now ∧ (s.openWindow code slot).mfp = s.mfp ∧ (s.openWindow code slot).ocu = s.ocu ∧
    (s.openWindow code slot).sqc = s.sqc ∧ (s.openWindow code slot).cdu = s.cdu ∧ (s.openWindow code slot).btu = s.btu ∧
    (s.openWindow code slot).chc = s.chc ∧ (s.openWindow code slot).pru = s.pru ∧ (s.openWindow code slot).rcs = s.rcs ∧
    (s.openWindow code slot).svp = s.svp ∧ (s.openWindow code slot).free = s.free ∧
    (s.openWindow code slot).inputs = s.inputs ∧ (s.openWindow code slot).pending = s.pending := by
  simp [State.openWindow]

@[simp] theorem State.closeWindow_frame (s : State) :
    s.closeWindow.now = s.now ∧ s.closeWindow.mfp = s.mfp ∧ s.closeWindow.ocu = s.ocu ∧ s.closeWindow.sqc = s.sqc ∧
    s.closeWindow.cdu = s.cdu ∧ s.closeWindow.btu = s.btu ∧ s.closeWindow.chc = s.chc ∧ s.closeWindow.pru = s.pru ∧
    s.closeWindow.rcs = s.rcs ∧ s.closeWindow.svp = s.svp ∧ s.closeWindow.free = s.free ∧ s.closeWindow.inputs = s.inputs ∧
    s.closeWindow.pending = s.pending := by
  simp [State.closeWindow]

@[simp] theorem State.toggleTone_frame (s : State) :
    s.toggleTone.now = s.now ∧ s.toggleTone.mfp = s.mfp ∧ s.toggleTone.ocu = s.ocu ∧ s.toggleTone.sqc = s.sqc ∧
    s.toggleTone.cdu = s.cdu ∧ s.toggleTone.btu = s.btu ∧ s.toggleTone.chc = s.chc ∧ s.toggleTone.pru = s.pru ∧
    s.toggleTone.rcs = s.rcs ∧ s.toggleTone.svp = s.svp ∧ s.toggleTone.free = s.free ∧ s.toggleTone.inputs = s.inputs ∧
    s.toggleTone.pending = s.pending := by
  simp [State.toggleTone]

@[simp] theorem State.completeCode_frame (s : State) :
    s.completeCode.now = s.now ∧ s.completeCode.mfp = s.mfp ∧ s.completeCode.ocu = s.ocu ∧ s.completeCode.sqc = s.sqc ∧
    s.completeCode.cdu = s.cdu ∧ s.completeCode.btu = s.btu ∧ s.completeCode.chc = s.chc ∧ s.completeCode.pru = s.pru ∧
    s.completeCode.svp = s.svp ∧ s.completeCode.free = s.free ∧ s.completeCode.inputs = s.inputs ∧
    s.completeCode.pending = s.pending := by
  simp only [State.completeCode]
  repeat' split
  all_goals simp

@[simp] theorem State.tripPress_frame (s : State) :
    s.tripPress.now = s.now ∧ s.tripPress.mfp = s.mfp ∧ s.tripPress.svp = s.svp ∧ s.tripPress.free = s.free ∧
    s.tripPress.inputs = s.inputs ∧ s.tripPress.pending = s.pending := by
  unfold State.tripPress
  split <;> simp

@[simp] theorem State.closePress_frame (s : State) :
    s.closePress.now = s.now ∧ s.closePress.mfp = s.mfp ∧ s.closePress.svp = s.svp ∧ s.closePress.free = s.free ∧
    s.closePress.inputs = s.inputs ∧ s.closePress.pending = s.pending := by
  unfold State.closePress
  split <;> simp

@[simp] theorem State.tagOnPress_frame (s : State) :
    s.tagOnPress.now = s.now ∧ s.tagOnPress.mfp = s.mfp ∧ s.tagOnPress.free = s.free ∧ s.tagOnPress.inputs = s.inputs ∧
    s.tagOnPress.pending = s.pending ∧ s.tagOnPress.svp.settings = s.svp.settings := by
  unfold State.tagOnPress
  split <;> simp

@[simp] theorem State.tagOffPress_frame (s : State) :
    s.tagOffPress.now = s.now ∧ s.tagOffPress.mfp = s.mfp ∧ s.tagOffPress.free = s.free ∧ s.tagOffPress.inputs = s.inputs ∧
    s.tagOffPress.pending = s.pending ∧ s.tagOffPress.svp.settings = s.svp.settings := by
  unfold State.tagOffPress
  split <;> simp

@[simp] theorem State.handleGoesDown_frame (s : State) (btuFirst : Bool) :
    (s.handleGoesDown btuFirst).now = s.now ∧ (s.handleGoesDown btuFirst).mfp = s.mfp ∧
    (s.handleGoesDown btuFirst).svp = s.svp ∧ (s.handleGoesDown btuFirst).free = s.free ∧
    (s.handleGoesDown btuFirst).inputs = s.inputs ∧ (s.handleGoesDown btuFirst).pending = s.pending := by
  unfold State.handleGoesDown
  split <;> simp

@[simp] theorem State.partnerHandOff_frame (s : State) (r : RxRecord) (kind : ReportKind) :
    (s.partnerHandOff r kind).now = s.now ∧ (s.partnerHandOff r kind).mfp = s.mfp ∧ (s.partnerHandOff r kind).tgu = s.tgu ∧
    (s.partnerHandOff r kind).svp = s.svp ∧ (s.partnerHandOff r kind).free = s.free ∧
    (s.partnerHandOff r kind).inputs = s.inputs ∧ (s.partnerHandOff r kind).pending = s.pending := by
  unfold State.partnerHandOff
  split <;> simp

@[simp] theorem State.handOff_frame (s : State) (r : RxRecord) (kind : ReportKind) :
    (s.handOff r kind).now = s.now ∧ (s.handOff r kind).mfp = s.mfp ∧ (s.handOff r kind).svp = s.svp ∧
    (s.handOff r kind).free = s.free ∧ (s.handOff r kind).inputs = s.inputs ∧ (s.handOff r kind).pending = s.pending := by
  unfold State.handOff
  split <;> simp

@[simp] theorem State.applyRecord_frame (s : State) (r : RxRecord) :
    (s.applyRecord r).now = s.now ∧ (s.applyRecord r).mfp = s.mfp ∧ (s.applyRecord r).svp = s.svp ∧
    (s.applyRecord r).free = s.free ∧ (s.applyRecord r).inputs = s.inputs ∧ (s.applyRecord r).pending = s.pending := by
  simp only [State.applyRecord]
  repeat' split
  all_goals simp

@[simp] theorem State.takeHead_frame (s : State) :
    s.takeHead.now = s.now ∧ s.takeHead.mfp = s.mfp ∧ s.takeHead.svp = s.svp ∧ s.takeHead.free = s.free ∧
    s.takeHead.inputs = s.inputs ∧ s.takeHead.pending = s.pending := by
  unfold State.takeHead
  split <;> simp

@[simp] theorem State.completeBody_frame (s : State) (body : List Byte) :
    (s.completeBody body).now = s.now ∧ (s.completeBody body).mfp = s.mfp ∧ (s.completeBody body).ocu = s.ocu ∧
    (s.completeBody body).sqc = s.sqc ∧ (s.completeBody body).cdu = s.cdu ∧ (s.completeBody body).btu = s.btu ∧
    (s.completeBody body).pru = s.pru ∧ (s.completeBody body).tgu = s.tgu ∧ (s.completeBody body).rcs = s.rcs ∧
    (s.completeBody body).svp = s.svp ∧ (s.completeBody body).free = s.free ∧ (s.completeBody body).inputs = s.inputs ∧
    (s.completeBody body).pending = s.pending := by
  simp [State.completeBody]

@[simp] theorem State.addBody_frame (s : State) (b : Byte) :
    (s.addBody b).now = s.now ∧ (s.addBody b).mfp = s.mfp ∧ (s.addBody b).ocu = s.ocu ∧ (s.addBody b).sqc = s.sqc ∧
    (s.addBody b).cdu = s.cdu ∧ (s.addBody b).btu = s.btu ∧ (s.addBody b).pru = s.pru ∧ (s.addBody b).tgu = s.tgu ∧
    (s.addBody b).rcs = s.rcs ∧ (s.addBody b).svp = s.svp ∧ (s.addBody b).free = s.free ∧ (s.addBody b).inputs = s.inputs ∧
    (s.addBody b).pending = s.pending := by
  simp only [State.addBody]
  repeat' split
  all_goals simp

@[simp] theorem State.bodyByte_frame (s : State) (b : Byte) :
    (s.bodyByte b).now = s.now ∧ (s.bodyByte b).mfp = s.mfp ∧ (s.bodyByte b).ocu = s.ocu ∧ (s.bodyByte b).sqc = s.sqc ∧
    (s.bodyByte b).cdu = s.cdu ∧ (s.bodyByte b).btu = s.btu ∧ (s.bodyByte b).pru = s.pru ∧ (s.bodyByte b).tgu = s.tgu ∧
    (s.bodyByte b).rcs = s.rcs ∧ (s.bodyByte b).svp = s.svp ∧ (s.bodyByte b).free = s.free ∧
    (s.bodyByte b).inputs = s.inputs ∧ (s.bodyByte b).pending = s.pending := by
  unfold State.bodyByte
  repeat' split
  all_goals simp

@[simp] theorem State.hearByte_frame (s : State) (rx : LineByte) :
    (s.hearByte rx).now = s.now ∧ (s.hearByte rx).mfp = s.mfp ∧ (s.hearByte rx).ocu = s.ocu ∧ (s.hearByte rx).sqc = s.sqc ∧
    (s.hearByte rx).cdu = s.cdu ∧ (s.hearByte rx).btu = s.btu ∧ (s.hearByte rx).pru = s.pru ∧ (s.hearByte rx).tgu = s.tgu ∧
    (s.hearByte rx).rcs = s.rcs ∧ (s.hearByte rx).svp = s.svp ∧ (s.hearByte rx).free = s.free ∧
    (s.hearByte rx).inputs = s.inputs ∧ (s.hearByte rx).pending = s.pending := by
  unfold State.hearByte
  repeat' split
  all_goals simp

@[simp] theorem State.receiveByte_frame (s : State) (rx : LineByte) :
    (s.receiveByte rx).now = s.now ∧ (s.receiveByte rx).mfp = s.mfp ∧ (s.receiveByte rx).ocu = s.ocu ∧
    (s.receiveByte rx).sqc = s.sqc ∧ (s.receiveByte rx).cdu = s.cdu ∧ (s.receiveByte rx).btu = s.btu ∧
    (s.receiveByte rx).pru = s.pru ∧ (s.receiveByte rx).tgu = s.tgu ∧ (s.receiveByte rx).rcs = s.rcs ∧
    (s.receiveByte rx).svp = s.svp ∧ (s.receiveByte rx).free = s.free ∧ (s.receiveByte rx).inputs = s.inputs ∧
    (s.receiveByte rx).pending = s.pending := by
  simp [State.receiveByte]

@[simp] theorem State.changeCarrier_frame (s : State) (present : Bool) :
    (s.changeCarrier present).now = s.now ∧ (s.changeCarrier present).mfp = s.mfp ∧ (s.changeCarrier present).ocu = s.ocu ∧
    (s.changeCarrier present).sqc = s.sqc ∧ (s.changeCarrier present).cdu = s.cdu ∧ (s.changeCarrier present).btu = s.btu ∧
    (s.changeCarrier present).pru = s.pru ∧ (s.changeCarrier present).tgu = s.tgu ∧ (s.changeCarrier present).rcs = s.rcs ∧
    (s.changeCarrier present).svp = s.svp ∧ (s.changeCarrier present).free = s.free ∧
    (s.changeCarrier present).inputs = s.inputs ∧ (s.changeCarrier present).pending = s.pending := by
  simp [State.changeCarrier]

end Sys2Proof.Machine
end

