-- ==== Sys2Proof/Laws/FramesService.lean ====
section
/-! SUPPORT. What the operations of the service port, the measurement frames, the starts and the transmitter leave unchanged. -/

namespace Sys2Proof.Machine

@[simp] theorem State.respond_frame (s : State) (code : Byte) (answer : Answer) (payload : List Byte) :
    (s.respond code answer payload).now = s.now ∧ (s.respond code answer payload).mfp = s.mfp ∧
    (s.respond code answer payload).ocu = s.ocu ∧ (s.respond code answer payload).sqc = s.sqc ∧
    (s.respond code answer payload).cdu = s.cdu ∧ (s.respond code answer payload).btu = s.btu ∧
    (s.respond code answer payload).chc = s.chc ∧ (s.respond code answer payload).pru = s.pru ∧
    (s.respond code answer payload).tgu = s.tgu ∧ (s.respond code answer payload).rcs = s.rcs ∧
    (s.respond code answer payload).free = s.free ∧ (s.respond code answer payload).inputs = s.inputs ∧
    (s.respond code answer payload).pending = s.pending ∧ (s.respond code answer payload).svp.settings = s.svp.settings := by
  simp [State.respond]

@[simp] theorem State.serveRecords_frame (s : State) (n : Word32) :
    (s.serveRecords n).now = s.now ∧ (s.serveRecords n).mfp = s.mfp ∧ (s.serveRecords n).ocu = s.ocu ∧
    (s.serveRecords n).sqc = s.sqc ∧ (s.serveRecords n).cdu = s.cdu ∧ (s.serveRecords n).btu = s.btu ∧
    (s.serveRecords n).chc = s.chc ∧ (s.serveRecords n).pru = s.pru ∧ (s.serveRecords n).tgu = s.tgu ∧
    (s.serveRecords n).free = s.free ∧ (s.serveRecords n).inputs = s.inputs ∧ (s.serveRecords n).pending = s.pending ∧
    (s.serveRecords n).svp.settings = s.svp.settings := by
  simp [State.serveRecords]

@[simp] theorem State.serveTagApply_frame (s : State) (code : Word16) :
    (s.serveTagApply code).now = s.now ∧ (s.serveTagApply code).mfp = s.mfp ∧ (s.serveTagApply code).free = s.free ∧
    (s.serveTagApply code).inputs = s.inputs ∧ (s.serveTagApply code).pending = s.pending ∧
    (s.serveTagApply code).svp.settings = s.svp.settings := by
  simp only [State.serveTagApply, State.onlyIf]
  repeat' split
  all_goals simp

@[simp] theorem State.serveTagRemove_frame (s : State) (code : Word16) :
    (s.serveTagRemove code).now = s.now ∧ (s.serveTagRemove code).mfp = s.mfp ∧ (s.serveTagRemove code).free = s.free ∧
    (s.serveTagRemove code).inputs = s.inputs ∧ (s.serveTagRemove code).pending = s.pending ∧
    (s.serveTagRemove code).svp.settings = s.svp.settings := by
  unfold State.serveTagRemove
  split <;> simp

@[simp] theorem State.serveRestart_frame (s : State) :
    s.serveRestart.now = s.now ∧ s.serveRestart.mfp = s.mfp ∧ s.serveRestart.ocu = s.ocu ∧ s.serveRestart.sqc = s.sqc ∧
    s.serveRestart.cdu = s.cdu ∧ s.serveRestart.btu = s.btu ∧ s.serveRestart.chc = s.chc ∧ s.serveRestart.pru = s.pru ∧
    s.serveRestart.tgu = s.tgu ∧ s.serveRestart.rcs = s.rcs ∧ s.serveRestart.free = s.free ∧
    s.serveRestart.inputs = s.inputs ∧ s.serveRestart.pending = s.pending ∧
    s.serveRestart.svp.settings = s.svp.settings := by
  unfold State.serveRestart
  split <;> simp

@[simp] theorem State.serveTrip_frame (s : State) :
    s.serveTrip.now = s.now ∧ s.serveTrip.mfp = s.mfp ∧ s.serveTrip.tgu = s.tgu ∧ s.serveTrip.free = s.free ∧
    s.serveTrip.inputs = s.inputs ∧ s.serveTrip.pending = s.pending ∧ s.serveTrip.svp.settings = s.svp.settings := by
  simp [State.serveTrip]

@[simp] theorem State.serveClose_frame (s : State) :
    s.serveClose.now = s.now ∧ s.serveClose.mfp = s.mfp ∧ s.serveClose.tgu = s.tgu ∧ s.serveClose.free = s.free ∧
    s.serveClose.inputs = s.inputs ∧ s.serveClose.pending = s.pending ∧ s.serveClose.svp.settings = s.svp.settings := by
  simp [State.serveClose]

@[simp] theorem State.serve_frame (s : State) (x : Request) :
    (s.serve x).now = s.now ∧ (s.serve x).mfp = s.mfp ∧ (s.serve x).free = s.free ∧ (s.serve x).inputs = s.inputs ∧
    (s.serve x).pending = s.pending ∧ (s.serve x).svp.settings = s.svp.settings := by
  unfold State.serve
  split <;> simp

@[simp] theorem State.serveBad_frame (s : State) (code : Byte) :
    (s.serveBad code).now = s.now ∧ (s.serveBad code).mfp = s.mfp ∧ (s.serveBad code).ocu = s.ocu ∧
    (s.serveBad code).sqc = s.sqc ∧ (s.serveBad code).cdu = s.cdu ∧ (s.serveBad code).btu = s.btu ∧
    (s.serveBad code).chc = s.chc ∧ (s.serveBad code).pru = s.pru ∧ (s.serveBad code).tgu = s.tgu ∧
    (s.serveBad code).rcs = s.rcs ∧ (s.serveBad code).free = s.free ∧ (s.serveBad code).inputs = s.inputs ∧
    (s.serveBad code).pending = s.pending ∧ (s.serveBad code).svp.settings = s.svp.settings := by
  simp [State.serveBad]

@[simp] theorem State.resetAssembly_frame (s : State) :
    s.resetAssembly.now = s.now ∧ s.resetAssembly.mfp = s.mfp ∧ s.resetAssembly.ocu = s.ocu ∧ s.resetAssembly.sqc = s.sqc ∧
    s.resetAssembly.cdu = s.cdu ∧ s.resetAssembly.btu = s.btu ∧ s.resetAssembly.chc = s.chc ∧ s.resetAssembly.pru = s.pru ∧
    s.resetAssembly.tgu = s.tgu ∧ s.resetAssembly.rcs = s.rcs ∧ s.resetAssembly.free = s.free ∧
    s.resetAssembly.inputs = s.inputs ∧ s.resetAssembly.pending = s.pending ∧
    s.resetAssembly.svp.settings = s.svp.settings := by
  simp [State.resetAssembly]

@[simp] theorem State.discardRequest_frame (s : State) :
    s.discardRequest.now = s.now ∧ s.discardRequest.mfp = s.mfp ∧ s.discardRequest.ocu = s.ocu ∧
    s.discardRequest.sqc = s.sqc ∧ s.discardRequest.cdu = s.cdu ∧ s.discardRequest.btu = s.btu ∧
    s.discardRequest.chc = s.chc ∧ s.discardRequest.pru = s.pru ∧ s.discardRequest.tgu = s.tgu ∧
    s.discardRequest.rcs = s.rcs ∧ s.discardRequest.free = s.free ∧ s.discardRequest.inputs = s.inputs ∧
    s.discardRequest.pending = s.pending ∧ s.discardRequest.svp.settings = s.svp.settings := by
  simp [State.discardRequest]

@[simp] theorem State.takeRequest_frame (s : State) (r : Request) :
    (s.takeRequest r).now = s.now ∧ (s.takeRequest r).mfp = s.mfp ∧ (s.takeRequest r).free = s.free ∧
    (s.takeRequest r).inputs = s.inputs ∧ (s.takeRequest r).pending = s.pending ∧
    (s.takeRequest r).svp.settings = s.svp.settings := by
  simp only [State.takeRequest, State.onlyIf]
  repeat' split
  all_goals simp

@[simp] theorem State.judgeFrame_frame (s : State) (frame : List Byte) :
    (s.judgeFrame frame).now = s.now ∧ (s.judgeFrame frame).mfp = s.mfp ∧ (s.judgeFrame frame).free = s.free ∧
    (s.judgeFrame frame).inputs = s.inputs ∧ (s.judgeFrame frame).pending = s.pending ∧
    (s.judgeFrame frame).svp.settings = s.svp.settings := by
  simp only [State.judgeFrame]
  repeat' split
  all_goals simp

@[simp] theorem State.bufferByte_frame (s : State) (b : Byte) :
    (s.bufferByte b).now = s.now ∧ (s.bufferByte b).mfp = s.mfp ∧ (s.bufferByte b).ocu = s.ocu ∧
    (s.bufferByte b).sqc = s.sqc ∧ (s.bufferByte b).cdu = s.cdu ∧ (s.bufferByte b).btu = s.btu ∧
    (s.bufferByte b).chc = s.chc ∧ (s.bufferByte b).pru = s.pru ∧ (s.bufferByte b).tgu = s.tgu ∧
    (s.bufferByte b).rcs = s.rcs ∧ (s.bufferByte b).free = s.free ∧ (s.bufferByte b).inputs = s.inputs ∧
    (s.bufferByte b).pending = s.pending ∧ (s.bufferByte b).svp.settings = s.svp.settings := by
  simp [State.bufferByte]

@[simp] theorem State.assemble_frame (s : State) (rx : LineByte) :
    (s.assemble rx).now = s.now ∧ (s.assemble rx).mfp = s.mfp ∧ (s.assemble rx).free = s.free ∧
    (s.assemble rx).inputs = s.inputs ∧ (s.assemble rx).pending = s.pending ∧
    (s.assemble rx).svp.settings = s.svp.settings := by
  simp only [State.assemble]
  repeat' split
  all_goals simp

@[simp] theorem State.badFrame_frame (s : State) :
    s.badFrame.now = s.now ∧ s.badFrame.ocu = s.ocu ∧ s.badFrame.sqc = s.sqc ∧ s.badFrame.cdu = s.cdu ∧
    s.badFrame.btu = s.btu ∧ s.badFrame.chc = s.chc ∧ s.badFrame.pru = s.pru ∧ s.badFrame.tgu = s.tgu ∧
    s.badFrame.rcs = s.rcs ∧ s.badFrame.svp = s.svp ∧ s.badFrame.free = s.free ∧ s.badFrame.inputs = s.inputs ∧
    s.badFrame.pending = s.pending := by
  simp [State.badFrame]

@[simp] theorem State.testAtArrival_frame (s : State) :
    s.testAtArrival.now = s.now ∧ s.testAtArrival.mfp = s.mfp ∧ s.testAtArrival.ocu = s.ocu ∧ s.testAtArrival.sqc = s.sqc ∧
    s.testAtArrival.cdu = s.cdu ∧ s.testAtArrival.chc = s.chc ∧ s.testAtArrival.pru = s.pru ∧ s.testAtArrival.tgu = s.tgu ∧
    s.testAtArrival.rcs = s.rcs ∧ s.testAtArrival.svp = s.svp ∧ s.testAtArrival.free = s.free ∧
    s.testAtArrival.inputs = s.inputs ∧ s.testAtArrival.pending = s.pending := by
  simp [State.testAtArrival]

@[simp] theorem State.deliver_frame (s : State) (f : MeasFields) (closing : Bool) (x : Delivery) :
    (s.deliver f closing x).now = s.now ∧ (s.deliver f closing x).mfp = s.mfp ∧ (s.deliver f closing x).svp = s.svp ∧
    (s.deliver f closing x).free = s.free ∧ (s.deliver f closing x).inputs = s.inputs ∧
    (s.deliver f closing x).pending = s.pending := by
  unfold State.deliver
  split <;> simp

/-- A good frame leaves station time, the SVP, the counter of free values and the queue, and its MFP is the one that it took. -/
@[simp] theorem State.takeGoodFrame_frame (s : State) (f : MeasFields) (order : List Delivery) :
    (s.takeGoodFrame f order).now = s.now ∧ (s.takeGoodFrame f order).mfp = s.mfp.takeGood f ∧
    (s.takeGoodFrame f order).svp = s.svp ∧ (s.takeGoodFrame f order).free = s.free ∧
    (s.takeGoodFrame f order).inputs = s.inputs ∧ (s.takeGoodFrame f order).pending = s.pending := by
  have h := foldl_keeps (fun t => (t.now, t.mfp, t.svp, t.free, t.inputs, t.pending))
    (fun s' d => s'.deliver f (s.cdu.pulse == .close) d) (fun s d => by simp) (deliveryOrder order)
    (((s.withMfp fun m => m.takeGood f).withPru fun p => { p with pace := none }).withBtu fun b =>
      { b with testMoment := true }).refreshCharge
  simpa only [State.takeGoodFrame, Prod.mk.injEq, State.refreshCharge_frame, State.withBtu_now, State.withBtu_mfp,
    State.withBtu_svp, State.withBtu_free, State.withBtu_inputs, State.withBtu_pending, State.withPru_now, State.withPru_mfp,
    State.withPru_svp, State.withPru_inputs, State.withMfp_inputs,
    State.withPru_free, State.withPru_pending, State.withMfp_now, State.withMfp_mfp, State.withMfp_svp,
    State.withMfp_free, State.withMfp_pending] using h

@[simp] theorem State.frameArrives_frame (s : State) (bytes : List Byte) (order : List Delivery) :
    (s.frameArrives bytes order).now = s.now ∧ (s.frameArrives bytes order).svp = s.svp ∧
    (s.frameArrives bytes order).free = s.free ∧ (s.frameArrives bytes order).inputs = s.inputs ∧
    (s.frameArrives bytes order).pending = s.pending := by
  unfold State.frameArrives
  split <;> simp

@[simp] theorem State.sampled_frame (s : State) (bits : List LinkBit) :
    (s.sampled bits).now = s.now ∧ (s.sampled bits).mfp = { s.mfp with frame := (sampleBits s.mfp.frame bits).1 } ∧
    (s.sampled bits).ocu = s.ocu ∧ (s.sampled bits).sqc = s.sqc ∧ (s.sampled bits).cdu = s.cdu ∧
    (s.sampled bits).btu = s.btu ∧ (s.sampled bits).chc = s.chc ∧ (s.sampled bits).pru = s.pru ∧
    (s.sampled bits).tgu = s.tgu ∧ (s.sampled bits).rcs = s.rcs ∧ (s.sampled bits).svp = s.svp ∧
    (s.sampled bits).free = s.free ∧ (s.sampled bits).inputs = s.inputs ∧ (s.sampled bits).pending = s.pending := by
  simp [State.sampled]

@[simp] theorem State.bitsToShort_frame (s : State) (bits : List LinkBit) :
    (s.bitsToShort bits).now = s.now ∧ (s.bitsToShort bits).ocu = s.ocu ∧ (s.bitsToShort bits).sqc = s.sqc ∧
    (s.bitsToShort bits).cdu = s.cdu ∧ (s.bitsToShort bits).btu = s.btu ∧ (s.bitsToShort bits).chc = s.chc ∧
    (s.bitsToShort bits).pru = s.pru ∧ (s.bitsToShort bits).tgu = s.tgu ∧ (s.bitsToShort bits).rcs = s.rcs ∧
    (s.bitsToShort bits).svp = s.svp ∧ (s.bitsToShort bits).free = s.free ∧ (s.bitsToShort bits).inputs = s.inputs ∧
    (s.bitsToShort bits).pending = s.pending := by
  unfold State.bitsToShort
  split <;> simp

@[simp] theorem State.bitsToArrival_frame (s : State) (bits : List LinkBit) (order : List Delivery) :
    (s.bitsToArrival bits order).now = s.now ∧ (s.bitsToArrival bits order).svp = s.svp ∧
    (s.bitsToArrival bits order).free = s.free ∧ (s.bitsToArrival bits order).inputs = s.inputs ∧
    (s.bitsToArrival bits order).pending = s.pending := by
  unfold State.bitsToArrival
  split <;> simp

@[simp] theorem State.stall_frame (s : State) :
    s.stall.now = s.now ∧ s.stall.chc = s.chc ∧ s.stall.tgu = s.tgu ∧ s.stall.svp = s.svp ∧ s.stall.free = s.free ∧
    s.stall.inputs = s.inputs ∧ s.stall.pending = s.pending := by
  simp [State.stall]

@[simp] theorem State.loseMeasurement_frame (s : State) :
    s.loseMeasurement.now = s.now ∧ s.loseMeasurement.tgu = s.tgu ∧ s.loseMeasurement.svp = s.svp ∧
    s.loseMeasurement.free = s.free ∧ s.loseMeasurement.inputs = s.inputs ∧ s.loseMeasurement.pending = s.pending := by
  simp [State.loseMeasurement]

@[simp] theorem State.regainMeasurement_frame (s : State) :
    s.regainMeasurement.now = s.now ∧ s.regainMeasurement.ocu = s.ocu ∧ s.regainMeasurement.sqc = s.sqc ∧
    s.regainMeasurement.cdu = s.cdu ∧ s.regainMeasurement.btu = s.btu ∧ s.regainMeasurement.chc = s.chc ∧
    s.regainMeasurement.pru = s.pru ∧ s.regainMeasurement.tgu = s.tgu ∧ s.regainMeasurement.svp = s.svp ∧
    s.regainMeasurement.free = s.free ∧ s.regainMeasurement.inputs = s.inputs ∧ s.regainMeasurement.pending = s.pending := by
  simp [State.regainMeasurement]

@[simp] theorem State.pacedTake_frame (s : State) :
    s.pacedTake.now = s.now ∧ s.pacedTake.mfp = s.mfp ∧ s.pacedTake.svp = s.svp ∧ s.pacedTake.free = s.free ∧
    s.pacedTake.inputs = s.inputs ∧ s.pacedTake.pending = s.pending := by
  simp [State.pacedTake]

@[simp] theorem State.recordFault_frame (s : State) (fault : Option SettingsFault) :
    (s.recordFault fault).now = s.now ∧ (s.recordFault fault).mfp = s.mfp ∧ (s.recordFault fault).ocu = s.ocu ∧
    (s.recordFault fault).sqc = s.sqc ∧ (s.recordFault fault).cdu = s.cdu ∧ (s.recordFault fault).btu = s.btu ∧
    (s.recordFault fault).chc = s.chc ∧ (s.recordFault fault).pru = s.pru ∧ (s.recordFault fault).tgu = s.tgu ∧
    (s.recordFault fault).svp = s.svp ∧ (s.recordFault fault).free = s.free ∧ (s.recordFault fault).inputs = s.inputs ∧
    (s.recordFault fault).pending = s.pending := by
  unfold State.recordFault
  split <;> simp

@[simp] theorem State.setUpSqc_frame (s : State) :
    s.setUpSqc.now = s.now ∧ s.setUpSqc.mfp = s.mfp ∧ s.setUpSqc.ocu = s.ocu ∧ s.setUpSqc.cdu = s.cdu ∧
    s.setUpSqc.btu = s.btu ∧ s.setUpSqc.chc = s.chc ∧ s.setUpSqc.pru = s.pru ∧ s.setUpSqc.tgu = s.tgu ∧
    s.setUpSqc.rcs = s.rcs ∧ s.setUpSqc.svp = s.svp ∧ s.setUpSqc.free = s.free ∧ s.setUpSqc.inputs = s.inputs ∧
    s.setUpSqc.pending = s.pending := by
  simp [State.setUpSqc]

@[simp] theorem State.drawStarts_frame (s : State) (between : List LinkBit) (order : List Delivery) :
    (s.drawStarts between order).now = s.now ∧ (s.drawStarts between order).svp = s.svp ∧
    (s.drawStarts between order).free = s.free ∧ (s.drawStarts between order).inputs = s.inputs ∧
    (s.drawStarts between order).pending = s.pending := by
  simp [State.drawStarts]

@[simp] theorem State.recordStart_frame (s : State) (kind : RecordKind) :
    (s.recordStart kind).now = s.now ∧ (s.recordStart kind).mfp = s.mfp ∧ (s.recordStart kind).ocu = s.ocu ∧
    (s.recordStart kind).sqc = s.sqc ∧ (s.recordStart kind).cdu = s.cdu ∧ (s.recordStart kind).btu = s.btu ∧
    (s.recordStart kind).chc = s.chc ∧ (s.recordStart kind).pru = s.pru ∧ (s.recordStart kind).tgu = s.tgu ∧
    (s.recordStart kind).svp = s.svp ∧ (s.recordStart kind).free = s.free ∧ (s.recordStart kind).inputs = s.inputs ∧
    (s.recordStart kind).pending = s.pending := by
  simp [State.recordStart]

@[simp] theorem State.restartBlocks_frame (s : State) (read : MemRead) (closedMade openMade : Bool) :
    (s.restartBlocks read closedMade openMade).now = s.now ∧ (s.restartBlocks read closedMade openMade).sqc = s.sqc ∧
    (s.restartBlocks read closedMade openMade).free = s.free ∧
    (s.restartBlocks read closedMade openMade).inputs =
      { s.inputs with posc := .steady closedMade, poso := .steady openMade } ∧
    (s.restartBlocks read closedMade openMade).pending = s.pending := by
  simp [State.restartBlocks]

@[simp] theorem State.applyRestart_frame (s : State) (read : MemRead) (closedMade openMade : Bool) :
    (s.applyRestart read closedMade openMade).now = s.now ∧ (s.applyRestart read closedMade openMade).free = s.free ∧
    (s.applyRestart read closedMade openMade).inputs =
      { s.inputs with posc := .steady closedMade, poso := .steady openMade } ∧
    (s.applyRestart read closedMade openMade).pending = s.pending := by
  simp [State.applyRestart]

@[simp] theorem State.endRead_frame (s : State) (read : MemRead) (closedMade openMade : Bool) :
    (s.endRead read closedMade openMade).now = s.now ∧ (s.endRead read closedMade openMade).free = s.free ∧
    (s.endRead read closedMade openMade).pending = s.pending := by
  unfold State.endRead
  split <;> simp

@[simp] theorem State.followRead_frame (s : State) (event : ReadEvent) (closedMade openMade : Bool) :
    (s.followRead event closedMade openMade).now = s.now ∧ (s.followRead event closedMade openMade).free = s.free ∧
    (s.followRead event closedMade openMade).pending = s.pending := by
  cases event <;> simp [State.followRead]

@[simp] theorem State.enterBackoff_frame (s : State) :
    s.enterBackoff.now = s.now ∧ s.enterBackoff.mfp = s.mfp ∧ s.enterBackoff.ocu = s.ocu ∧ s.enterBackoff.sqc = s.sqc ∧
    s.enterBackoff.cdu = s.cdu ∧ s.enterBackoff.btu = s.btu ∧ s.enterBackoff.pru = s.pru ∧ s.enterBackoff.tgu = s.tgu ∧
    s.enterBackoff.rcs = s.rcs ∧ s.enterBackoff.svp = s.svp ∧ s.enterBackoff.free = s.free ∧
    s.enterBackoff.inputs = s.inputs ∧ s.enterBackoff.pending = s.pending := by
  unfold State.enterBackoff
  repeat' split
  all_goals simp

@[simp] theorem State.enterKeyUp_frame (s : State) :
    s.enterKeyUp.now = s.now ∧ s.enterKeyUp.mfp = s.mfp ∧ s.enterKeyUp.ocu = s.ocu ∧ s.enterKeyUp.sqc = s.sqc ∧
    s.enterKeyUp.cdu = s.cdu ∧ s.enterKeyUp.btu = s.btu ∧ s.enterKeyUp.pru = s.pru ∧ s.enterKeyUp.tgu = s.tgu ∧
    s.enterKeyUp.rcs = s.rcs ∧ s.enterKeyUp.svp = s.svp ∧ s.enterKeyUp.free = s.free ∧ s.enterKeyUp.inputs = s.inputs ∧
    s.enterKeyUp.pending = s.pending := by
  unfold State.enterKeyUp
  split <;> simp

@[simp] theorem State.seeReady_frame (s : State) :
    s.seeReady.now = s.now ∧ s.seeReady.mfp = s.mfp ∧ s.seeReady.ocu = s.ocu ∧ s.seeReady.sqc = s.sqc ∧
    s.seeReady.cdu = s.cdu ∧ s.seeReady.btu = s.btu ∧ s.seeReady.pru = s.pru ∧ s.seeReady.tgu = s.tgu ∧
    s.seeReady.rcs = s.rcs ∧ s.seeReady.svp = s.svp ∧ s.seeReady.free = s.free ∧ s.seeReady.inputs = s.inputs ∧
    s.seeReady.pending = s.pending := by
  simp [State.seeReady]

@[simp] theorem State.dropReady_frame (s : State) (sent : Nat) (back : Bool) :
    (s.dropReady sent back).now = s.now ∧ (s.dropReady sent back).mfp = s.mfp ∧ (s.dropReady sent back).ocu = s.ocu ∧
    (s.dropReady sent back).sqc = s.sqc ∧ (s.dropReady sent back).cdu = s.cdu ∧ (s.dropReady sent back).btu = s.btu ∧
    (s.dropReady sent back).pru = s.pru ∧ (s.dropReady sent back).tgu = s.tgu ∧ (s.dropReady sent back).rcs = s.rcs ∧
    (s.dropReady sent back).svp = s.svp ∧ (s.dropReady sent back).free = s.free ∧ (s.dropReady sent back).inputs = s.inputs ∧
    (s.dropReady sent back).pending = s.pending := by
  simp [State.dropReady]

@[simp] theorem State.readyFails_frame (s : State) :
    s.readyFails.now = s.now ∧ s.readyFails.mfp = s.mfp ∧ s.readyFails.ocu = s.ocu ∧ s.readyFails.sqc = s.sqc ∧
    s.readyFails.cdu = s.cdu ∧ s.readyFails.btu = s.btu ∧ s.readyFails.pru = s.pru ∧ s.readyFails.tgu = s.tgu ∧
    s.readyFails.svp = s.svp ∧ s.readyFails.free = s.free ∧ s.readyFails.inputs = s.inputs ∧
    s.readyFails.pending = s.pending := by
  simp [State.readyFails]

@[simp] theorem State.endAbort_frame (s : State) :
    s.endAbort.now = s.now ∧ s.endAbort.mfp = s.mfp ∧ s.endAbort.ocu = s.ocu ∧ s.endAbort.sqc = s.sqc ∧
    s.endAbort.cdu = s.cdu ∧ s.endAbort.btu = s.btu ∧ s.endAbort.pru = s.pru ∧ s.endAbort.tgu = s.tgu ∧
    s.endAbort.svp = s.svp ∧ s.endAbort.free = s.free ∧ s.endAbort.inputs = s.inputs ∧ s.endAbort.pending = s.pending := by
  simp [State.endAbort]

@[simp] theorem State.sendCopy_frame (s : State) :
    s.sendCopy.now = s.now ∧ s.sendCopy.mfp = s.mfp ∧ s.sendCopy.ocu = s.ocu ∧ s.sendCopy.sqc = s.sqc ∧
    s.sendCopy.pru = s.pru ∧ s.sendCopy.tgu = s.tgu ∧ s.sendCopy.rcs = s.rcs ∧ s.sendCopy.svp = s.svp ∧
    s.sendCopy.free = s.free ∧ s.sendCopy.inputs = s.inputs ∧ s.sendCopy.pending = s.pending := by
  simp [State.sendCopy]

@[simp] theorem State.endKeyDown_frame (s : State) :
    s.endKeyDown.now = s.now ∧ s.endKeyDown.mfp = s.mfp ∧ s.endKeyDown.ocu = s.ocu ∧ s.endKeyDown.sqc = s.sqc ∧
    s.endKeyDown.cdu = s.cdu ∧ s.endKeyDown.btu = s.btu ∧ s.endKeyDown.pru = s.pru ∧ s.endKeyDown.tgu = s.tgu ∧
    s.endKeyDown.rcs = s.rcs ∧ s.endKeyDown.svp = s.svp ∧ s.endKeyDown.free = s.free ∧ s.endKeyDown.inputs = s.inputs ∧
    s.endKeyDown.pending = s.pending := by
  simp [State.endKeyDown]

end Sys2Proof.Machine
end

