-- ==== Sys2Proof/Laws/Operations.lean ====
section
/-! SUPPORT. What the shared operations do, said once: records, timers, counts, draws and the answers of the service port. -/

namespace Sys2Proof.Machine

/-! ### Timers and counts -/

@[simp] theorem due_some (n : Nat) : due (some n) = decide (n = 0) := by cases n <;> rfl
@[simp] theorem due_none : due none = false := rfl

/-- A due timer runs and has no time left. -/
theorem due_iff (t : Timer) : due t = true ↔ t = some 0 := by cases t <;> simp

@[simp] theorem tickTimer_none : tickTimer none = none := rfl
@[simp] theorem tickTimer_some (n : Nat) : tickTimer (some n) = some (n - 1) := rfl

theorem satAdd_le (limit n by_ : Nat) : satAdd limit n by_ ≤ limit := Nat.min_le_left _ _
theorem count8_le (n : Nat) : count8 n ≤ 255 := satAdd_le _ _ _
theorem count16_le (n : Nat) : count16 n ≤ 65535 := satAdd_le _ _ _

/-! ### Records (R163, R166) -/

section

variable (s : State) (body : RecordBody)

@[simp] theorem State.record_next : (s.record body).rcs.next = s.rcs.next + 1 := by simp [State.record]
@[simp] theorem State.record_unread : (s.record body).rcs.unread = satAdd 64 s.rcs.unread 1 := by simp [State.record]
theorem State.record_ring :
    (s.record body).rcs.ring =
      (s.rcs.ring ++ [({ number := s.rcs.next, time := s.now, body := body } : EventRecord)]).drop
        (s.rcs.ring.length + 1 - 64) := by
  simp [State.record]

/-- After any record the ring holds at most 64. -/
theorem State.record_ring_length_le : (s.record body).rcs.ring.length ≤ 64 := by
  simp only [State.record_ring, List.length_drop, List.length_append, List.length_singleton]
  omega

end

/-! ### Draws (R89) -/

@[simp] theorem State.advanceLfsr_lfsr (s : State) : s.advanceLfsr.chc.lfsr = lfsrAdvance s.chc.lfsr := by
  simp [State.advanceLfsr]

/-! ### Responses (R171) -/

section

variable (s : State) (code : Byte) (answer : Answer) (payload : List Byte)

@[simp] theorem State.respond_service : (s.respond code answer payload).svp.service = .answering := by simp [State.respond]
@[simp] theorem State.respond_response :
    (s.respond code answer payload).svp.response = responseFrame code answer payload := by simp [State.respond]
@[simp] theorem State.respond_link : (s.respond code answer payload).svp.link = s.svp.link := by simp [State.respond]

end

end Sys2Proof.Machine
end

