-- ==== Sys2Proof/Laws/Wand.lean ====
section
/-! SUPPORT. Where the decoder stands with the WAND line and its bits, and that every run of the line keeps it so (R144, R145). -/

namespace Sys2Proof.Machine

/-- A place of the decoder that waits for a confirmed mark, with the bits it has passed. -/
def Decoder.inSpace (bits : List Bool) : Decoder → Prop
  | .wait => True
  | .hspace => bits = []
  | .space i => i < 32 ∧ bits.length = i
  | .silence => bits.length = 32
  | .mark _ => False
  | .trailer => False

/-- A place of the decoder that waits for a mark's end, with the bits it has passed. -/
def Decoder.inMark (bits : List Bool) : Decoder → Prop
  | .wait => True
  | .mark i => i < 32 ∧ bits.length = i
  | .trailer => bits.length = 32
  | .hspace => False
  | .space _ => False
  | .silence => False

/-- The decoder stands with its line: what State.WandSound says of a state's TGU, by the form of the line. -/
def Tgu.standsWithLine (t : Tgu) : Prop :=
  match t.line with
  | .mark _ => t.decoder.inMark t.bits
  | .space space => t.decoder.inSpace t.bits ∧ (t.decoder = .silence → space < 1000)
  | .rising space width => t.decoder.inSpace t.bits ∧ (t.decoder = .silence → space < 1000) ∧ width < 10

theorem State.wandSound_iff (s : State) : s.WandSound ↔ s.tgu.standsWithLine := by
  constructor
  · rintro ⟨h1, h2, h3, h4, h5, h6, h7⟩
    unfold Tgu.standsWithLine
    generalize s.tgu.line = line at *
    generalize s.tgu.decoder = d at *
    cases line <;> cases d <;> simp_all [Decoder.inSpace, Decoder.inMark, WandLine.inMark]
  · intro h
    unfold Tgu.standsWithLine at h
    constructor <;> generalize s.tgu.line = line at * <;> generalize s.tgu.decoder = d at * <;> cases line <;> cases d <;>
      simp_all [Decoder.inSpace, Decoder.inMark, WandLine.inMark]

theorem Tgu.spaceAt_stands (t : Tgu) (tolerance width : Nat) (h : t.decoder.inSpace t.bits) :
    (t.spaceAt tolerance width).1.standsWithLine := by
  unfold Tgu.spaceAt
  generalize hd : t.decoder = d at *
  cases d <;> simp only [judgeSpacePassing] <;> (repeat' split) <;> simp_all [Tgu.follow, Tgu.standsWithLine, Decoder.inSpace]

theorem Tgu.markAt_stands (t : Tgu) (tolerance width : Nat) (h : t.decoder.inMark t.bits) :
    (t.markAt tolerance width).1.standsWithLine := by
  unfold Tgu.markAt
  generalize hd : t.decoder = d at *
  cases d <;> simp only [judgeMarkPassing] <;> (repeat' split) <;> simp_all [Tgu.follow, Tgu.standsWithLine, Decoder.inMark]

/-- The place after the space of a bit, with that bit received (R145). -/
theorem nextMark_inMark (i : Nat) (bits : List Bool) (bit : Bool) (hi : i < 32) (hb : bits.length = i) :
    (nextMark i).inMark (bits ++ [bit]) := by
  unfold nextMark
  by_cases last : 31 ≤ i <;> simp [last, Decoder.inMark] <;> omega

/-- A confirmed mark closes a space: the decoder leaves every place that waits for one, SILENCE below 1000 units. -/
theorem Tgu.judgeSpace_inMark (t : Tgu) (tolerance space : Nat) (h : t.decoder.inSpace t.bits)
    (k : t.decoder = .silence → space < 1000) :
    (t.follow (judgeSpace t.decoder tolerance t.bits space)).decoder.inMark
      (t.follow (judgeSpace t.decoder tolerance t.bits space)).bits := by
  have next := nextMark_inMark (bits := t.bits)
  generalize hd : t.decoder = d at *
  cases d <;> simp only [judgeSpace] <;> (repeat' split) <;> simp_all [Tgu.follow, Decoder.inSpace] <;> simp_all [Decoder.inMark]

/-- A confirmed mark ends: the decoder leaves every place that waits for its end. -/
theorem Tgu.judgeMark_inSpace (t : Tgu) (tolerance width : Nat) (h : t.decoder.inMark t.bits) :
    (t.follow (judgeMark t.decoder tolerance t.bits width)).decoder.inSpace
      (t.follow (judgeMark t.decoder tolerance t.bits width)).bits := by
  generalize hd : t.decoder = d at *
  cases d <;> simp only [judgeMark] <;> (repeat' split) <;> simp_all [Tgu.follow, Decoder.inMark, Decoder.inSpace]

theorem Tgu.markFrom_stands (t : Tgu) (tolerance space width : Nat) (h : t.decoder.inSpace t.bits)
    (k : t.decoder = .silence → space < 1000) : (t.markFrom tolerance space width).1.standsWithLine := by
  unfold Tgu.markFrom
  split
  · simp_all [Tgu.standsWithLine]
  · exact Tgu.markAt_stands _ _ _ (t.judgeSpace_inMark tolerance space h k)

theorem Tgu.wandRun_stands (t : Tgu) (tolerance : Nat) (run : WandRun) (h : t.standsWithLine) :
    (t.wandRun tolerance run).1.standsWithLine := by
  obtain ⟨active, units⟩ := run
  unfold Tgu.standsWithLine at h
  unfold Tgu.wandRun
  cases line : t.line <;> cases active <;> simp only [line] at h ⊢
  · exact t.spaceAt_stands _ _ h.1
  · exact t.markFrom_stands _ _ _ h.1 h.2
  · exact t.spaceAt_stands _ _ h.1
  · exact t.markFrom_stands _ _ _ h.1 h.2.1
  · exact Tgu.spaceAt_stands _ _ _ (t.judgeMark_inSpace _ _ h)
  · exact t.markAt_stands _ _ h

/-- Every run of the WAND line keeps the decoder with its line. -/
theorem Tgu.wandRuns_stands (tolerance : Nat) (runs : List WandRun) (t : Tgu) (h : t.standsWithLine) :
    (t.wandRuns tolerance runs).1.standsWithLine := by
  induction runs generalizing t with
  | nil => exact h
  | cons run rest ih => exact ih _ (t.wandRun_stands tolerance run h)

theorem State.followWand_stands (s : State) (runs : List WandRun) (own : Verdict → Bool) (h : s.tgu.standsWithLine) :
    (s.followWand runs own).tgu.standsWithLine := by
  unfold State.followWand State.onlyIf
  split
  · exact Tgu.wandRuns_stands _ runs _ h
  · exact h

/-- A complete code, whatever it comes to, leaves the decoder in WAIT and the line as it is (R146). -/
theorem State.completeCode_waits (s : State) : s.completeCode.tgu.decoder = .wait ∧ s.completeCode.tgu.line = s.tgu.line := by
  unfold State.completeCode
  dsimp only
  split
  · exact ⟨rfl, rfl⟩
  · split <;> exact ⟨rfl, rfl⟩

/-- A decoder in WAIT stands with every line on which a mark not yet confirmed is below 10 units. -/
theorem Tgu.standsWithLine_of_wait (t u : Tgu) (h : t.standsWithLine) (line : u.line = t.line) (wait : u.decoder = .wait) :
    u.standsWithLine := by
  unfold Tgu.standsWithLine at *
  rw [line]
  cases hl : t.line <;> simp_all [Decoder.inSpace, Decoder.inMark]

theorem State.followCode_stands (s : State) (runs : List WandRun) (h : s.tgu.standsWithLine) :
    (s.followCode runs).tgu.standsWithLine := by
  have kept := s.followWand_stands runs (· == .complete) h
  have ends := (s.followWand runs (· == .complete)).completeCode_waits
  unfold State.followCode State.onlyIf
  split
  · exact Tgu.standsWithLine_of_wait _ _ kept ends.2 ends.1
  · exact kept

end Sys2Proof.Machine
end

