-- ==== Sys2Proof/WellFormed.lean ====
section
/-! DEFINITION. The commands whose operands are data that the event can bring: lengths, ranges and orders (log 35). A command that is
not well-formed still has an effect; what it is stands in log 35. -/

namespace Sys2Proof

/-- A read of the setting memory brings an image of its length, or was not completed (R160, R175). -/
def MemRead.wf (length : Nat) : MemRead → Bool
  | .incomplete => true
  | .complete bytes => bytes.length == length

/-- A settings read brings its whole image, was not completed, or has been answered (R175). -/
def ReadEvent.wf (length : Nat) : ReadEvent → Bool
  | .ready => true
  | .ended read => read.wf length

/-- A delivery order names each of the six deliveries once, and the BTU's test at the arrival once or not at all (R4, R78). -/
def orderWf (order : List Delivery) : Bool :=
  decide order.Nodup && [Delivery.ocu, .cdu, .btu, .sqc, .lfsr, .take].all order.contains

/-- The bits from the first frame start on (R1). -/
def fromFirstStart (bits : List LinkBit) : List LinkBit := bits.dropWhile fun b => !b.start

/-- The bits that a frame's arrival ends: one whole frame after bits of no frame, or the rest of a frame in progress (R1). -/
def arrivalWf (bits : List LinkBit) : Bool :=
  if bits.any (·.start) then (fromFirstStart bits).length == 192 && (bits.filter (·.start)).length == 1
  else decide (1 ≤ bits.length) && decide (bits.length ≤ 191)

/-- The bits that a short frame ends: the last marks a frame start, and those before it bring no whole frame and no second
start (R1). -/
def shortWf (bits : List LinkBit) : Bool :=
  let before := bits.dropLast
  (bits.getLast?.map (·.start)) == some true && decide ((before.filter (·.start)).length ≤ 1) &&
    decide ((if before.any (·.start) then fromFirstStart before else before).length ≤ 191)

/-- Whether a command's operands are data its event can bring. -/
def Instr.wf : Instr → Bool
  | .coldStart settings store _ between order =>
    settings.wf Machine.imageLength && store.wf 15 && (between.isEmpty || (arrivalWf between && orderWf order))
  | .shortFrame bits => shortWf bits
  | .measurementFrame bits order => arrivalWf bits && orderWf order
  | .readyDrop sent _ => decide (sent ≤ 102)
  | .peerSilent id => decide (1 ≤ id) && decide (id ≤ 250)
  | .peerRemoval id => decide (1 ≤ id) && decide (id ≤ 250)
  | .wandMark runs => !runs.isEmpty
  | .wandAbort runs => !runs.isEmpty
  | .crewCodeComplete runs => !runs.isEmpty
  | .settingsRestartApply event _ _ => event.wf Machine.imageLength
  | .badRequest code payload => decide (payload.length ≤ 60) && (Machine.parseRequest code payload).isNone
  | _ => true

end Sys2Proof
end

