-- ==== Sys2Proof/Tests/Slice0.lean ====
section
/-! SUPPORT. Small tests: the checks of WellFormed refuse, the manual's own tables and worked cases, one step of a command on a small
state, and a witness for the hypotheses of each statement. The expected values are the manual's or computed by hand from it. -/

namespace Sys2Proof.Machine.Tests

set_option Elab.async false

/-! ### Small states -/

/-- Settings of a station 4 on feeder 7 at position 4, three trips to lockout, step and send-pickup on, two crew codes. -/
def cfg1 : Settings :=
  { defaultSettings with
    stationId := 4
    position := 4
    feeder := 7
    tripsToLockout := 3
    options := 3
    holdTime := 1200
    filter := List.replicate 8 { idValue := 0, idMask := 0, kindSet := 7 }
    crewCodes := [0x1207, 0x1208, 0, 0, 0, 0, 0, 0] }

/-- A started station in READY with nothing going on. -/
def base : State :=
  { State.reset with
    svp := { State.reset.svp with service := .listen, settings := cfg1 }
    cdu := { State.reset.cdu with closedMade := true, lastClosed := true, indeterminate := none }
    inputs := { State.reset.inputs with posc := .steady true }
    sqc := { State.reset.sqc with seq := .ready, reason := none } }

/-- The station in a sequence state, with s and a current trip. -/
def inSeq (seq : SeqState) (shots : Nat) (trip : Option CurrentTrip) (reason : Option LockReason) : State :=
  base.withSqc fun q => { q with seq := seq, shots := shots, trip := trip, reason := reason }

/-- A trip of phase A by time, number 1, final or not. -/
def timeTrip (reason : Option LockReason) : CurrentTrip :=
  { cause := .time, elements := { a := true, b := false, c := false, g := false }, peak := 2000, number := 1,
    finalReason := reason }

/-- LOCKOUT with the breaker Open. -/
def locked : State :=
  (inSeq .lockout 1 none (some .shots)).withCdu fun c => { c with closedMade := false, openMade := true, lastClosed := false }

/-- A tag of a peer. -/
def peerTag : TagEntry := { source := .peer 9, code := 0x5101, applied := 0, slot := none }

/-- The station under a tag. -/
def tagged (s : State) : State := s.withTgu fun t => { t with tags := [peerTag] }

/-- The state with an input that has held a level for its span. -/
def held (pin : InputPin) (level : Bool) (s : State) : State := s.withInputs fun i => i.put pin { level := level, count := some 0 }

theorem held_holds (pin : InputPin) (level : Bool) (s : State) : (held pin level s).Held pin level := by
  simp [held, State.Held]

/-- The state that a command leads to. -/
def after (c : Instr) (s : State) : State :=
  match exec c s with
  | .next t => t
  | _ => s

/-- A measurement frame with its sum (R2). -/
def frameOf (ia ib ic ig battV battI temperature tripV closeV : Nat) : List Byte :=
  let head := [0xA7#8, 0x4C#8, 20#8] ++ beBytes 2 ia ++ beBytes 2 ib ++ beBytes 2 ic ++ beBytes 2 ig ++ [1#8, 0#8] ++
    beBytes 2 battV ++ beBytes 2 battI ++ beBytes 2 temperature ++ beBytes 2 tripV ++ beBytes 2 closeV
  head ++ [BitVec.ofNat 8 (256 - byteSum head % 256)]

/-- A frame with phase A's current and nothing else of note. -/
def phaseA (ia : Nat) : List Byte := frameOf ia 0 0 0 2600 0 50 255 375

/-- The usual order of deliveries. -/
def usual : List Delivery := [.ocu, .cdu, .btu, .sqc, .lfsr, .take]

/-- The bits of some bytes as the measurement link brings them, the first with the frame start (R1). -/
def linkBits (bytes : List Byte) : List LinkBit :=
  match bitsOf bytes with
  | [] => []
  | b :: rest => { start := true, bit := b } :: rest.map fun b => { start := false, bit := b }

/-- The state after a frame in the usual order. -/
def framed (bytes : List Byte) (s : State) : State := after (.measurementFrame (linkBits bytes) usual) s

/-- 24 bytes on the link bring a frame where none is in progress. -/
theorem linkBits_brings (bytes : List Byte) (h : bytes.length = 24) : Brings none (linkBits bytes) bytes := by
  have len := bitsOf_length bytes
  cases hb : bitsOf bytes with
  | nil => rw [hb, h] at len; cases len
  | cons b rest =>
    refine ⟨h, .inr ⟨rfl, [], rest.map fun b => { start := false, bit := b }, { start := true, bit := b }, ?_, ?_, rfl, ?_, ?_⟩⟩
    · simp [linkBits, hb]
    · intro b h; cases h
    · intro x hx
      obtain ⟨y, -, rfl⟩ := List.mem_map.mp hx
      rfl
    · simp [hb, Function.comp_def]

/-- Inputs of a cold start: breaker Closed, AC present. -/
def inputs1 : InputLevels :=
  { closedMade := true, openMade := false, acPresent := true, handleDown := false, tripKey := false, closeKey := false,
    tagOnKey := false, tagOffKey := false, batteryKey := false, carrier := false, radioReady := false }

/-! ### WellFormed refuses -/

theorem test_wf_image_length :
    Instr.wf (.coldStart (.complete [2]) .incomplete inputs1 [] []) = false ∧
      Instr.wf (.coldStart .incomplete (.complete [0]) inputs1 [] []) = false ∧
      Instr.wf (.settingsRestartApply (.ended (.complete [])) true false) = false ∧
      Instr.wf (.coldStart .incomplete .incomplete inputs1 [] []) = true := by decide +kernel

theorem test_wf_frame_between_the_draws :
    Instr.wf (.coldStart .incomplete .incomplete inputs1 (linkBits [0xA7]) usual) = false ∧
      Instr.wf (.coldStart .incomplete .incomplete inputs1 (linkBits (phaseA 0)) [.ocu]) = false ∧
      Instr.wf (.coldStart .incomplete .incomplete inputs1 (linkBits (phaseA 0)) usual) = true := by decide +kernel

/-- A whole frame, and the rest of one in progress, with the orders of R4 and R78. -/
theorem test_wf_frame_bits_and_order :
    Instr.wf (.measurementFrame (linkBits [0xA7]) usual) = false ∧
      Instr.wf (.measurementFrame (linkBits (phaseA 0) ++ linkBits [0xA7]) usual) = false ∧
      Instr.wf (.measurementFrame [] usual) = false ∧
      Instr.wf (.measurementFrame (linkBits (phaseA 0)) [.ocu, .ocu, .btu, .sqc, .lfsr, .take]) = false ∧
      Instr.wf (.measurementFrame (linkBits (phaseA 0)) [.ocu]) = false ∧
      Instr.wf (.measurementFrame (linkBits (phaseA 0)) usual) = true ∧
      Instr.wf (.measurementFrame ((linkBits (phaseA 0)).drop 1) (.test :: usual)) = true := by decide +kernel

/-- A short frame ends in a start, after 191 bits at most of the frame before it (R1). -/
theorem test_wf_short_frame :
    Instr.wf (.shortFrame [⟨false, true⟩]) = false ∧
      Instr.wf (.shortFrame [⟨true, true⟩, ⟨true, true⟩, ⟨true, true⟩]) = false ∧
      Instr.wf (.shortFrame (linkBits (phaseA 0) ++ [⟨true, true⟩])) = false ∧
      Instr.wf (.shortFrame ((linkBits (phaseA 0)).dropLast ++ [⟨true, true⟩])) = true := by decide +kernel

theorem test_wf_ready_drop :
    Instr.wf (.readyDrop 103 false) = false ∧ Instr.wf (.readyDrop 102 true) = true := by decide

theorem test_wf_peer_id :
    Instr.wf (.peerSilent 0) = false ∧ Instr.wf (.peerRemoval 251) = false ∧ Instr.wf (.peerSilent 250) = true := by decide

theorem test_wf_wand_runs :
    Instr.wf (.wandMark []) = false ∧ Instr.wf (.wandAbort []) = false ∧ Instr.wf (.crewCodeComplete []) = false ∧
      Instr.wf (.wandMark [⟨false, 0⟩]) = true := by decide

theorem test_wf_bad_request :
    Instr.wf (.badRequest 0x10 []) = false ∧ Instr.wf (.badRequest 0x7F (List.replicate 61 0)) = false ∧
      Instr.wf (.badRequest 0x10 [0]) = true := by decide +kernel

/-- The table gives no row any bits. -/
theorem test_no_word_spells_a_command : decodeTableWord 16 0 = none ∧ decodeTableWord 8 255 = none := by decide

/-! ### The manual's tables -/

/-- R87: the nine bytes 0x31 to 0x39. -/
theorem test_crc_of_the_digits :
    crc16 [0x31, 0x32, 0x33, 0x34, 0x35, 0x36, 0x37, 0x38, 0x39] = 0x29B1 := by decide +kernel

/-- R89: the seed of station 4 on feeder 7 and its three draws. -/
theorem test_lfsr_draws :
    lfsrSeed 4 7 = 0xA8E6 ∧ lfsrAdvance 0xA8E6 = 0x5473 ∧ lfsrAdvance 0x5473 = 0x9E39 ∧ lfsrAdvance 0x9E39 = 0xFB1C := by
  decide +kernel

/-- R88: the body of the example, its check left out. -/
theorem test_escape :
    escapeBody [0xA5, 0x04, 0x04, 0x41, 0xB4, 0x02, 0x08, 0x1C] =
      [0xA5, 0x85, 0x04, 0x04, 0x41, 0xA5, 0x94, 0x02, 0x08, 0x1C] := by decide +kernel

/-- R1: bits most significant first, held over two commands; a second start makes a short frame. -/
theorem test_frame_bits :
    bitsOf [0xA7] = [true, false, true, false, false, true, true, true] ∧
      (after (.measurementFrame ((linkBits (phaseA 400)).take 100) usual) base).mfp.lastGood = none ∧
      (after (.measurementFrame ((linkBits (phaseA 400)).drop 100) usual)
        (after (.measurementFrame ((linkBits (phaseA 400)).take 100) usual) base)).mfp.lastGood =
          some (measFields (phaseA 400)) ∧
      (after (.shortFrame [⟨true, true⟩, ⟨false, true⟩, ⟨true, false⟩]) base).mfp.badFrames = 1 ∧
      (after (.shortFrame [⟨true, true⟩, ⟨false, true⟩, ⟨true, false⟩]) base).mfp.frame = some [false] := by decide +kernel

/-- R10's table. -/
theorem test_multiples :
    ([379, 380, 399, 400, 2000, 65535].map fun i => (framed (phaseA i) base).ocu.elems.a.m) =
      [242, 243, 255, 256, 1280, 10240] := by decide +kernel

/-- R13, R14 and the worked cases of 1.4. -/
theorem test_rates :
    curveRate defaultCurve 1280 = 4150 ∧ increment 4150 50 = 8300 ∧ curveRate defaultCurve 300 = 111 ∧
      curveRate defaultCurve 268 = 74 ∧ curveRate defaultCurve 262 = 67 ∧ curveRate defaultCurve 10240 = 24000 := by
  decide +kernel

/-- R68's table, T_half from −60 to 160. -/
theorem test_float_setpoint :
    ([-60, -50, 0, 20, 49, 50, 51, 80, 150, 160].map floatSetpoint) =
      [2880, 2880, 2790, 2754, 2701, 2700, 2699, 2646, 2520, 2520] := by decide +kernel

/-- R81's examples. -/
theorem test_resistance :
    testResistance 2540 2410 1000 = some 130 ∧ testResistance 2631 2498 1050 = some 126 ∧
      testResistance 2520 2270 1200 = some 208 ∧ testResistance 2500 2275 2500 = some 90 ∧
      testResistance 2560 2560 0 = none ∧ testVerdict 150 2275 (some 90) = .fail ∧ testVerdict 150 2498 (some 126) = .pass := by
  decide +kernel

/-- R4: the count of the frame after frame 17 is 20, so 2 are missed; after frame 19, none. -/
theorem test_frames_missed :
    (framed (phaseA 0) (base.withMfp fun m => { m with lastGood := some { measFields (phaseA 0) with count := 17 } })).mfp.framesMissed =
        2 ∧
      (framed (phaseA 0) (base.withMfp fun m => { m with lastGood := some { measFields (phaseA 0) with count := 19 } })).mfp.framesMissed =
        0 := by decide +kernel

/-- 10.2's example: the answers Done and Refused-Handle to an operator close, sums 0x37 and 0x33. -/
theorem test_operator_close_answer :
    responseBytes 0x11 0 [] = [0xB5, 0x00, 0x03, 0x11, 0x00, 0x37] ∧
      responseBytes 0x11 4 [] = [0xB5, 0x00, 0x03, 0x11, 0x04, 0x33] ∧
      Request.operatorClose.frame = [0x5A, 0x02, 0x11, 0x93] := by decide +kernel

/-- R178: the defaults pass the judgement, and their image has 356 bytes. -/
theorem test_defaults_pass : rangesOk defaultSettings = true ∧ defaultSettings.curves.all curveOk = true ∧
    (encodeImage defaultSettings).length = 356 := by decide +kernel

/-! ### Steps -/

/-- R15, 1.4: B picked at 500,000 with M 252 holds, and at M 242 falls to 0 under INSTANT. -/
theorem test_band_and_reset :
    let s := base.withOcu fun o => { o with elems := { o.elems with a := { o.elems.a with picked := true, acc := 500000 } } }
    (framed (phaseA 395) s).ocu.elems.a.acc = 500000 ∧ (framed (phaseA 379) s).ocu.elems.a.acc = 0 ∧
      (framed (phaseA 379) s).ocu.elems.a.picked = false := by decide +kernel

/-- 1.4: frame 127 at five times pickup arrives at F and trips: number 1, cause TIME, peak 2000. -/
theorem test_time_trip :
    let s :=
      (base.withOcu fun o =>
        { o with elems := { o.elems with a := { m := 1280, picked := true, acc := 1045800, count := 0, run := 126, peak := 2000 } } }).withSvp
        fun v => { v with settings := { cfg1 with plan := List.replicate 4 ⟨0, 50, 0, 50, 0⟩ } }
    (framed (phaseA 2000) s).sqc.seq = .tripping ∧ (framed (phaseA 2000) s).sqc.shots = 1 ∧
      (framed (phaseA 2000) s).sqc.trip = some (timeTrip none) ∧ (framed (phaseA 2000) s).ocu.elems.a.run = 127 := by
  decide +kernel

/-- R33's rows in their order, DISCONNECT last. -/
theorem test_close_gate :
    let s := (inSeq .recloseWait 1 none none).withSqc fun q => { q with reclose := some 0 }
    ([s.withTgu fun t => { t with handleDown := true }, tagged s, s.withMfp fun m => { m with lost := true },
        s.withBtu fun b => { b with reserve := .critical }, s.withSqc fun q => { q with startHold := some 9 },
        s.withCdu fun c => { c with closeReady := true }, s, s.withBtu fun b => { b with reserve := .disconnect }].map
      fun x => ((after .recloseTimerExpiry x).sqc.seq, (after .recloseTimerExpiry x).sqc.reason)) =
      [(.lockout, some .handle), (.lockout, some .tagged), (.lockout, some .measurement), (.lockout, some .battery),
        (.lockout, some .startHold), (.closing, none), (.closeCharge, none), (.lockout, some .battery)] := by decide +kernel

/-- R72's rows with AC absent: from NORMAL at 2440, 2439 and 2299; from CRITICAL at 2329, 2330 and 2470. -/
theorem test_reserve_rows :
    ([2440, 2439, 2299].map fun v => (framed (frameOf 0 0 0 0 v 0 50 0 0) base).btu.reserve) = [.normal, .reserve, .critical] ∧
      ([2329, 2330, 2470].map fun v =>
        (framed (frameOf 0 0 0 0 v 0 50 0 0) (base.withBtu fun b => { b with reserve := .critical })).btu.reserve) =
        [.critical, .reserve, .normal] := by decide +kernel

/-- R54, R55: a trip order with the capacitor ready begins a trip pulse of 30 ms. -/
theorem test_operator_trip_pulse :
    let s := base.withCdu fun c => { c with tripReady := true, tripV := 255 }
    (after .operatorTrip s).cdu.pulse = .trip ∧ (after .operatorTrip s).cdu.pulseTimer = some 30 ∧
      (after .operatorTrip s).cdu.tripWindow = some 100 ∧ (after .operatorTrip s).pins.trpd = true := by decide +kernel

/-- 10.2's example: a close taken with the capacitor at 300 waits in CLOSING with the charge timer at 20 s. -/
theorem test_operator_close_waits :
    (after .operatorClose locked).sqc.seq = .closing ∧ (after .operatorClose locked).sqc.charge = some 20000 ∧
      (after .operatorClose locked).sqc.closeKind = .operator := by decide +kernel

/-- R40: the first failing line gives the answer. -/
theorem test_operator_close_refusals :
    ([base, locked.withTgu fun t => { t with handleDown := true }, tagged locked,
        locked.withBtu fun b => { b with reserve := .critical }].map fun x => (after .operatorClose x).svp.response.getD 4 0) =
      [2, 4, 3, 5] := by decide +kernel

/-- R34, R41: 20 s without close energy. -/
theorem test_charge_timer :
    (after .chargeTimerExpiry ((inSeq .closeCharge 1 none none).withSqc fun q => { q with charge := some 0 })).sqc.reason =
      some .closeEnergy := by decide +kernel

/-- R44: the handle goes down in READY. -/
theorem test_handle_down :
    (after (.handleDown true) (held .hndl true base)).sqc.reason = some .handle ∧
      (after (.handleDown true) (held .hndl true base)).tgu.handleDown = true := by
  decide +kernel

/-- R149, R151: a key pressed for 19 ms makes no press; a return gives the count up; 50 ms of HNDL make the handle go down. -/
theorem test_debounce :
    (after (.tripKey true .edge) base).inputs.tripKey = ⟨true, some 20⟩ ∧
      (after (.tripKey true) (after (.tripKey true .edge) base)).tgu.keys.trip = false ∧
      (after (.tripKey false .edge) (after (.tripKey true .edge) base)).inputs.tripKey = ⟨false, none⟩ ∧
      (after (.handleDown true .edge) base).inputs.hndl = ⟨true, some 50⟩ ∧
      (held .tripKey true base).dueCommands = [.tripKey true] ∧ (held .hndl true base).dueCommands = [.handleDown false] := by
  decide +kernel

/-- 11: the travel of a contact, R62: POSO and POSC together make one command of both, and opening comes before making. -/
theorem test_contacts_due :
    (held .poso true base).dueCommands = [.contactChange .openContact true false] ∧
      (held .posc false (held .poso true base)).dueCommands =
        [.contactChange .closedContact false false, .contactChange .openContact true false] ∧
      (held .posc true (held .poso true (base.withCdu fun c => { c with closedMade := false }))).dueCommands =
        [.contactChange .bothContacts true false] := by
  decide +kernel

/-- R75, R93: shutdown pending and its disconnect timer. -/
theorem test_shutdown :
    let s := base.withBtu fun b => { b with lowVoltage := some 0 }
    (after .lowVoltageTimerExpiry s).btu.disconnect = some 5000 ∧ (after .lowVoltageTimerExpiry s).chc.front.length = 1 := by
  decide +kernel

/-- 5.7: 60 ms of quiet channel draw 3 modulo 4 from the seed of station 4. -/
theorem test_backoff_draw :
    let e : TxEntry := { kind := .trip, seq := 42, payload := [], copies := 3, attempts := 0, inService := false }
    let s := base.withChc fun c => { c with front := [e], tx := .defer, quiet := 60, lfsr := 0xA8E6 }
    (after .quietCountEnd s).chc.backoff = some { count := 3, window := 4 } ∧ (after .quietCountEnd s).chc.tx = .backoff := by
  decide +kernel

/-- 5.7: the third READY timer expiry loses the entry. -/
theorem test_third_failure :
    let e : TxEntry := { kind := .trip, seq := 42, payload := [], copies := 3, attempts := 2, inService := true }
    let s := base.withChc fun c => { c with front := [e], tx := .keyUp, readyTimer := some 0 }
    (after .readyTimerExpiry s).chc.front = [] ∧ (after .readyTimerExpiry s).chc.reportsLost = 1 := by decide +kernel

/-- R105, R106: a raw 0xB4 in BODY aborts to SYNC1. -/
theorem test_raw_sync_aborts :
    let s := base.withChc fun c => { c with rx := .body, body := [7] }
    (after (.radioByte (.byte 0xB4)) s).chc.rx = .sync1 ∧ (after (.radioByte (.byte 0xB4)) s).chc.receiveAborts = 1 := by
  decide +kernel

/-- 8.1's example to its glitch at 713: a header of 406 and a space of 206, a mark of 52, and a glitch of 4 after 49. -/
def glitched : State :=
  after (.wandMark [⟨true, 406⟩, ⟨false, 206⟩, ⟨true, 52⟩, ⟨false, 49⟩, ⟨true, 4⟩]) base

/-- 8.1's example: the glitch is discarded, the mark at 818 closes a space of 154, which is bit 0, and with no mark until 838 the
space passes 170, and the decode is aborted. -/
theorem test_wand_example :
    glitched.tgu.decoder = .space 0 ∧ glitched.tgu.line = .rising 49 4 ∧
      (after (.wandMark [⟨false, 101⟩, ⟨true, 10⟩]) glitched).tgu.decoder = .mark 1 ∧
      (after (.wandMark [⟨false, 101⟩, ⟨true, 10⟩]) glitched).tgu.bits = [true] ∧
      (after (.wandAbort [⟨false, 121⟩]) glitched).tgu.wandRejects = 1 := by decide +kernel

/-- R144: a space that has passed its range under a mark not yet confirmed is judged at the glitch's end. -/
theorem test_glitch_over_the_limit :
    let s := base.withTgu fun t => { t with decoder := .space 0, line := .space 165 }
    after (.wandAbort [⟨true, 9⟩]) s = s.withTgu (fun t => { t with line := .rising 165 9 }) ∧
      (after (.wandAbort [⟨true, 9⟩, ⟨false, 0⟩]) s).tgu.decoder = .wait := by decide +kernel

/-- R153, R154: a known code is applied at the port and removed again. -/
theorem test_tag_apply_and_remove :
    ((after (.tagApply 0x1208) base).tgu.tags.map fun e => (e.code, e.slot)) = [(0x1208, some 1)] ∧
      (after (.tagRemove 0x1208) ((after (.tagApply 0x1208) base).withSvp fun v => { v with service := .listen })).tgu.tags = [] := by
  decide +kernel

/-- R179: a cold start with no image, the breaker Closed: READY, the manual-close window open, start hold 180 s, a STORE tag. -/
theorem test_cold_start :
    let t := after (.coldStart .incomplete .incomplete inputs1 [] []) State.reset
    t.sqc.seq = .ready ∧ t.sqc.manualWindow = some 30000 ∧ t.sqc.startHold = some 180000 ∧ t.rcs.next = 3 ∧
      (t.tgu.tags.map (·.source)) = [.store] := by decide +kernel

/-- R113, R119 and 5.7's draws: station 4 of feeder 7 takes 0x5473 and 0x9E39 at its start, so that its first report bears 0x73;
its beacon comes 0x9E39 × 60,000 / 65,536 = 37,083 ms after the start (B at its default). A frame between the two draws moves
the second to 0xFB1C. -/
theorem test_start_draws :
    let image := MemRead.complete (encodeImage cfg1)
    let t := after (.coldStart image .incomplete inputs1 [] []) State.reset
    let u := after (.coldStart image .incomplete inputs1 (linkBits (phaseA 0)) usual) State.reset
    t.pru.nextSeq = 0x73 ∧ t.pru.beacon.map (·.span) = some 37083 ∧ t.chc.lfsr = 0x9E39 ∧ t.pru.pace = some 4 ∧
      u.pru.nextSeq = 0x73 ∧ u.chc.lfsr = 0xFB1C ∧ u.pru.pace = none := by decide +kernel

/-- R175: the cold start's two reads stand on NVDO, 0x03 and the image's first byte each. -/
theorem test_start_reads :
    (after (.coldStart .incomplete .incomplete inputs1 [] []) State.reset).pins.nvdo = [0x03, 0x00, 0x00, 0x03, 0x04, 0x00] := by
  decide +kernel

/-- R175: the 20 ms wait is for 0x5C, and an image that follows it is not cut off. -/
theorem test_read_wait_ends_at_5C :
    let s := locked.withSvp fun v => { v with service := .restarting, link := .read, linkTimer := some 1 }
    let t := after (.settingsRestartApply .ready false true) s
    t.svp.link = .image ∧ t.svp.linkTimer = none ∧ after (.settingsRestartApply (.ended .incomplete) false true) t = t ∧
      (after (.settingsRestartApply (.ended (.complete (encodeImage cfg1))) false true) t).svp.fromImage = true := by
  decide +kernel

/-- R160: the 20 ms run from the last byte: an acknowledgement before it says nothing, one in them clears the fault, and their end
sets it. -/
theorem test_write_wait :
    let s (left : Nat) := base.withSvp fun v => { v with link := .write, linkTimer := some left }
    after (.tagStoreWriteEnd true) (s 21) = s 21 ∧ (after (.tagStoreWriteEnd true) (s 20)).svp.link = .free ∧
      after (.tagStoreWriteEnd false) (s 1) = s 1 ∧ (after (.tagStoreWriteEnd false) (s 0)).tgu.storeFault = true := by
  decide +kernel

/-- R156: a code that a peer's list repeats is entered once, at a full table too, where the last one refused stands in the overflow
record. -/
theorem test_repeated_code :
    let full := base.withTgu fun t => { t with tags := (List.range 8).map fun k => { peerTag with code := BitVec.ofNat 16 k } }
    let t := full.peerTagList 250 [0x5101, 0x5102, 0x5101]
    t.tgu.tags = full.tgu.tags ∧ t.tgu.overflow = some { peer := 250, code := 0x5102 } ∧ t.rcs.next = 2 := by decide +kernel

/-! ### Witnesses: a state and operands that meet the hypotheses of each statement, clause by clause -/

/-- A frame of 24 bytes whose sum is not 0. -/
def badBytes : List Byte := (phaseA 0).set 23 0

theorem good_frame (bytes : List Byte) (h : goodFrame bytes = true) : FrameIsGood bytes := (goodFrame_iff bytes).mp h

theorem bad_frame (bytes : List Byte) (h : goodFrame bytes = false) : ¬ FrameIsGood bytes :=
  fun g => by rw [(goodFrame_iff bytes).mpr g] at h; cases h

/-- A good frame comes whole, and is brought. -/
theorem good_frame_brought (bytes : List Byte) (h : goodFrame bytes = true) :
    Brings none (linkBits bytes) bytes ∧ FrameIsGood bytes :=
  ⟨linkBits_brings bytes (good_frame bytes h).1, good_frame bytes h⟩

theorem witness_EmptyQueueAndColdStartGate :
    (base.pending = [] ∧ base.started = true ∧ base.dueCommands = []) ∧
      (State.reset.pending = [] ∧ State.reset.started = false) ∧
      ((base.withMfp fun m => { m with stallTimer := some 0 }).dueCommands ≠ []) ∧
      (∀ pin ∈ [InputPin.posc, .poso, .acp, .tripKey, .closeKey, .tagOnKey, .tagOffKey, .batteryKey, .hndl],
        let s := held pin (!base.debounced pin) base
        s.Held pin (!base.debounced pin) ∧ s.debounced pin ≠ (!base.debounced pin)) := by
  unfold State.Held; decide +kernel

/-- A station with a report queued, one sent before, a record held, and a peer heard. -/
def busy : State :=
  ((base.withChc fun c =>
      { c with
        front := [{ kind := .trip, seq := 1, payload := [], copies := 3, attempts := 2, inService := true }]
        tx := .keyUp
        readyTimer := some 0 }).record { kind := .measurementLost }).withPru fun p =>
    { p with
      peers := (List.replicate 16 none).set 3
        (some { id := 250, position := 63, lastSeq := none, lastHeard := 0, silent := false, summary := none, fault := none }) }

theorem witness_StepKeepsTheQueueAndTheRingSound :
    busy.QueueSound ∧ busy.RingSound ∧ ∃ t, step { busy with pending := [.readyTimerExpiry] } = .next t :=
  ⟨⟨by decide +kernel, by decide +kernel, by decide +kernel, by decide +kernel, by decide +kernel, by decide +kernel⟩,
    ⟨by decide +kernel, by decide +kernel, by decide +kernel⟩, _, rfl⟩

theorem base_inputsSound (pin : InputPin) (level : Bool) (h : level ≠ base.debounced pin) :
    (held pin level base).InputsSound := by
  refine ⟨fun other => ?_, fun other n k => ?_⟩
  · revert h; cases pin <;> cases other <;> cases level <;> decide +kernel
  · revert h k
    cases pin <;> cases other <;> cases level <;> intro h k <;>
      first
        | exact absurd rfl h
        | cases k; exact Nat.zero_le _
        | cases k

theorem witness_StepKeepsTheRangesAndTheSettingsSound :
    (busy.withMfp fun m => { m with badFrames := 65535, frame := some (List.replicate 191 true) }).RangesSound ∧ busy.SettingsSound ∧
      (held .posc false base).InputsSound ∧ (∃ t, step { held .posc false base with pending := [.contactChange .closedContact false true] } = .next t) ∧
      ∃ t, step { busy with pending := [.shortFrame [⟨true, true⟩]] } = .next t :=
  ⟨⟨by decide +kernel, fun held h => by rw [← Option.some.inj h, List.length_replicate]; exact ⟨by decide, by decide⟩, by decide +kernel, by decide +kernel, by decide +kernel,
      by decide +kernel, by decide +kernel, by decide +kernel, by decide +kernel⟩,
    ⟨by decide +kernel, by decide +kernel, by decide +kernel, by decide +kernel⟩, base_inputsSound _ _ (by decide +kernel),
    ⟨_, rfl⟩, _, rfl⟩

theorem witness_StepKeepsTheSequenceSound :
    (inSeq .recloseWait 2 (some (timeTrip none)) none).SequenceSound ∧ (inSeq .lockout 3 none (some .shots)).SequenceSound ∧
      ∃ t, step { base with pending := [.operatorTrip] } = .next t :=
  ⟨⟨by decide +kernel, by decide +kernel, by decide +kernel, by decide +kernel, (fun h => by cases h), by decide +kernel,
      by decide +kernel, by decide +kernel, by decide +kernel⟩,
    ⟨by decide +kernel, by decide +kernel, by decide +kernel, by decide +kernel, (fun h => by cases h), by decide +kernel,
      by decide +kernel, by decide +kernel, by decide +kernel⟩, _, rfl⟩

theorem witness_StepKeepsTheChargeSound :
    ((base.withMfp fun m => { m with stalled := false }).withCdu fun c =>
        { c with tcen := true, ccen := true, closeV := 359, closeCharge := some 1 }).ChargeSound ∧
      ∃ t, step { base with pending := [.stalled] } = .next t :=
  ⟨⟨by decide +kernel, by decide +kernel, by decide +kernel, by decide +kernel, by decide +kernel⟩, _, rfl⟩

theorem witness_StepKeepsTheTagsAndThePeersSound :
    (tagged base).TagsSound ∧ busy.PeersSound ∧ ∃ t, step { tagged base with pending := [.tagRemove 0x1207] } = .next t :=
  ⟨⟨by decide +kernel, by decide +kernel, by decide +kernel, by decide +kernel, by decide +kernel, (fun p h => by cases h),
      by decide +kernel⟩,
    ⟨by decide +kernel, by decide +kernel, by decide +kernel, by decide +kernel⟩, _, rfl⟩

theorem witness_ClosePulseAndOperationsLaws :
    (let s := ((inSeq .recloseWait 1 none none).withSqc fun q => { q with reclose := some 0 }).withCdu fun c =>
        { c with closeReady := true, closeV := 375 };
      exec .recloseTimerExpiry s = .next (after .recloseTimerExpiry s) ∧ s.cdu.pulse ≠ .close ∧
        (after .recloseTimerExpiry s).cdu.pulse = .close ∧ (after .recloseTimerExpiry s).sqc.closeKind = .automatic) ∧
      (let s := held .poso true (base.withCdu fun c => { c with closedMade := false, operations := 0xFFFFFFFF });
        exec (.contactChange .openContact true true) s = .next (after (.contactChange .openContact true true) s) ∧
          s.cdu.lastClosed = true ∧ (after (.contactChange .openContact true true) s).cdu.lastClosed = false) :=
  ⟨⟨rfl, by decide +kernel⟩, ⟨rfl, by decide +kernel⟩⟩

theorem witness_RadioFrameRoundTrip :
    base.started = true ∧ base.chc.rx = .hunt ∧ base.deaf = false ∧ base.chc.queue.length < 6 ∧
      ({ cfg1 with stationId := 250 } : Settings).feeder = base.cfg.feeder ∧ (250 : Nat) ≠ base.cfg.stationId ∧
      ({ kind := .beacon, seq := 0xB4, payload := List.replicate 40 0xA5, copies := 1, attempts := 0, inService := true } :
        TxEntry).payload.length ≤ 40 := by decide +kernel

theorem witness_SettingsImageRoundTrip :
    cfg1.Fits ∧ cfg1.version = 2 ∧ rangesOk cfg1 = true ∧ cfg1.curves.all curveOk = true ∧
      rangesOk { cfg1 with tripsToLockout := 0 } = false :=
  ⟨⟨by decide +kernel, by decide +kernel, by decide +kernel, by decide +kernel, by decide +kernel, by decide +kernel⟩,
    by decide +kernel⟩

theorem witness_DefaultsComeIntoForce : ∃ e, judgeImage .incomplete = .error e := ⟨.sum, rfl⟩

/-- Widths at the ends of their ranges, T being 20: a header of 420, a gap of 180, a trailer of 70, marks of 30, spaces of 170
and 30 with a glitch of 9 in them, 999 units of silence and one more; the runs in one command. -/
theorem witness_WandCodeOpensTheWindow :
    base.started = true ∧ base.tgu.decoder = .wait ∧ base.tgu.line = .space 0 ∧ base.cfg.crewSlot 0x1207 = some 0 ∧
      base.cfg.wandTolerance = 20 ∧ (170 = 80 + 9 + 81 ∧ 30 = 10 + 9 + 11) ∧ 1000 ≤ 999 + 1 ∧
      [[(⟨true, 420⟩ : WandRun)]].flatten = [⟨true, 420⟩] ∧
      ∀ i, i < 32 → (0x1207#16).getLsbD 3 = false ∧
        if (if i < 16 then (0x1207#16).getLsbD i else !(0x1207#16).getLsbD (i - 16)) = true then
          150 ≤ 170 + 20 ∧ 170 ≤ 150 + 20 ∧ ¬ (50 ≤ 170 + 20 ∧ 170 ≤ 50 + 20)
        else 50 ≤ 30 + 20 ∧ 30 ≤ 50 + 20 := by decide +kernel

theorem witness_RequestFrameIsTheRequest : base.started = true ∧ base.svp.service = .listen ∧ base.svp.rx = .hunt := by
  decide +kernel

/-- No bits, one bit held and the most that bring no arrival, 191 held in all; a whole frame and the rest of one; a frame that is
not good; the states of the LFSR's clause. -/
theorem witness_MeasurementFramesAreJudged :
    (base.started = true ∧ Startless [] ∧ Startless (List.replicate 190 ⟨false, true⟩) ∧ base.mfp.frame = none ∧
        [true].length + (List.replicate 190 (⟨false, true⟩ : LinkBit)).length < 192) ∧
      (Brings none (linkBits (phaseA 0)) (phaseA 0) ∧ FrameIsGood (phaseA 0) ∧ Brings none (linkBits badBytes) badBytes ∧
        ¬ FrameIsGood badBytes) ∧
      Brings (some ((bitsOf (phaseA 0)).take 191)) (((bitsOf (phaseA 0)).drop 191).map fun b => ⟨false, b⟩) (phaseA 0) ∧
      (base.chc.backoff = none ∧ base.btu.reserve ≠ .critical) :=
  ⟨⟨by decide +kernel, (fun b h => by cases h), (fun b h => by rw [List.eq_of_mem_replicate h]), by decide +kernel,
      by decide +kernel⟩,
    ⟨linkBits_brings _ (by decide +kernel), good_frame _ (by decide +kernel), linkBits_brings _ (by decide +kernel),
      bad_frame _ (by decide +kernel)⟩,
    ⟨by decide +kernel, .inl ⟨_, rfl, by decide +kernel, by unfold Startless; decide +kernel, by decide +kernel⟩⟩,
    by decide +kernel⟩

theorem witness_MultipleOfPickup :
    base.started = true ∧ base.mfp.frame = none ∧ Brings none (linkBits (phaseA 400)) (phaseA 400) ∧ FrameIsGood (phaseA 400) :=
  ⟨by decide +kernel, by decide +kernel, good_frame_brought _ (by decide +kernel)⟩

theorem witness_RateAndIncrement :
    defaultCurve.length = 12 ∧ curveOk defaultCurve = true ∧ (defaultCurve.getD 11 ⟨0, 0⟩).m ≤ 10240 ∧
      (defaultCurve.getD 0 ⟨0, 0⟩).m ≤ 256 ∧ 256 < (defaultCurve.getD 1 ⟨0, 0⟩).m ∧
      1 * 100 / 1000 = 0 ∧ 1048576 < 1048576 * 100 / 5 ∧ 10 * 100 / 1000 ≠ 0 := by decide +kernel

/-- The rows at M 256, at M 255 while PICKED, and at M 242. -/
theorem witness_ElementStep :
    let s := base.withOcu fun o => { o with elems := { o.elems with a := { o.elems.a with picked := true } } }
    (∀ i ∈ [400, 399, 379], Brings none (linkBits (phaseA i)) (phaseA i) ∧ FrameIsGood (phaseA i)) ∧
      s.started = true ∧ s.mfp.frame = none ∧ s.chc.queue = [] ∧ (framed (phaseA 400) s).ocu.elems.a.m = 256 ∧
      (framed (phaseA 399) s).ocu.elems.a.m = 255 ∧ s.ocu.elems.a.picked = true ∧ (framed (phaseA 379) s).ocu.elems.a.m = 242 := by
  refine ⟨?_, by decide +kernel⟩
  intro i hi
  fin_cases hi <;> exact good_frame_brought _ (by decide +kernel)

/-- A station whose phase A stands one frame short of F, in a given state; the order is then raised by a frame of five times
pickup. -/
def nearFull (s : State) : State :=
  (s.withOcu fun o =>
      { o with elems := { o.elems with a := { m := 1280, picked := true, acc := 1048575, count := 0, run := 126, peak := 2000 } } }).withBtu
    fun b => { b with acPresent := true }

/-- The bytes of that frame, at a trip capacitor's voltage. -/
def tripFrame (tripV : Nat) : List Byte := frameOf 2000 0 0 0 2600 0 50 tripV 375

/-- The states in which an order is taken, the lockout trip's, and those in which it is not; a frame that raises no order; a trip
capacitor that is ready, becomes ready at 240, and is not at 239. -/
theorem witness_OrdersOfAFrameStep :
    (∀ v ∈ [239, 240], Brings none (linkBits (tripFrame v)) (tripFrame v) ∧ FrameIsGood (tripFrame v)) ∧
      (∀ s ∈ [base, inSeq .resetTiming 2 none none, (inSeq .closing 1 none none).withSqc fun q => { q with closeBegun := true },
          inSeq .lockout 1 none (some .shots)],
        let u := nearFull s
        u.started = true ∧ u.mfp.frame = none ∧ u.chc.queue = [] ∧ u.ocu.phase.releaseDue = false ∧
          u.ocu.ground.releaseDue = false ∧ (framed (tripFrame 240) u).ocu.elems.a.acc = 1048576 ∧ u.ocu.phase.hold = none ∧
          u.ocu.elems.a.acc < 1048576 ∧ u.cdu.tripRequest = .none ∧ u.cdu.pulse = .none ∧ u.cdu.tripOwed = false ∧
          u.cdu.tripReady = false ∧ u.cdu.tripSpent = false ∧ u.quietTest ∧ u.btu.acPresent = true ∧ u.btu.reserve = .normal ∧
          (∃ e ∈ u.ocu.elems.toList, e.picked = true) ∧ (u.withCdu fun c => { c with tripReady := true }).cdu.tripReady = true) ∧
      (∀ q ∈ [SeqState.tripping, .recloseWait, .closeCharge, .breakerFail, .closing],
        (inSeq q 1 none none).sqc.seq = q ∧ (inSeq q 1 none none).sqc.closeBegun = false) ∧
      (locked.sqc.seq = .lockout ∧ ¬ (locked.cdu.closedMade = true ∧ locked.cdu.openMade = false)) ∧
      (framed (phaseA 0) base).ocu.elems.a.acc < 1048576 ∧
      ((inSeq .lockout 1 none (some .shots)).cdu.closedMade = true ∧ (inSeq .lockout 1 none (some .shots)).cdu.openMade = false) := by
  refine ⟨?_, by unfold State.quietTest; decide +kernel⟩
  intro v hv
  fin_cases hv <;> exact good_frame_brought _ (by decide +kernel)

theorem witness_StallAndMeasurementLost :
    let s := base.withMfp fun m => { m with stallTimer := some 0, lostTimer := some 0, recovery := some 0, stalled := false }
    (s.started = true ∧ s.mfp.stallTimer = some 0 ∧ s.mfp.stalled = false ∧ s.quietTest) ∧
      (base.mfp.stalled = true ∧ (base.withMfp fun m => { m with stallTimer := some 0 }).mfp.stallTimer = some 0) ∧
      (s.mfp.lostTimer = some 0 ∧ s.mfp.lost = false ∧ s.sqc.seq ≠ .closeCharge) ∧
      ((s.withMfp fun m => { m with lost := true }).mfp.lost = true) ∧
      ((s.withSqc fun q => { q with seq := .closeCharge }).sqc.seq = .closeCharge) ∧ s.mfp.recovery = some 0 := by
  unfold State.quietTest; decide +kernel

/-- A frame with no current and the capacitors at given voltages. -/
def chargeFrame (tripV closeV : Nat) : List Byte := frameOf 0 0 0 0 2600 0 50 tripV closeV

/-- The windows by request, the position Closed and Open, FIRST withdrawn and not; the waits; and the requests and
states that a capacitor at 240 or 360 serves. -/
theorem witness_PulsesWindowsAndWaitsEnd :
    (∀ r ∈ [TripRequest.first, .attempt, .none, .retrip], ∀ w ∈ [false, true], ∀ u ∈ [base, locked],
        let s := u.withCdu fun c => { c with tripWindow := some 0, tripRequest := r, withdrawn := w }
        s.started = true ∧ s.cdu.tripWindow = some 0 ∧ s.cdu.tripRequest = r ∧ s.cdu.withdrawn = w ∧ s.sqc.seq ≠ .tripping) ∧
      ((base.cdu.openMade && !base.cdu.closedMade) = false ∧ (locked.cdu.openMade && !locked.cdu.closedMade) = true) ∧
      (let s := base.withCdu fun c => { c with tripWait := some 0, retripWait := some 0 };
        s.sqc.seq ≠ .tripping ∧ s.cdu.tripWait = some 0 ∧ s.cdu.retripWait = some 0) ∧
      (Brings none (linkBits (chargeFrame 240 360)) (chargeFrame 240 360) ∧ FrameIsGood (chargeFrame 240 360)) ∧
      (∀ s ∈ [base.withCdu fun c => { c with tripRequest := .wait }, base.withCdu fun c => { c with tripRequest := .retripWait },
          inSeq .breakerFail 1 none (some .mechanism)],
        s.started = true ∧ s.mfp.frame = none ∧ s.cdu.pulse = .none ∧ s.chc.queue = [] ∧ s.cdu.tripReady = false ∧
          s.cdu.tripWindow = none) ∧
      (∀ s ∈ [inSeq .closeCharge 1 none none, (inSeq .closing 1 none none).withSqc fun q => { q with closeKind := .operator },
          tagged (inSeq .closeCharge 1 none none)],
        s.started = true ∧ s.mfp.frame = none ∧ s.cdu.pulse = .none ∧ s.chc.queue = [] ∧ s.cdu.closeReady = false ∧
          s.cdu.tripRequest = .none ∧ s.ocu.phase.releaseDue = false ∧ s.ocu.ground.releaseDue = false ∧
          s.tgu.handleDown = false ∧ s.btu.reserve ≠ .disconnect ∧ s.sqc.closeBegun = false) ∧
      (∀ q ∈ [base.cfg.instPh, base.cfg.instGd, base.cfg.tagInst], q = 0 ∨ 512 ≤ q) ∧
      (tagged (inSeq .closeCharge 1 none none)).tagInForce = true :=
  ⟨by decide +kernel, by decide +kernel, by decide +kernel, good_frame_brought _ (by decide +kernel), by decide +kernel⟩

theorem witness_BreakerFailure :
    let s := (inSeq .tripping 1 (some (timeTrip none)) none).withCdu fun c =>
      { c with tripWindow := some 0, tripRequest := .retrip, tripWait := some 0, retripWait := some 0 }
    s.started = true ∧ s.sqc.seq = .tripping ∧ s.sqc.trip = some (timeTrip none) ∧ s.cdu.tripWindow = some 0 ∧
      s.cdu.tripRequest = .retrip ∧ ¬ (s.cdu.openMade = true ∧ s.cdu.closedMade = false) ∧ s.cdu.retripWait = some 0 ∧
      s.cdu.tripWait = some 0 := by decide +kernel

theorem witness_CloseFailures :
    (∀ q ∈ [SeqState.closing, .ready, .closeCharge],
      let s := (inSeq q 1 none none).withCdu fun c => { c with closeWindow := some 0, closeRequest := true, closeCharge := some 0 }
      s.started = true ∧ s.cdu.closeWindow = some 0 ∧ s.cdu.closeRequest = true ∧ s.cdu.closeCharge = some 0 ∧
        s.sqc.seq = q ∧ s.sqc.closeBegun = false) ∧
      (base.withCdu fun c => { c with closeWindow := some 0 }).cdu.closeRequest = false := by decide +kernel

/-- A station about to see its open contact close. -/
def opening (s : State) (request : TripRequest) : State :=
  held .poso true
    (s.withCdu fun c => { c with closedMade := false, openMade := false, lastClosed := true, tripRequest := request })

theorem witness_TripConfirm :
    ∀ s ∈ [opening (inSeq .tripping 1 (some (timeTrip none)) none) .first,
        opening (inSeq .tripping 1 (some (timeTrip (some .shots))) none) .retrip,
        tagged (opening (inSeq .tripping 1 (some (timeTrip none)) none) .first),
        opening (inSeq .breakerFail 1 none (some .mechanism)) .attempt, opening (inSeq .lockout 1 none (some .shots)) .first],
      s.started = true ∧ s.cdu.closedMade = false ∧ s.cdu.openMade = false ∧ s.cdu.lastClosed = true ∧
        s.cdu.tripRequest ≠ .none ∧ s.ocu.phase.hold = none ∧ s.ocu.ground.hold = none ∧ s.Held .poso true := by
  unfold State.Held; decide +kernel

theorem witness_OpenWithoutAPulse :
    ∀ q ∈ [SeqState.ready, .resetTiming, .breakerFail, .lockout],
      let s := (opening (inSeq q 1 none none) .none).withMfp fun m => { m with stalled := false }
      s.started = true ∧ s.cdu.closedMade = false ∧ s.cdu.openMade = false ∧ s.cdu.lastClosed = true ∧
        s.cdu.tripRequest = .none ∧ s.quietTest ∧ s.mfp.stalled = false ∧ (∀ e ∈ s.ocu.elems.toList, e.acc < 1048576) ∧
        s.sqc.seq = q ∧ s.Held .poso true := by
  unfold State.quietTest State.Held; decide +kernel

/-- A station about to see its closed contact close. -/
def closingUp (s : State) (request : Bool) (kind : CloseKind) : State :=
  held .posc true
    ((s.withCdu fun c => { c with closedMade := false, openMade := false, lastClosed := false, closeRequest := request }).withSqc
      fun q => { q with closeKind := kind })

theorem witness_ChangeToClosed :
    (∀ s ∈ [closingUp (inSeq .closing 1 none none) true .automatic, tagged (closingUp (inSeq .closing 1 none none) true .automatic),
        closingUp (inSeq .closing 1 none none) true .operator, closingUp (inSeq .lockout 1 none (some .handle)) true .automatic],
      s.started = true ∧ s.cdu.closedMade = false ∧ s.cdu.openMade = false ∧ s.cdu.lastClosed = false ∧
        s.cdu.closeRequest = true ∧ s.Held .posc true) ∧
      ∀ q ∈ [SeqState.lockout, .recloseWait, .closeCharge, .closing],
        let s := closingUp (inSeq q 1 none none) false .automatic
        s.cdu.closeRequest = false ∧ s.sqc.seq = q ∧ s.sqc.closeBegun = false ∧ s.tgu.handleDown = false ∧
          s.Held .posc true ∧ (s.withTgu fun t => { t with handleDown := true }).tgu.handleDown = true := by
  unfold State.Held; decide +kernel

theorem witness_IndeterminatePosition :
    (let s := held .posc false base;
        s.started = true ∧ s.cdu.closedMade = true ∧ s.cdu.openMade = false ∧ s.Held .posc false) ∧
      (let s := held .posc true locked; s.cdu.closedMade = false ∧ s.cdu.openMade = true ∧ s.Held .posc true) ∧
      ¬ base.Held .posc false ∧ ¬ base.Held .poso false ∧
      (let s := held .posc true (base.withCdu fun c => { c with closedMade := false, indeterminate := some 0 });
        s.cdu.closedMade = false ∧ s.cdu.openMade = false ∧ s.cdu.lastClosed = true ∧ s.cdu.indeterminate = some 0 ∧
          s.cdu.closedMade = s.cdu.openMade ∧ s.Held .posc true) ∧
      ∀ made ∈ [false, true],
        let s := held .poso made
          (held .posc made (base.withCdu fun c => { c with closedMade := !made, openMade := !made, indeterminate := some 7 }))
        s.started = true ∧ s.cdu.closedMade = !made ∧ s.cdu.openMade = !made ∧ s.Held .posc made ∧ s.Held .poso made := by
  unfold State.Held; decide +kernel

theorem witness_CloseGate :
    let s := (inSeq .recloseWait 1 none none).withSqc fun q => { q with reclose := some 0 }
    s.started = true ∧ s.sqc.seq = .recloseWait ∧ s.sqc.reclose = some 0 := by decide +kernel

theorem witness_SequenceTimersExpire :
    (∀ q ∈ [SeqState.closeCharge, .closing],
      let s := (inSeq q 1 none none).withSqc fun x => { x with charge := some 0 }
      s.started = true ∧ s.sqc.charge = some 0 ∧ s.sqc.seq = q ∧ s.sqc.closeBegun = false) ∧
      (∀ b ∈ [false, true],
        let s := (inSeq .resetTiming 1 none none).withSqc fun x => { x with reset := some 0, stepped := b }
        s.sqc.reset = some 0 ∧ s.sqc.seq = .resetTiming ∧ s.sqc.stepped = b) ∧
      (base.withSqc fun q => { q with manualWindow := some 0, startHold := some 0 }).sqc.manualWindow = some 0 ∧
      ∀ p ∈ [Pulse.trip, .close],
        let s := base.withCdu fun c => { c with pulse := p, pulseTimer := some 0 }
        s.started = true ∧ s.cdu.pulseTimer = some 0 ∧ s.cdu.tripOwed = false ∧ s.cdu.closeOwed = false ∧ s.cdu.pulse = p := by
  decide +kernel

theorem witness_SequenceStep :
    let s := ((base.withOcu fun o =>
        { o with elems := { o.elems with a := { o.elems.a with picked := true } }, longestRun := 2 }).withSqc fun q =>
      { q with memory := some { a := true, b := false, c := false, g := false } }).withBtu fun b => { b with acPresent := true }
    (Brings none (linkBits (phaseA 379)) (phaseA 379) ∧ FrameIsGood (phaseA 379)) ∧ s.started = true ∧ s.mfp.frame = none ∧
      s.chc.queue = [] ∧ s.sqc.seq = .ready ∧ s.quietTest ∧ s.btu.acPresent = true ∧ s.btu.reserve = .normal ∧
      (∀ e ∈ s.ocu.elems.toList, e.acc < 1048576 ∧ e.count = 0) ∧ (∃ e ∈ s.ocu.elems.toList, e.picked = true) ∧
      (measFields (phaseA 379)).ia * 256 / s.cfg.pickupPh < 243 ∧ (measFields (phaseA 379)).ig * 256 / s.cfg.pickupGd < 243 ∧
      s.sqc.memory.isSome = true ∧ 2 ≤ s.ocu.longestRun ∧ s.ocu.orderRaised = false ∧ s.sqc.shots + 1 < s.cfg.tripsToLockout ∧
      (inSeq .resetTiming 2 none none).cfg.tripsToLockout ≤ (inSeq .resetTiming 2 none none).sqc.shots + 1 :=
  ⟨good_frame_brought _ (by decide +kernel), by unfold State.quietTest; decide +kernel⟩

/-- The station with every key down. -/
def allPressed (s : State) : State :=
  s.withTgu fun t => { t with keys := { trip := true, close := true, tagOn := true, tagOff := true, battery := true } }

/-- With the trip capacitor ready and not, and with a close pulse in progress and none. -/
theorem witness_OperatorTripByState :
    (∀ s ∈ [base, inSeq .resetTiming 1 none none, (inSeq .closing 1 none none).withSqc fun q => { q with closeBegun := true },
        inSeq .lockout 1 none (some .shots)], ∀ ready ∈ [false, true], ∀ p ∈ [Pulse.none, .close],
      let t := held .tripKey true (s.withCdu fun c => { c with tripReady := ready, pulse := p })
      t.started = true ∧ t.quietTest ∧ t.cdu.tripRequest = .none ∧ t.cdu.tripReady = ready ∧ t.cdu.pulse = p ∧
        t.tgu.keys.trip = false ∧ t.svp.service = .listen ∧ t.Held .tripKey true) ∧
      (∀ q ∈ [SeqState.tripping, .recloseWait, .closeCharge, .closing, .breakerFail],
        (inSeq q 1 none none).started = true ∧ (inSeq q 1 none none).sqc.seq = q ∧
          (inSeq q 1 none none).sqc.closeBegun = false ∧ (inSeq q 1 none none).svp.service = .listen ∧
          (held .tripKey true (inSeq q 1 none none)).tgu.keys.trip = false ∧
          (held .tripKey true (inSeq q 1 none none)).Held .tripKey true) ∧
      ¬ (locked.cdu.closedMade = true ∧ locked.cdu.openMade = false) ∧
      (let s := held .tripKey false (allPressed base); s.started = true ∧ s.tgu.keys.trip = true ∧ s.Held .tripKey false) := by
  unfold State.quietTest State.Held; decide +kernel

/-- The five answers are `test_operator_close_refusals`' and `test_operator_close_waits`'. -/
theorem witness_OperatorClose :
    locked.started = true ∧ locked.svp.service = .listen ∧ locked.tgu.keys.close = false ∧ locked.sqc.seq = .lockout ∧
      locked.cdu.pulse = .none ∧ locked.cdu.openMade = true ∧ locked.cdu.closedMade = false ∧ locked.tgu.handleDown = false ∧
      locked.tagInForce = false ∧ locked.btu.reserve = .normal ∧ (held .closeKey true locked).tgu.keys.close = false ∧
      (held .closeKey true locked).Held .closeKey true ∧
      (let s := held .closeKey false (allPressed base); s.started = true ∧ s.tgu.keys.close = true ∧ s.Held .closeKey false) := by
  unfold State.Held; decide +kernel

/-- Every input at an edge each way, at a level it has not held, and at one it has. -/
theorem witness_HandleMoves :
    (∀ pin ∈ [InputPin.posc, .poso, .acp, .tripKey, .closeKey, .tagOnKey, .tagOffKey, .batteryKey, .hndl],
      let s := held pin (!base.debounced pin) base
      base.started = true ∧ (base.inputs.line pin).level = base.debounced pin ∧
        (base.inputs.line pin).level ≠ (!base.debounced pin) ∧ ¬ base.Held pin (!base.debounced pin) ∧
        s.Held pin (!base.debounced pin) ∧ s.debounced pin ≠ (!base.debounced pin)) ∧
      (∀ r ∈ [TripRequest.none, .wait, .retripWait, .first, .retrip, .attempt],
        let s := held .hndl true ((inSeq .tripping 1 none none).withCdu fun c => { c with tripRequest := r })
        s.started = true ∧ s.tgu.handleDown = false ∧ s.quietTest ∧ s.cdu.tripRequest = r ∧ s.Held .hndl true) ∧
      (let s := held .hndl false (base.withTgu fun t => { t with handleDown := true });
        s.tgu.handleDown = true ∧ s.Held .hndl false) := by
  unfold State.quietTest State.Held; decide +kernel

/-- A station with both holds standing, their end come, A at F with M 243. -/
def holding : State :=
  (base.withMfp fun m => { m with stalled := false }).withOcu fun o =>
    { o with
      elems := { o.elems with a := { m := 243, picked := true, acc := 1048576, count := 0, run := 9, peak := 500 } }
      phase := { o.phase with hold := some { holder := 5, position := 9, begunAt := 0, endsAt := 0 } }
      ground := { o.ground with hold := some { holder := 5, position := 9, begunAt := 0, endsAt := 0 } } }

theorem witness_HoldsEnd :
    (holding.started = true ∧ holding.ocu.phase.hold.isSome = true ∧ holding.ocu.ground.hold.isSome = true ∧
        (0 : Word32) = holding.now ∧ holding.mfp.stalled = false ∧
        (holding.ocu.elems.g.acc < 1048576 ∨ holding.ocu.elems.g.m < 243)) ∧
      (∃ e ∈ [holding.ocu.elems.a, holding.ocu.elems.b, holding.ocu.elems.c], e.acc = 1048576 ∧ 243 ≤ e.m) ∧
      (holding.sqc.seq = .ready ∧ holding.sqc.shots < holding.cfg.tripsToLockout) ∧
      (let s := holding.withOcu fun o => { o with elems := { o.elems with a := { o.elems.a with m := 242 } } };
        ∀ e ∈ [s.ocu.elems.a, s.ocu.elems.b, s.ocu.elems.c], e.acc < 1048576 ∨ e.m < 243) ∧
      base.mfp.stalled = true ∧
      (let s := holding.withOcu fun o => { o with elems := { o.elems with g := { o.elems.a with m := 243 } } };
        s.ocu.elems.g.acc = 1048576 ∧ 243 ≤ s.ocu.elems.g.m ∧ s.ocu.ground.hold = holding.ocu.ground.hold) := by decide +kernel

/-- The two kinds with a release test put off and an element at F, the frame that ends the freeze keeping it there, and a station
with none at F. -/
theorem witness_HoldsEnd_put_off :
    (Brings none (linkBits (phaseA 400)) (phaseA 400) ∧ FrameIsGood (phaseA 400)) ∧
      (let s := (nearFull base).withOcu fun o =>
          { o with
            elems := o.elems.map fun e => { e with acc := 1048576, count := 0 }
            phase := { o.phase with releaseDue := true }
            ground := { o.ground with releaseDue := true } };
        s.started = true ∧ s.mfp.frame = none ∧ s.chc.queue = [] ∧ (∀ e ∈ s.ocu.elems.toList, e.count = 0) ∧
          s.sqc.seq = .ready ∧ s.sqc.shots < s.cfg.tripsToLockout ∧ s.ocu.phase.hold = none ∧
          (framed (phaseA 400) s).ocu.elems.a.acc = 1048576 ∧ (framed (phaseA 400) s).sqc.seq = .tripping) ∧
      (framed (phaseA 400) base).ocu.elems.toList.all (fun e => decide (e.acc < 1048576)) = true :=
  ⟨good_frame_brought _ (by decide +kernel), by decide +kernel, by decide +kernel⟩

theorem witness_FloatSetpoint :
    (base.started = true ∧ base.mfp.frame = none ∧ Brings none (linkBits (phaseA 0)) (phaseA 0) ∧ FrameIsGood (phaseA 0)) ∧
      (exec (.shortFrame []) base = .next (after (.shortFrame []) base) ∧ (∀ a b i k o, Instr.shortFrame [] ≠ .coldStart a b i k o)) ∧
      (Brings none (linkBits badBytes) badBytes ∧ ¬ FrameIsGood badBytes) :=
  ⟨⟨by decide +kernel, by decide +kernel, good_frame_brought _ (by decide +kernel)⟩, ⟨rfl, fun _ _ _ _ _ h => by cases h⟩,
    linkBits_brings _ (by decide +kernel), bad_frame _ (by decide +kernel)⟩

/-- A frame of 22.99 V; the states that CRITICAL locks out and one that it does not. -/
theorem witness_ReserveJudgement :
    (Delivery.test ∉ usual ∧ (measFields (frameOf 0 0 0 0 2299 0 50 255 359)).closeV < 360) ∧
      (Brings none (linkBits (frameOf 0 0 0 0 2299 0 50 255 359)) (frameOf 0 0 0 0 2299 0 50 255 359) ∧
        FrameIsGood (frameOf 0 0 0 0 2299 0 50 255 359)) ∧
      ∀ s ∈ [base, inSeq .closeCharge 1 none none, (inSeq .closing 1 none none).withSqc fun q => { q with closeKind := .operator }],
        s.started = true ∧ s.mfp.frame = none ∧ s.quietTest ∧ s.btu.test = .idle ∧ s.chc.queue = [] ∧
          (∀ e ∈ s.ocu.elems.toList, e.picked = false) ∧ s.ocu.phase.releaseDue = false ∧ s.ocu.ground.releaseDue = false ∧
          (∀ q ∈ [s.cfg.instPh, s.cfg.instGd, s.cfg.tagInst], q = 0 ∨ 512 ≤ q) ∧
          (after (.measurementFrame (linkBits (frameOf 0 0 0 0 2299 0 50 255 359)) (.btu :: usual)) s).btu.reserve = .critical :=
  ⟨by decide +kernel, good_frame_brought _ (by decide +kernel), by unfold State.quietTest; decide +kernel⟩

/-- Before the first good frame and after it; from RESERVE and CRITICAL, and to them. -/
theorem witness_ChargerFollowsAcAndTimers :
    (let s := held .acp true base;
      s.started = true ∧ s.quietTest ∧ s.btu.acPresent = false ∧ s.btu.reserve = .normal ∧ s.btu.discharged = true ∧
        s.btu.measured = false ∧ s.btu.sending = some 2700 ∧ s.Held .acp true) ∧
      (let s := held .acp false <| base.withBtu fun b => { b with acPresent := true, discharged := false, battV := 2440, taper := some 0, boostLimit := some 0 };
        s.btu.acPresent = true ∧ s.btu.discharged = false ∧ 2440 ≤ s.btu.battV ∧ s.btu.taper = some 0 ∧ s.btu.boostLimit = some 0 ∧
          s.Held .acp false) ∧
      (∀ r ∈ [Reserve.reserve, .critical],
        let s := held .acp true (base.withBtu fun b => { b with reserve := r, measured := true })
        s.btu.reserve = r ∧ s.btu.measured = true ∧ s.btu.acPresent = false ∧ s.quietTest ∧ s.Held .acp true) ∧
      (∀ v ∈ [2299, 2439], ∀ u ∈ [base, inSeq .closeCharge 1 none none, inSeq .closing 1 none none],
        let s := held .acp false (u.withBtu fun b => { b with acPresent := true, measured := true, battV := v })
        s.started = true ∧ s.quietTest ∧ s.btu.acPresent = true ∧ s.btu.measured = true ∧ s.btu.reserve = .normal ∧
          s.btu.battV = v ∧ s.cfg.stationId ≠ 0 ∧ s.chc.queued < 8 ∧ s.Held .acp false) ∧
      ¬ (base.withBtu fun b => { b with test := .loaded }).quietTest := by
  unfold State.quietTest State.Held; decide +kernel

theorem witness_ShutdownAndDisconnect :
    let s := base.withBtu fun b => { b with lowVoltage := some 0, disconnect := some 0 }
    s.started = true ∧ s.btu.lowVoltage = some 0 ∧ s.cfg.stationId ≠ 0 ∧ s.chc.queued < 8 ∧ s.btu.disconnect = some 0 ∧
      s.btu.reserve ≠ .disconnect := by decide +kernel

/-- A station whose test may start. -/
def testReady : State :=
  (base.withBtu fun b =>
    { b with test := .pending, testMoment := true, acPresent := true, charger := .float, scheduleDue := true, schedule := some 0 }).withCdu
    fun c => { c with tripReady := true, closeReady := true }

theorem witness_BatteryTestIsAskedAndStarts :
    (testReady.started = true ∧ testReady.btu.schedule = some 0 ∧ testReady.btu.scheduleDue = true ∧
        testReady.btu.reserve = .normal ∧ testReady.btu.charger = .float ∧ testReady.svp.service = .listen ∧
        (held .batteryKey true testReady).tgu.keys.battery = false ∧ (held .batteryKey true testReady).Held .batteryKey true ∧
        (held .batteryKey false (allPressed base)).tgu.keys.battery = true ∧
        (held .batteryKey false (allPressed base)).Held .batteryKey false) ∧
      (testReady.btu.test = .pending ∧ testReady.btu.testMoment = true ∧ testReady.btu.acPresent = true ∧
        testReady.sqc.seq = .ready ∧ (∀ e ∈ testReady.ocu.elems.toList, e.picked = false) ∧ testReady.cdu.tripReady = true ∧
        testReady.cdu.closeReady = true ∧ testReady.cdu.pulse = .none) ∧
      (base.btu.scheduleDue = false ∧ base.btu.test ≠ .pending) ∧
      (base.withBtu fun b => { b with settle := some 0 }).btu.settle = some 0 := by unfold State.Held; decide +kernel

theorem witness_LoadTestVerdict :
    ∀ i ∈ [(-1000 : Int), 0, -1],
      let s := base.withBtu fun b => { b with load := some 0, v0 := some 2540, battV := 2410, battI := i }
      s.started = true ∧ s.btu.load = some 0 ∧ s.btu.v0 = some 2540 ∧ s.btu.battI ≠ -32768 := by decide +kernel

/-- A sound state with a step; SETTLE and LOADED with each cause; and a first pickup. -/
theorem witness_RunningTestIsAbandoned :
    (let s := { held .hndl true (base.withBtu fun b => { b with test := .loaded }) with pending := [.handleDown true] };
      s.TestSound ∧ step s = .next (after (.handleDown true) { s with pending := [] })) ∧
      (∀ t ∈ [TestState.settle, .loaded],
      let s := held .acp false <| held .hndl true <| held .tripKey true <|
        (base.withBtu fun b => { b with test := t, acPresent := true }).withMfp fun m =>
          { m with stallTimer := some 0, stalled := false }
      s.started = true ∧ s.btu.test = t ∧ s.btu.v1 = none ∧ s.btu.i1 = none ∧ s.mfp.stallTimer = some 0 ∧
        s.mfp.stalled = false ∧ s.btu.acPresent = true ∧ s.tgu.handleDown = false ∧ s.sqc.seq = .ready ∧
        s.tgu.keys.trip = false ∧ s.svp.service = .listen ∧ (opening s .none).cdu.closedMade = false ∧
        (opening s .none).cdu.openMade = false ∧ (opening s .none).cdu.lastClosed = true ∧
        (opening s .none).cdu.tripRequest = .none ∧ (opening s .none).sqc.seq = .ready ∧
        (∀ e ∈ s.ocu.elems.toList, e.picked = false) ∧ s.mfp.frame = none ∧ s.Held .acp false ∧ s.Held .hndl true ∧
        s.Held .tripKey true ∧ (opening s .none).Held .poso true) ∧
      (Brings none (linkBits (phaseA 400)) (phaseA 400) ∧ FrameIsGood (phaseA 400) ∧ Delivery.test ∉ usual.tail ∧
        (measFields (phaseA 400)).ia * 256 / base.cfg.pickupPh = 256) ∧
      (testReady.started = true ∧ testReady.mfp.frame = none ∧ testReady.btu.test = .pending ∧ testReady.btu.acPresent = true ∧
        testReady.btu.reserve = .normal ∧ testReady.sqc.seq = .ready ∧ (∀ e ∈ testReady.ocu.elems.toList, e.picked = false) ∧
        testReady.cdu.tripReady = true ∧ testReady.cdu.closeReady = true ∧ testReady.cdu.pulse = .none) :=
  ⟨⟨⟨by decide +kernel, by decide +kernel, by decide +kernel⟩, rfl⟩, by unfold State.Held; decide +kernel,
    ⟨linkBits_brings _ (by decide +kernel), good_frame _ (by decide +kernel), by decide +kernel, by decide +kernel⟩,
    by decide +kernel⟩

/-- An entry of the transmit queue. -/
def entry (kind : ReportKind) (attempts : Nat) (inService : Bool) : TxEntry :=
  { kind := kind, seq := 1, payload := [1, 2], copies := if kind == .beacon then 1 else 3, attempts := attempts, inService := inService }

theorem witness_ChannelAccess :
    (let s := base.withChc fun c => { c with front := [entry .trip 0 false], tx := .defer, quiet := 60 };
      s.started = true ∧ s.chc.tx = .defer ∧ s.chc.quiet = 60 ∧
        (s.chc.front ++ s.chc.status).find? s.servable = some (entry .trip 0 false) ∧ s.chc.backoff = none ∧
        (s.withChc fun c => { c with backoff := some { count := 1, window := 4 } }).chc.backoff ≠ none) ∧
      (let s := base.withChc fun c =>
          { c with front := [entry .trip 0 false], tx := .backoff, backoff := some { count := 0, window := 4 } };
        s.chc.tx = .backoff ∧ s.chc.front = entry .trip 0 false :: [] ∧ (entry .trip 0 false).kind ≠ .beacon) ∧
      (let s := base.withChc fun c =>
          { c with status := [entry .beacon 0 false], tx := .backoff, backoff := some { count := 0, window := 16 } };
        s.chc.front = [] ∧ s.chc.status = entry .beacon 0 false :: [] ∧ s.btu.reserve = .normal ∧
          s.btu.shutdownPending = false) := by decide +kernel

/-- The READY test before the next byte: of a frame of 5 bytes, 4 sent, and 5, after which no test is left. -/
theorem witness_RadioReadyAndKeyRelease :
    (let s := base.withChc fun c => { c with front := [entry .trip 0 true], tx := .keyUp };
      s.started = true ∧ s.chc.tx = .keyUp ∧ (s.chc.front ++ s.chc.status).find? (fun x => x.inService) = some (entry .trip 0 true)) ∧
      (let s := base.withChc fun c => { c with tx := .sending, airFrame := [1, 2, 3, 4, 5] };
        s.chc.tx = .sending ∧ s.cfg.options.getLsbD 2 = false ∧ s.chc.aborting = false ∧ 4 < s.chc.airFrame.length ∧
          s.chc.airFrame.length ≤ 5) ∧
      (let s := { base with svp := { base.svp with settings := { cfg1 with options := 4 } }, chc := { base.chc with readyLatch := true } };
        s.cfg.options.getLsbD 2 = true ∧ s.chc.readyLatch = true) ∧
      base.chc.tx ≠ .sending ∧
      (let s := base.withChc fun c => { c with tx := .keyDown, keyDown := some 0 };
        s.chc.tx = .keyDown ∧ s.chc.keyDown = some 0) := by decide +kernel

/-- A Fault entry at attempts 0, 1 and 2, and the BEACON. -/
theorem witness_FailedAttempts :
    (∀ n ∈ [0, 1, 2],
      let s := base.withChc fun c => { c with front := [entry .trip n true], status := [entry .beacon 0 false] }
      s.started = true ∧ s.chc.front = entry .trip n true :: [] ∧ (entry .trip n true).kind ≠ .beacon ∧
        (∀ x ∈ [] ++ s.chc.status, x.inService = false)) ∧
      (∀ n ∈ [0, 1, 2], ∀ pending ∈ [false, true],
        let s := (base.withChc fun c => { c with front := [entry .trip 0 false], status := [entry .beacon n true] }).withBtu fun b =>
          { b with shutdownPending := pending }
        s.started = true ∧ s.chc.status = [entry .beacon n true] ∧ (entry .beacon n true).kind = .beacon ∧
          (∀ x ∈ s.chc.front, x.inService = false) ∧ s.btu.shutdownPending = pending) ∧
      (let s := base.withChc fun c => { c with tx := .keyUp, readyTimer := some 0 };
        s.chc.tx = .keyUp ∧ s.chc.readyTimer = some 0) ∧
      (let s := base.withChc fun c => { c with tx := .sending, aborting := true };
        s.chc.tx = .sending ∧ s.chc.aborting = true) := by decide +kernel

theorem witness_CopySentAndJabber :
    (∀ k ∈ [ReportKind.trip, .shutdown],
      let s := base.withChc fun c => { c with front := [entry k 0 true], tx := .sending, jabber := some 0 }
      s.started = true ∧ s.chc.tx = .sending ∧ s.chc.front = entry k 0 true :: [] ∧ (entry k 0 true).kind ≠ .beacon ∧
        (∀ x ∈ [] ++ s.chc.status, x.inService = false) ∧ s.chc.aborting = false ∧ s.chc.jabber = some 0 ∧
        s.btu.reserve ≠ .disconnect) ∧
      (let s := base.withChc fun c =>
          { c with front := [entry .trip 0 false], status := [entry .beacon 0 true], tx := .sending, jabber := some 0 };
        s.chc.front = [entry .trip 0 false] ∧ s.chc.status = entry .beacon 0 true :: [] ∧ (entry .beacon 0 true).kind = .beacon ∧
          (∀ x ∈ [entry .trip 0 false] ++ [], x.inService = false)) := by decide +kernel

/-- A receiver in BODY with the bytes of a body but its last, and a number of records held. -/
def hearing (body : List Byte) (held : Nat) : State :=
  base.withChc fun c =>
    { c with
      rx := .body
      body := body.dropLast
      queue := List.replicate held { sender := 9, position := 1, kind := 0x24, seq := 1, payload := [13, 4], arrival := 0 } }

/-- A body of feeder 7 and an empty payload, with its check. -/
def heard (feeder sender : Byte) : List Byte :=
  let head : List Byte := [feeder, sender, 1, 0x21, 5, 0]
  head ++ beBytes 2 (crc16 head).toNat

/-- The ends of a reception; an escape with another byte after it; a length of 41; and complete bodies, with a wrong check, of
another feeder, of the own id, and with 6 records held. -/
theorem witness_ReceptionsEnd :
    (∀ r ∈ [RxState.hunt, .sync1, .body],
      let s := base.withChc fun c => { c with rx := r }
      s.started = true ∧ s.deaf = false ∧ s.chc.rx = r ∧ s.chc.carr = false ∧ s.chc.latch = false ∧ s.chc.tx = .idle) ∧
      (let s := base.withChc fun c => { c with rx := .body, carr := true, latch := true };
        s.chc.carr = true ∧ s.chc.latch = true) ∧
      (base.withChc fun c => { c with tx := .sending }).deaf = true ∧
      (let s := base.withChc fun c => { c with rx := .body, escape := true };
        s.chc.escape = true ∧ (0x93 : Byte) ≠ 0x94 ∧ (0x93 : Byte) ≠ 0x85 ∧ (0x93 : Byte) ≠ 0xB4) ∧
      (let s := hearing [7, 9, 1, 0x21, 5, 41] 0;
        s.chc.escape = false ∧ s.chc.body ++ [41] = [7, 9, 1, 0x21, 5, 41] ∧ s.deaf = false ∧ s.chc.rx = .body) ∧
      (∀ body ∈ [heard 8 9, heard 7 4, heard 7 9],
        (hearing body 6).chc.body ++ [body.getD 7 0] = body ∧ body.getD 7 0 ≠ 0xB4 ∧ body.getD 7 0 ≠ 0xA5 ∧
          body.length = (body.getD 5 0).toNat + 8 ∧
          (crc16 (body.take 6)).toNat = (body.getD 6 0).toNat * 256 + (body.getD 7 0).toNat) ∧
      (6 ≤ (hearing (heard 7 9) 6).chc.queue.length ∧ base.cfg.feeder = 7 ∧ base.cfg.stationId = 4) ∧
      (let body : List Byte := [7, 9, 1, 0x21, 5, 0, 0, 0];
        (crc16 (body.take 6)).toNat ≠ (body.getD 6 0).toNat * 256 + (body.getD 7 0).toNat) := by decide +kernel

/-- No BEACON queued, one queued and one in service, and 8 entries queued. -/
theorem witness_BeaconIsBuiltAndPeersAge :
    (∀ front ∈ [[], List.replicate 8 (entry .trip 0 false)], ∀ status ∈ [[], [entry .beacon 0 false], [entry .beacon 0 true]],
      ∀ r ∈ [Reserve.normal, .reserve],
      let s := { base with
        now := 60000
        btu := { base.btu with reserve := r }
        chc := { base.chc with front := front, status := status }
        pru := { base.pru with beacon := some { reference := 0, span := 60000, drawn := false } } }
      s.started = true ∧ 60000 ≤ (s.now - 0).toNat ∧ s.btu.reserve = r ∧ s.cfg.stationId ≠ 0 ∧ s.chc.status = status ∧
        (front = [] → s.chc.queued < 8) ∧ (front ≠ [] → 8 ≤ s.chc.queued)) ∧
      ({ busy with now := 180000 }.pru.peers[3]?.join.map (·.id) = some 250 ∧
        (∀ j, j < 3 → busy.pru.peers[j]? = some none) ∧ 3 * (busy.cfg.beaconInterval * 1000) ≤ (180000#32 - 0).toNat ∧
        10 * (busy.cfg.beaconInterval * 1000) ≤ (600000#32 - 0).toNat ∧
        (179999#32 - 0).toNat < 3 * (busy.cfg.beaconInterval * 1000)) := by decide +kernel

/-- A record in the receive queue at a stall-paced take. -/
def taking (kind : Byte) (payload : List Byte) : State :=
  { base with
    chc := { base.chc with queue := [{ sender := 250, position := 63, kind := kind, seq := 1, payload := payload, arrival := 0 }] }
    pru := { base.pru with pace := some 0 } }

/-- A peer in its place. -/
def peerAt (id : Nat) (silent : Bool) (seq : Option Byte) : PeerEntry :=
  { id := id, position := 9, lastSeq := seq, lastHeard := 0, silent := silent, summary := none, fault := none }

/-- A table with every place taken. -/
def fullTable (silent : Bool) : List (Option PeerEntry) := (List.range 16).map fun k => some (peerAt (k + 1) silent none)

/-- A record of LOCKOUT and of BEACON whose station is unentered, with room, with a SILENT entry and with none; refused ones; and
one of a station entered, with its sequence and another. -/
theorem witness_RecordsAreTaken :
    (∀ s ∈ [taking 0x24 [13, 4], taking 0x24 [1], taking 0x77 []], s.started = true ∧ s.pru.pace = some 0) ∧
      (∀ s ∈ [taking 0x24 [13, 4], taking 0x11 [7, 4, 2, 2, 0, 0, 0, 0]], (∀ x, some x ∈ s.pru.peers → x.id ≠ 250) ∧
        s.pru.peers[0]? = some none) ∧
      ((taking 0x24 [13, 4]).chc.queue.map fun r => (r.sender, r.position, r.kind, r.payload)) = [(250, 63, 0x24, [13, 4])] ∧
      ({ cfg1 with position := 63 } : Settings).position = 63 ∧
      (∀ silent ∈ [false, true], none ∉ fullTable silent ∧ (∀ x, some x ∈ fullTable silent → x.id ≠ 250) ∧
        ∀ x, some x ∈ fullTable silent → x.silent = silent ∧ x.lastHeard = 0) ∧
      (∀ seq ∈ [none, some 1, some 2],
        let s := (taking 0x24 [13, 4]).withPru fun p => { p with peers := p.peers.set 3 (some (peerAt 250 false seq)) }
        s.pru.peers[3]? = some (some (peerAt 250 false seq)) ∧ (∀ j, j < 3 → s.pru.peers[j]? = some none)) := by
  refine ⟨by decide +kernel, ?_, by decide +kernel, rfl, ?_, by decide +kernel⟩
  · have none_listed : ∀ x : PeerEntry, some x ∉ List.replicate 16 (none : Option PeerEntry) := fun x h => by simp at h
    intro s hs
    rcases List.mem_pair.mp hs with rfl | rfl <;> exact ⟨fun x hx => absurd hx (none_listed x), by decide +kernel⟩
  · intro silent _
    simp only [fullTable, List.mem_map, List.mem_range, Option.some.injEq, reduceCtorEq, and_false, exists_false,
      not_false_eq_true, true_and]
    exact ⟨fun x ⟨k, hk, e⟩ => by rw [← e]; simp only [peerAt]; omega, fun x ⟨k, hk, e⟩ => by rw [← e]; exact ⟨rfl, rfl⟩⟩

/-- A PICKUP of phase elements, of ground and of both kinds; a hold free, past its span, standing; the mark set, a tag in force;
and a TRIP and a CLEAR of the holder. -/
theorem witness_PartnerPickups :
    (∀ p ∈ [[(1 : Byte), 0, 9, 4], [8, 0, 9, 0], [9, 0, 9, 4]],
      let s := taking 0x21 p
      s.started = true ∧ s.pru.pace = some 0 ∧ s.cfg.position < 63 ∧ s.pru.peers[0]? = some none ∧
        (∃ f ∈ s.cfg.filter, f.kindSet.getLsbD 0 = true ∧ BitVec.ofNat 8 250 &&& f.idMask = f.idValue &&& f.idMask) ∧
        s.tagInForce = false ∧ s.ocu.phase.ownOrder = false ∧ s.ocu.ground.ownOrder = false ∧ s.ocu.phase.hold = none ∧
        s.ocu.ground.hold = none ∧ 0 < (0#32 + BitVec.ofNat 32 s.cfg.holdTime - s.now).toNat) ∧
      ((1#8).getLsbD 3 = false ∧ (1#8).getLsbD 0 = true ∧ (8#8).getLsbD 3 = true ∧ (8#8).getLsbD 0 = false ∧
        (9#8).getLsbD 3 = true ∧ (9#8).getLsbD 0 = true) ∧
      (0#32 + BitVec.ofNat 32 base.cfg.holdTime - 1200#32).toNat = 0 ∧
      (holding.ocu.phase.hold.isSome = true ∧ base.cfg.holdTime < 65536) ∧ (tagged base).tagInForce = true ∧
      (∀ s ∈ [taking 0x22 [4, 15, 0, 9, 4, 0, 13, 0, 9], taking 0x23 [1, 1]],
        let u := { s with
          mfp := { s.mfp with stalled := false }
          ocu := { s.ocu with phase := { s.ocu.phase with hold := some ⟨250, 63, 0, 500⟩ } } }
        u.mfp.stalled = false ∧ (∀ e ∈ u.ocu.elems.toList, e.acc < 1048576) ∧ u.ocu.phase.hold.map (·.holder) = some 250 ∧
          (∃ f ∈ u.cfg.filter, f.kindSet.getLsbD 1 = true ∧ f.kindSet.getLsbD 2 = true ∧
            BitVec.ofNat 8 250 &&& f.idMask = f.idValue &&& f.idMask)) := by decide +kernel

/-- TAG and UNTAG of a pair not held, held, and in the overflow record; room and none; and BEACONs whose lists remove and enter,
repeat a code, and find no room beside an overflow record of another sender, or one of their own that a removal takes in. -/
theorem witness_PeerTags :
    (∀ s ∈ [taking 0x31 [0x51, 0x02], taking 0x32 [0x51, 0x02], taking 0x11 [7, 4, 2, 2, 0, 0, 0, 1, 0x51, 0x02]],
      s.started = true ∧ s.pru.pace = some 0 ∧ s.cfg.position < 63 ∧ s.pru.peers[0]? = some none ∧ s.tgu.tags = [] ∧
        s.tgu.overflow = none) ∧
      (let u := (tagged base).withTgu fun t =>
          { t with
            tags := (List.range 8).map fun k => { peerTag with code := BitVec.ofNat 16 k }
            overflow := some { peer := 250, code := 0x5102 } };
        8 ≤ u.tgu.tags.length ∧ (∀ e ∈ u.tgu.tags, e.source = .peer 250 → e.code ≠ 0x51#8 ++ 0x02#8) ∧
          u.tgu.overflow = some { peer := 250, code := 0x51#8 ++ 0x02#8 }) ∧
      (let u := base.withTgu fun t => { t with tags := [{ peerTag with source := .peer 250, code := 0x5102 }] };
        (∃ e ∈ u.tgu.tags, e.source = .peer 250 ∧ e.code = 0x51#8 ++ 0x02#8) ∧ u.tagInForce = true) ∧
      (let full := (List.range 8).map fun k => { peerTag with code := BitVec.ofNat 16 k }
        let freed := full.set 3 { peerTag with source := .peer 250, code := 3 }
        ([1#16, 2, 1].eraseDups = [1, 2] ∧ 8 - full.length = 0 ∧
            full.filter (fun e => e.source == .peer 250 && !([1#16, 2, 1].contains e.code)) = []) ∧
          freed.filter (fun e => e.source == .peer 250 && !([1#16, 2, 1].contains e.code)) ≠ []) ∧
      (([7, 4, 2, 2, 0, 0, 0, 1, 0x51, 0x02] : List Byte) =
          [7, 4, 2, 2, 0, 0, 0] ++ beBytes 1 [0x5102#16].length ++ ([0x5102#16].map fun c => beBytes 2 c.toNat).flatten) ∧
      (base.tagInForce = false ∧ base.ocu.phase.hold = none ∧ base.ocu.ground.hold = none) := by decide +kernel

/-- A decoder in SILENCE, all bits received, with a space of a given width running. -/
def silentAt (space : Nat) : State :=
  base.withTgu fun t => { t with decoder := .silence, bits := List.replicate 32 false, line := .space space }

/-- SILENCE is sound up to 999 units, where a mark still aborts the code, and not at 1000, where the code is complete. -/
theorem test_silence_bound :
    (silentAt 999).WandSound ∧ (after (.wandAbort [⟨true, 10⟩]) (silentAt 999)).tgu.decoder = .wait ∧
      (after (.crewCodeComplete [⟨false, 1⟩]) (silentAt 999)).tgu.decoder = .wait ∧ ¬ (silentAt 1000).WandSound :=
  ⟨(State.wandSound_iff _).2 ⟨List.length_replicate .., fun _ => by decide⟩, by decide +kernel, by decide +kernel,
    fun h => absurd (h.incomplete rfl 1000 (.inl rfl)) (by decide)⟩

/-- A step of a sound state, also in SILENCE at the last unit before the code is complete; the decoder's states in a mark, in a space
and in a mark not yet confirmed. -/
theorem witness_WandTable :
    (glitched.WandSound ∧ step { glitched with pending := [.wandAbort [⟨false, 121⟩]] } = .next (after (.wandAbort [⟨false, 121⟩]) glitched)) ∧
      ((silentAt 999).WandSound ∧ ∃ t, step { silentAt 999 with pending := [.wandMark [⟨true, 9⟩]] } = .next t) ∧
      (∀ d ∈ [Decoder.wait, .mark 31, .trailer],
        let s := base.withTgu fun t => { t with decoder := d, line := .mark 70 }
        s.started = true ∧ s.tgu.line = .mark 70 ∧ s.tgu.decoder = d) ∧
      ∀ d ∈ [Decoder.wait, .hspace, .space 31, .silence], ∀ line ∈ [WandLine.space 200, .rising 50 9],
        let s := base.withTgu fun t => { t with decoder := d, line := line }
        s.tgu.line = line ∧ s.tgu.decoder = d :=
  ⟨⟨(State.wandSound_iff _).2 (by
        have line : glitched.tgu.line = .rising 49 4 := by decide +kernel
        have place : glitched.tgu.decoder = .space 0 := by decide +kernel
        have bits : glitched.tgu.bits = [] := by decide +kernel
        simp [Tgu.standsWithLine, line, place, bits, Decoder.inSpace]), rfl⟩,
    ⟨test_silence_bound.1, _, rfl⟩, by decide +kernel, by decide +kernel⟩

/-- The bits that a code comes as (R145). -/
def codeBits (code : Word16) : List Bool := (List.range 32).map fun i => if i < 16 then code.getLsbD i else !code.getLsbD (i - 16)

/-- A decoder in SILENCE with the bits of a code received. -/
def silent (code : Word16) : State :=
  base.withTgu fun t => { t with decoder := .silence, bits := codeBits code }

/-- 8.1's example, bits 0 to 15 as the manual lists them, then their complement, 0xEDF8. -/
theorem witness_CrewCodeAndTone_bits :
    codeBits 0x1207 =
        [true, true, true, false, false, false, false, false, false, true, false, false, true, false, false, false] ++
          [false, false, false, true, true, true, true, true, true, false, true, true, false, true, true, true] ∧
      codeBits 0 = List.replicate 16 false ++ List.replicate 16 true := by decide +kernel

theorem witness_CrewCodeAndTone :
    ((silent 0x1207).started = true ∧ (silent 0x1207).tgu.decoder = .silence ∧ (silent 0x1207).tgu.line = .space 0 ∧
        (silent 0x1207).tgu.bits.length = 32 ∧ 1000 ≤ 0 + 0 + 1000) ∧
      (base.cfg.crewCodes[0]? = some 0x1207#16 ∧ base.cfg.crewSlot 0x1300 = none) ∧
      ((List.replicate 32 false).getD 16 false = (List.replicate 32 false).getD 0 false) ∧
      (let s := base.withTgu fun t =>
          { t with window := some { code := 0x1207, slot := 0, left := 0 }, tonePhase := some 0, errorTone := some 0 };
        s.tgu.window.isSome = true ∧ s.tgu.tonePhase = some 0 ∧ s.tgu.errorTone = some 0) := by decide +kernel

/-- A station with a crew window open for 0x1207. -/
def windowOpen (tags : List TagEntry) : State :=
  held .tagOnKey true <| held .tagOffKey true <| base.withTgu fun t => { t with window := some { code := 0x1207, slot := 0, left := 500 }, tags := tags }

/-- A local entry of the panel. -/
def panelTag (code : Word16) : TagEntry := { source := .localPanel, code := code, applied := 0, slot := some 0 }

theorem witness_TagKeys :
    (let s := held .tagOnKey true (held .tagOffKey true base);
      s.started = true ∧ s.tgu.window = none ∧ s.tgu.keys.tagOn = false ∧ s.tgu.keys.tagOff = false ∧ s.Held .tagOnKey true ∧
        s.Held .tagOffKey true) ∧
      (let s := held .tagOnKey false (held .tagOffKey false (allPressed base));
        s.tgu.keys.tagOn = true ∧ s.tgu.keys.tagOff = true ∧ s.Held .tagOnKey false ∧ s.Held .tagOffKey false) ∧
      (∀ tags ∈ [[], [peerTag], [panelTag 0x1207], [panelTag 1, panelTag 2, panelTag 3, panelTag 4]],
        (windowOpen tags).started = true ∧ (windowOpen tags).tgu.window.isSome = true ∧
          (windowOpen tags).tgu.keys.tagOn = false ∧ (windowOpen tags).tgu.keys.tagOff = false ∧
          (windowOpen tags).Held .tagOnKey true ∧ (windowOpen tags).Held .tagOffKey true) ∧
      (windowOpen [peerTag]).tagInForce = true ∧ removedEntry [] .localPanel .service 0x1207 = none ∧
      removedEntry [panelTag 0x1207] .localPanel .service 0x1207 = some (panelTag 0x1207) := by
  unfold State.Held; decide +kernel

theorem witness_TagRequests :
    (base.started = true ∧ base.svp.service = .listen ∧ base.cfg.crewSlot 0x1300 = none ∧ base.cfg.crewSlot 0x1208 = some 1) ∧
      (∃ e ∈ [({ panelTag 0x1208 with source := .service } : TagEntry)], e.source = .service ∧ e.code = 0x1208) ∧
      4 ≤ ([panelTag 1, panelTag 2, panelTag 3, panelTag 4].filter fun e => e.source.isLocal).length ∧
      (base.tagInForce = false ∧ base.ocu.phase.hold = none ∧ base.ocu.ground.hold = none) ∧
      (inSeq .recloseWait 1 none none).sqc.seq = .recloseWait ∧ (tagged base).tagInForce = true ∧
      removedEntry [] .service .localPanel 0x1208 = none ∧
      removedEntry [panelTag 0x1208] .service .localPanel 0x1208 = some (panelTag 0x1208) := by decide +kernel

/-- Acknowledged and not, before the last byte, in the 20 ms after it and at their end. -/
theorem witness_TagStoreWriteEnds :
    (∀ waits ∈ [false, true], ∀ again ∈ [false, true], ∀ left ∈ [0, 20, 21],
      let s := (base.withSvp fun v => { v with link := .write, linkTimer := some left, readWaits := waits }).withTgu fun t =>
        { t with writing := true, writeAgain := again }
      s.started = true ∧ s.svp.link = .write ∧ s.svp.linkTimer = some left ∧ s.svp.readWaits = waits ∧
        s.tgu.writeAgain = again) ∧
      base.svp.linkTimer ≠ some 0 ∧
      ([panelTag 1, panelTag 2, panelTag 3, panelTag 4].filter fun e => e.source.isLocal).length ≤ 4 ∧
      (∀ e ∈ [panelTag 1, panelTag 2, panelTag 3, panelTag 4], e.code = 0 ↔ e.source = .store) ∧
      ([panelTag 1, panelTag 2, panelTag 3, panelTag 4].map fun e => (e.source, e.code)).Nodup := by decide +kernel

theorem witness_ReadsAnswer :
    base.started = true ∧ base.svp.service = .listen ∧
      (busy.rcs.ring[0]?.map (·.number) = some 0 ∧ busy.rcs.next = 1 ∧ ∀ r ∈ busy.rcs.ring, r.number ≠ 7) ∧
      (base.btu.reserve ≠ .disconnect ∧ (base.withBtu fun b => { b with reserve := .disconnect }).btu.reserve = .disconnect) ∧
      ∀ l ∈ [LinkState.read, .image, .write], (base.withSvp fun v => { v with link := l }).svp.link = l := by decide +kernel

theorem witness_PortAssembly :
    (∀ v ∈ [ServiceState.answering, .restarting], (base.withSvp fun x => { x with service := v }).svp.service ≠ .listen ∧
        (base.withSvp fun x => { x with service := v }).started = true) ∧
      (∀ r ∈ [SvcRx.hunt, .length, .body],
        let s := base.withSvp fun v => { v with rx := r, buffer := [0x5A, 2], gap := some 0 }
        s.started = true ∧ s.svp.service = .listen ∧ s.svp.rx = r ∧ s.svp.gap = some 0) ∧
      (([0x5A#8, 2, 1].length ≠ 2 + ([0x5A#8, 2, 1].getD 1 0).toNat) ∧
        [0x5A#8, 2, 1, 0].length = 2 + ([0x5A#8, 2, 1, 0].getD 1 0).toNat ∧ byteSum [0x5A#8, 2, 1, 0] % 256 ≠ 0) ∧
      ∀ r : Request, r.code = 0x7F → r.payload ≠ [] := by
  refine ⟨by decide +kernel, by decide +kernel, by decide +kernel, ?_⟩
  intro r h
  cases r <;> simp [Request.code] at h

/-- The image of `cfg1` is accepted. -/
theorem image_accepted : judgeImage (.complete (encodeImage cfg1)) = .ok cfg1 := by
  have h : (match judgeImage (.complete (encodeImage cfg1)) with | .ok st => decide (st = cfg1) | .error _ => false) = true := by
    decide +kernel
  revert h
  cases judgeImage (.complete (encodeImage cfg1)) with
  | ok st => intro h; rw [of_decide_eq_true h]
  | error e => intro h; cases h

/-- Refused and taken, the link free and held; the read complete, before 0x5C and after it, incomplete before its 20 ms and at
their end; applied and refused at the end; an image accepted and refused. -/
theorem witness_SettingsRestarts :
    (locked.started = true ∧ locked.svp.service = .listen ∧ locked.sqc.seq = .lockout ∧ locked.cdu.pulse = .none ∧
        locked.quietTest ∧ base.sqc.seq ≠ .lockout) ∧
      (∀ l ∈ [(LinkState.read, some 0), (.read, some 20), (.image, none), (.write, some 20)],
        let s := locked.withSvp fun v => { v with service := .restarting, link := l.1, linkTimer := l.2 }
        s.started = true ∧ s.svp.service = .restarting ∧ s.svp.link = l.1 ∧ s.svp.linkTimer = l.2 ∧ s.quietTest) ∧
      (MemRead.complete (encodeImage cfg1) ≠ .incomplete ∧ judgeImage .incomplete = .error .sum ∧
        judgeImage (.complete (encodeImage cfg1)) = .ok cfg1) ∧
      ((locked.withBtu fun b => { b with test := .settle }).btu.test = .settle ∧
        (locked.withCdu fun c => { c with pulse := .trip }).cdu.pulse ≠ .none) :=
  ⟨by unfold State.quietTest; decide +kernel, by unfold State.quietTest; decide +kernel,
    ⟨(fun h => by cases h), rfl, image_accepted⟩, by decide +kernel⟩

theorem witness_ColdStart :
    (judgeImage .incomplete = .error .sum ∧ judgeImage (.complete (encodeImage cfg1)) = .ok cfg1) ∧
      (judgeStore .incomplete = none ∧ judgeStore (.complete (List.replicate 15 0)) = some []) ∧
      (Brings none (linkBits (phaseA 399)) (phaseA 399) ∧ FrameIsGood (phaseA 399)) ∧
      (∀ f ∈ [((measFields (phaseA 399)).ia, cfg1.pickupPh), ((measFields (phaseA 399)).ib, cfg1.pickupPh),
        ((measFields (phaseA 399)).ic, cfg1.pickupPh), ((measFields (phaseA 399)).ig, cfg1.pickupGd)], f.1 * 256 / f.2 < 256) :=
  ⟨⟨rfl, image_accepted⟩, ⟨rfl, by decide +kernel⟩, good_frame_brought _ (by decide +kernel), by decide +kernel⟩

end Sys2Proof.Machine.Tests
end

section
/-! SUPPORT. What the hand-offs between the blocks leave of the station: one relation between the state before and the state after,
and the block updates and shared operations that keep it. -/

namespace Sys2Proof.Machine

/-! ### What a hand-off keeps -/

/-- What the part has read of its lines, with the settings in force: no hand-off between the blocks changes any of it. -/
structure Readings where
  now : Word32
  mfp : Mfp
  inputs : Inputs
  elems : PerElem Element
  source : Bool
  tripV : Nat
  closeV : Nat
  closedMade : Bool
  openMade : Bool
  battV : Nat
  battI : Int
  temperature : Int
  acPresent : Bool
  queue : List RxRecord
  framesAccepted : Nat
  checkFailures : Nat
  receiveAborts : Nat
  receiveOverruns : Nat
  pace : Timer
  keys : Keys
  handleDown : Bool
  settings : Settings

def State.readings (s : State) : Readings where
  now := s.now
  mfp := s.mfp
  inputs := s.inputs
  elems := s.ocu.elems
  source := s.sqc.sourcePresent
  tripV := s.cdu.tripV
  closeV := s.cdu.closeV
  closedMade := s.cdu.closedMade
  openMade := s.cdu.openMade
  battV := s.btu.battV
  battI := s.btu.battI
  temperature := s.btu.temperature
  acPresent := s.btu.acPresent
  queue := s.chc.queue
  framesAccepted := s.chc.framesAccepted
  checkFailures := s.chc.checkFailures
  receiveAborts := s.chc.receiveAborts
  receiveOverruns := s.chc.receiveOverruns
  pace := s.pru.pace
  keys := s.tgu.keys
  handleDown := s.tgu.handleDown
  settings := s.svp.settings

/-- What the BTU holds of the battery test and of the charger mode (4.4). -/
structure TestPart where
  test : TestState
  sources : TestSources
  settle : Timer
  load : Timer
  lastResult : Option TestResult
  lastResistance : Option Nat
  failed : Bool
  schedule : Timer
  charger : Charger
  resumeBoost : Bool

def Btu.testPart (b : Btu) : TestPart where
  test := b.test
  sources := b.sources
  settle := b.settle
  load := b.load
  lastResult := b.lastResult
  lastResistance := b.lastResistance
  failed := b.failed
  schedule := b.schedule
  charger := b.charger
  resumeBoost := b.resumeBoost

/-- The counters that hand-offs raise, each saturating at its limit (R93, R109, R123 to R125). -/
structure State.CountsUpTo (s t : State) : Prop where
  lost : t.chc.reportsLost ≤ max 255 s.chc.reportsLost
  sent : t.chc.framesSent ≤ max 65535 s.chc.framesSent
  failed : t.chc.attemptsFailed ≤ max 65535 s.chc.attemptsFailed
  refused : t.pru.reportsRefused ≤ max 65535 s.pru.reportsRefused
  duplicates : t.pru.duplicates ≤ max 65535 s.pru.duplicates
  unentered : t.pru.framesUnentered ≤ max 65535 s.pru.framesUnentered

/-- The 20 ms of the memory link run exactly while it carries a write or a read that waits (R160, R175). -/
def Svp.linkSound (v : Svp) : Prop := v.linkTimer.isSome = (v.link == .write || v.link == .read)

/-- Hand-offs between the blocks lead from one state to another. `draws` tells whether the reserve state may have changed on the
way, and with it a beacon delay been drawn (R119); without it the LFSR moves only where a backoff count was held (R96). A test that
does not run is left as it is (R82), a running one stays sound, and the records made are all new ones (R163). -/
structure State.Reaches (draws : Bool) (s t : State) : Prop where
  readings : t.readings = s.readings
  counts : s.CountsUpTo t
  lfsr : s.chc.lfsr ≠ 0 → t.chc.lfsr ≠ 0
  undrawn : draws = false → s.chc.backoff = none → t.chc.backoff = none ∧ t.chc.lfsr = s.chc.lfsr
  reserve : draws = false → t.btu.reserve = s.btu.reserve
  link : s.svp.linkSound → t.svp.linkSound
  test : s.TestSound → t.TestSound
  quiet : s.quietTest → t.btu.testPart = s.btu.testPart
  records : ∃ after, t.rcs = s.withRecords after

/-! ### The counters -/

theorem State.CountsUpTo.refl (s : State) : s.CountsUpTo s := by constructor <;> exact Nat.le_max_right _ _

/-- A count that has risen twice, each time to the limit at the most. -/
theorem le_max_trans {limit a b c : Nat} (h : b ≤ max limit a) (k : c ≤ max limit b) : c ≤ max limit a :=
  k.trans (max_le (Nat.le_max_left _ _) h)

theorem State.CountsUpTo.trans {s t u : State} (h : s.CountsUpTo t) (k : t.CountsUpTo u) : s.CountsUpTo u where
  lost := le_max_trans h.lost k.lost
  sent := le_max_trans h.sent k.sent
  failed := le_max_trans h.failed k.failed
  refused := le_max_trans h.refused k.refused
  duplicates := le_max_trans h.duplicates k.duplicates
  unentered := le_max_trans h.unentered k.unentered

/-- Counters that stand as they stood. -/
theorem State.CountsUpTo.of_eq {s t : State}
    (chc : (t.chc.reportsLost, t.chc.framesSent, t.chc.attemptsFailed) =
      (s.chc.reportsLost, s.chc.framesSent, s.chc.attemptsFailed))
    (pru : (t.pru.reportsRefused, t.pru.duplicates, t.pru.framesUnentered) =
      (s.pru.reportsRefused, s.pru.duplicates, s.pru.framesUnentered)) : s.CountsUpTo t := by
  simp only [Prod.mk.injEq] at chc pru
  obtain ⟨lost, sent, failed⟩ := chc
  obtain ⟨refused, duplicates, unentered⟩ := pru
  constructor
  · exact lost ▸ Nat.le_max_right _ _
  · exact sent ▸ Nat.le_max_right _ _
  · exact failed ▸ Nat.le_max_right _ _
  · exact refused ▸ Nat.le_max_right _ _
  · exact duplicates ▸ Nat.le_max_right _ _
  · exact unentered ▸ Nat.le_max_right _ _

/-! ### Some records after others -/

theorem State.withRecords_append (s t : State) (now : t.now = s.now) (first later : List RecordBody)
    (h : t.rcs = s.withRecords first) : t.withRecords later = s.withRecords (first ++ later) := by
  simp [State.withRecords, now, h]

/-- The ring of an operation that writes one record. -/
theorem State.record_rcs (s : State) (body : RecordBody) : (s.record body).rcs = s.withRecords [body] := rfl

/-! ### A sound test -/

/-- What the soundness of a test looks at. -/
def State.testView (s : State) : TestState × Timer × Timer × SeqState × PerElem Element :=
  (s.btu.test, s.btu.settle, s.btu.load, s.sqc.seq, s.ocu.elems)

theorem State.TestSound.of_view {s t : State} (view : t.testView = s.testView) (h : s.TestSound) : t.TestSound := by
  simp only [State.testView, Prod.mk.injEq] at view
  obtain ⟨test, settle, load, seq, elems⟩ := view
  obtain ⟨running, settling, loading⟩ := h
  exact ⟨by rw [test, seq, elems]; exact running, by rw [settle, test]; exact settling, by rw [load, test]; exact loading⟩

/-- A sound test that does not run has no timer running. -/
theorem State.TestSound.timers_idle {s : State} (h : s.TestSound) (quiet : s.quietTest) :
    s.btu.settle = none ∧ s.btu.load = none := by
  obtain ⟨-, settling, loading⟩ := h
  constructor
  · cases hs : s.btu.settle with
    | none => rfl
    | some n => rcases quiet with q | q <;> simp [hs, q] at settling
  · cases hs : s.btu.load with
    | none => rfl
    | some n => rcases quiet with q | q <;> simp [hs, q] at loading

/-- A test that does not run, its timers idle, is sound in any sequence state. -/
theorem State.TestSound.of_quiet {s : State} (quiet : s.quietTest) (settle : s.btu.settle = none) (load : s.btu.load = none) :
    s.TestSound :=
  ⟨fun running => by rcases quiet with q | q <;> simp [q] at running, by simp [settle], by simp [load]⟩

theorem State.quietTest_or_running (s : State) : s.quietTest ∨ s.btu.test = .settle ∨ s.btu.test = .loaded := by
  unfold State.quietTest
  cases s.btu.test <;> simp

theorem State.quietTest.of_eq {s t : State} (h : s.quietTest) (e : t.btu.testPart = s.btu.testPart) : t.quietTest := by
  have test : t.btu.test = s.btu.test := congrArg TestPart.test e
  rwa [State.quietTest, test]

/-! ### The relation -/

namespace State.Reaches

variable {d : Bool} {r s t u : State}

@[refl] theorem refl (s : State) : s.Reaches d s where
  readings := rfl
  counts := .refl s
  lfsr := id
  undrawn _ h := ⟨h, rfl⟩
  reserve _ := rfl
  link := id
  test := id
  quiet _ := rfl
  records := ⟨[], rfl⟩

theorem trans (h : r.Reaches d s) (k : s.Reaches d t) : r.Reaches d t where
  readings := k.readings.trans h.readings
  counts := h.counts.trans k.counts
  lfsr := k.lfsr ∘ h.lfsr
  undrawn hd hb := by
    obtain ⟨b, l⟩ := h.undrawn hd hb
    obtain ⟨b', l'⟩ := k.undrawn hd b
    exact ⟨b', l'.trans l⟩
  reserve hd := (k.reserve hd).trans (h.reserve hd)
  link := k.link ∘ h.link
  test := k.test ∘ h.test
  quiet q := (k.quiet (q.of_eq (h.quiet q))).trans (h.quiet q)
  records := by
    obtain ⟨first, hf⟩ := h.records
    obtain ⟨later, hl⟩ := k.records
    exact ⟨first ++ later, hl.trans (withRecords_append r s (congrArg Readings.now h.readings) first later hf)⟩

/-- Hand-offs that draw nothing may also be taken for ones that may draw. -/
theorem mayDraw (h : s.Reaches d t) : s.Reaches true t :=
  { h with undrawn := nofun, reserve := nofun }

theorem now (h : s.Reaches d t) : t.now = s.now := congrArg Readings.now h.readings
theorem mfp (h : s.Reaches d t) : t.mfp = s.mfp := congrArg Readings.mfp h.readings
theorem inputs (h : s.Reaches d t) : t.inputs = s.inputs := congrArg Readings.inputs h.readings
theorem elems (h : s.Reaches d t) : t.ocu.elems = s.ocu.elems := congrArg Readings.elems h.readings
theorem source (h : s.Reaches d t) : t.sqc.sourcePresent = s.sqc.sourcePresent := congrArg Readings.source h.readings
theorem settings (h : s.Reaches d t) : t.svp.settings = s.svp.settings := congrArg Readings.settings h.readings
theorem queue (h : s.Reaches d t) : t.chc.queue = s.chc.queue := congrArg Readings.queue h.readings
theorem pace (h : s.Reaches d t) : t.pru.pace = s.pru.pace := congrArg Readings.pace h.readings
theorem acPresent (h : s.Reaches d t) : t.btu.acPresent = s.btu.acPresent := congrArg Readings.acPresent h.readings

theorem quietTest (h : s.Reaches d t) (q : s.quietTest) : t.quietTest := q.of_eq (h.quiet q)

/-! ### Block updates -/

/-- An update that touches nothing of what the relation follows. -/
theorem of_untouched (readings : t.readings = s.readings) (view : t.testView = s.testView)
    (chc : (t.chc.reportsLost, t.chc.framesSent, t.chc.attemptsFailed, t.chc.lfsr, t.chc.backoff) =
      (s.chc.reportsLost, s.chc.framesSent, s.chc.attemptsFailed, s.chc.lfsr, s.chc.backoff))
    (pru : (t.pru.reportsRefused, t.pru.duplicates, t.pru.framesUnentered) =
      (s.pru.reportsRefused, s.pru.duplicates, s.pru.framesUnentered))
    (btu : t.btu.testPart = s.btu.testPart) (reserve : t.btu.reserve = s.btu.reserve) (rcs : t.rcs = s.rcs)
    (link : (t.svp.link, t.svp.linkTimer) = (s.svp.link, s.svp.linkTimer)) : s.Reaches d t := by
  simp only [Prod.mk.injEq] at chc link
  obtain ⟨lost, sent, failed, lfsr, backoff⟩ := chc
  exact
    { readings := readings
      counts := .of_eq (by rw [lost, sent, failed]) pru
      lfsr := by rw [lfsr]; exact id
      undrawn := fun _ h => ⟨backoff.trans h, lfsr⟩
      reserve := fun _ => reserve
      link := by rw [Svp.linkSound, Svp.linkSound, link.1, link.2]; exact id
      test := TestSound.of_view view
      quiet := fun _ => btu
      records := ⟨[], rcs⟩ }

variable (h : r.Reaches d s)

include h

theorem withOcu {f : Ocu → Ocu} (elems : (f s.ocu).elems = s.ocu.elems) : r.Reaches d (s.withOcu f) :=
  h.trans (of_untouched (by simp [State.readings, elems]) (by simp [State.testView, elems]) rfl rfl rfl rfl rfl rfl)

theorem withSqc {f : Sqc → Sqc} (seq : (f s.sqc).seq = s.sqc.seq)
    (source : (f s.sqc).sourcePresent = s.sqc.sourcePresent) : r.Reaches d (s.withSqc f) :=
  h.trans (of_untouched (by simp [State.readings, source]) (by simp [State.testView, seq]) rfl rfl rfl rfl rfl rfl)

theorem withCdu {f : Cdu → Cdu} (same : (s.withCdu f).readings = s.readings) : r.Reaches d (s.withCdu f) :=
  h.trans (of_untouched same rfl rfl rfl rfl rfl rfl rfl)

theorem withBtu {f : Btu → Btu} (same : (s.withBtu f).readings = s.readings)
    (part : (f s.btu).testPart = s.btu.testPart) (reserve : (f s.btu).reserve = s.btu.reserve) : r.Reaches d (s.withBtu f) :=
  h.trans (of_untouched same
    (show ((f s.btu).testPart.test, (f s.btu).testPart.settle, (f s.btu).testPart.load, s.sqc.seq, s.ocu.elems) = s.testView by
      rw [part]; rfl)
    rfl rfl part reserve rfl rfl)

/-- An update of the CHC that leaves the counters of reports, the LFSR and the backoff. -/
theorem withChc {f : Chc → Chc} (same : (s.withChc f).readings = s.readings)
    (counters : ((f s.chc).reportsLost, (f s.chc).framesSent, (f s.chc).attemptsFailed, (f s.chc).lfsr, (f s.chc).backoff) =
      (s.chc.reportsLost, s.chc.framesSent, s.chc.attemptsFailed, s.chc.lfsr, s.chc.backoff)) :
    r.Reaches d (s.withChc f) :=
  h.trans (of_untouched same rfl counters rfl rfl rfl rfl rfl)

/-- An update of the CHC that counts or draws. -/
theorem withChc_counting {f : Chc → Chc} (same : (s.withChc f).readings = s.readings)
    (lost : (f s.chc).reportsLost ≤ max 255 s.chc.reportsLost) (sent : (f s.chc).framesSent ≤ max 65535 s.chc.framesSent)
    (failed : (f s.chc).attemptsFailed ≤ max 65535 s.chc.attemptsFailed) (lfsr : s.chc.lfsr ≠ 0 → (f s.chc).lfsr ≠ 0)
    (undrawn : d = false → s.chc.backoff = none → (f s.chc).backoff = none ∧ (f s.chc).lfsr = s.chc.lfsr) :
    r.Reaches d (s.withChc f) :=
  h.trans
    { readings := same
      counts := ⟨lost, sent, failed, Nat.le_max_right _ _, Nat.le_max_right _ _, Nat.le_max_right _ _⟩
      lfsr := lfsr
      undrawn := undrawn
      reserve := fun _ => rfl
      link := id
      test := TestSound.of_view rfl
      quiet := fun _ => rfl
      records := ⟨[], rfl⟩ }

theorem withPru {f : Pru → Pru} (same : (s.withPru f).readings = s.readings)
    (counters : ((f s.pru).reportsRefused, (f s.pru).duplicates, (f s.pru).framesUnentered) =
      (s.pru.reportsRefused, s.pru.duplicates, s.pru.framesUnentered)) : r.Reaches d (s.withPru f) :=
  h.trans (of_untouched same rfl rfl counters rfl rfl rfl rfl)

/-- An update of the PRU that counts a record taken (R123 to R125). -/
theorem withPru_counting {f : Pru → Pru} (same : (s.withPru f).readings = s.readings)
    (refused : (f s.pru).reportsRefused ≤ max 65535 s.pru.reportsRefused)
    (duplicates : (f s.pru).duplicates ≤ max 65535 s.pru.duplicates)
    (unentered : (f s.pru).framesUnentered ≤ max 65535 s.pru.framesUnentered) : r.Reaches d (s.withPru f) :=
  h.trans
    { readings := same
      counts := ⟨Nat.le_max_right _ _, Nat.le_max_right _ _, Nat.le_max_right _ _, refused, duplicates, unentered⟩
      lfsr := id
      undrawn := fun _ hb => ⟨hb, rfl⟩
      reserve := fun _ => rfl
      link := id
      test := TestSound.of_view rfl
      quiet := fun _ => rfl
      records := ⟨[], rfl⟩ }

theorem withTgu {f : Tgu → Tgu} (keys : (f s.tgu).keys = s.tgu.keys) (handle : (f s.tgu).handleDown = s.tgu.handleDown) :
    r.Reaches d (s.withTgu f) :=
  h.trans (of_untouched (by simp [State.readings, keys, handle]) rfl rfl rfl rfl rfl rfl rfl)

/-- An update of the SVP that keeps the settings in force, and the memory link sound. -/
theorem withSvp {f : Svp → Svp} (settings : (f s.svp).settings = s.svp.settings)
    (link : s.svp.linkSound → (f s.svp).linkSound) : r.Reaches d (s.withSvp f) :=
  h.trans
    { readings := by simp [State.readings, settings]
      counts := .of_eq rfl rfl
      lfsr := id
      undrawn := fun _ hb => ⟨hb, rfl⟩
      reserve := fun _ => rfl
      link := link
      test := TestSound.of_view rfl
      quiet := fun _ => rfl
      records := ⟨[], rfl⟩ }

/-! ### Shared operations -/

theorem record (body : RecordBody) : r.Reaches d (s.record body) :=
  h.trans
    { readings := rfl
      counts := .of_eq rfl rfl
      lfsr := id
      undrawn := fun _ hb => ⟨hb, rfl⟩
      reserve := fun _ => rfl
      link := id
      test := TestSound.of_view rfl
      quiet := fun _ => rfl
      records := ⟨[body], rfl⟩ }

/-- An effect under a condition. -/
theorem onlyIf {c : Bool} {f : State → State} (hf : c = true → r.Reaches d (f s)) : r.Reaches d (s.onlyIf c f) := by
  cases c with
  | false => exact h
  | true => exact hf rfl

end State.Reaches

end Sys2Proof.Machine
end

section
/-! SUPPORT. The operations of the channel, the reports, the battery test and the coils as hand-offs. -/

namespace Sys2Proof.Machine

/-- An advance never empties the LFSR (R89). -/
theorem lfsrAdvance_ne_zero {r : Word16} (h : r ≠ 0) : lfsrAdvance r ≠ 0 := by
  unfold lfsrAdvance
  split
  · next low =>
    intro zero
    have top := congrArg (·.getLsbD 15) zero
    simp at top
  · next low =>
    intro zero
    apply h
    refine BitVec.eq_of_getLsbD_eq fun i hi => ?_
    cases i with
    | zero => simpa using low
    | succ k =>
      have next := congrArg (·.getLsbD k) zero
      simpa [Nat.add_comm] using next

theorem le_max_count8 (n : Nat) : count8 n ≤ max 255 n := (count8_le n).trans (Nat.le_max_left _ _)
theorem le_max_count16 (n : Nat) : count16 n ≤ max 65535 n := (count16_le n).trans (Nat.le_max_left _ _)

namespace State.Reaches

section

variable {d : Bool} {r s : State} (h : r.Reaches d s)

include h

/-! ### The transmit side (R90 to R101) -/

theorem enterDefer : r.Reaches d s.enterDefer := h.withChc rfl rfl

theorem enterIdle : r.Reaches d s.enterIdle :=
  h.withChc_counting rfl (Nat.le_max_right _ _) (Nat.le_max_right _ _) (Nat.le_max_right _ _) id fun _ _ => ⟨rfl, rfl⟩

theorem deferOrIdle : r.Reaches d s.deferOrIdle := by
  unfold State.deferOrIdle
  split
  · exact h.enterDefer
  · exact h.enterIdle

/-- A redraw moves the LFSR only where a backoff count is held (R96). -/
theorem redraw (e : TxEntry) : r.Reaches d (s.redraw e) := by
  unfold State.redraw
  split
  · next b held =>
    split
    · exact h.withChc_counting (f := fun c =>
          { c with lfsr := lfsrAdvance c.lfsr, backoff := some { count := min b.count (s.drawn % 4), window := 4 } }) rfl
        (Nat.le_max_right _ _) (Nat.le_max_right _ _) (Nat.le_max_right _ _) lfsrAdvance_ne_zero
        fun _ none => by simp [held] at none
    · exact h
  · exact h

theorem settleTransmitter : r.Reaches d s.settleTransmitter := by
  unfold State.settleTransmitter
  split
  · exact h.enterDefer
  · exact h.enterIdle
  · exact h.enterIdle
  · exact h.redraw _
  · exact h.redraw _
  · exact h

theorem judgeBusy : r.Reaches d s.judgeBusy := by
  unfold State.judgeBusy
  split
  · exact h.enterDefer
  · exact h

theorem loseReport : r.Reaches d s.loseReport :=
  h.withChc_counting rfl (le_max_count8 _) (Nat.le_max_right _ _) (Nat.le_max_right _ _) id fun _ hb => ⟨hb, rfl⟩

theorem joinQueue (e : TxEntry) : r.Reaches d (s.joinQueue e) := by
  unfold State.joinQueue
  split <;> exact h.withChc rfl rfl

theorem takeReport (kind : ReportKind) (seq : Byte) (payload : List Byte) : r.Reaches d (s.takeReport kind seq payload) := by
  unfold State.takeReport
  repeat' split
  · exact h
  · exact h.withChc rfl rfl
  · exact h
  · exact (h.joinQueue _).settleTransmitter
  · exact (((h.withChc rfl rfl).loseReport).joinQueue _).settleTransmitter
  · exact h.loseReport

theorem dropStatus : r.Reaches d s.dropStatus :=
  settleTransmitter (h.withChc_counting rfl ((satAdd_le _ _ _).trans (Nat.le_max_left _ _)) (Nat.le_max_right _ _)
    (Nat.le_max_right _ _) id fun _ hb => ⟨hb, rfl⟩)

theorem dropInService : r.Reaches d s.dropInService := h.withChc rfl rfl

theorem changeInService (f : TxEntry → TxEntry) : r.Reaches d (s.changeInService f) := h.withChc rfl rfl

theorem failAttempt (cause : AttemptCause) : r.Reaches d (s.failAttempt cause) := by
  have counted : r.Reaches d (s.withChc fun c => { c with attemptsFailed := count16 c.attemptsFailed }) :=
    h.withChc_counting rfl (Nat.le_max_right _ _) (Nat.le_max_right _ _) (le_max_count16 _) id fun _ hb => ⟨hb, rfl⟩
  unfold State.failAttempt
  split
  · exact h
  · simp only
    repeat' split
    · exact counted.dropInService.loseReport.record _
    · exact counted.dropInService.loseReport
    · exact counted.changeInService _

theorem countCopy : r.Reaches d s.countCopy := by
  have counted : r.Reaches d (s.dropInService.withChc fun c => { c with framesSent := count16 c.framesSent }) :=
    h.dropInService.withChc_counting rfl (Nat.le_max_right _ _) (le_max_count16 _) (Nat.le_max_right _ _) id
      fun _ hb => ⟨hb, rfl⟩
  unfold State.countCopy
  split
  · exact h
  · simp only
    split
    · exact counted
    · exact counted.joinQueue _

theorem enterKeyDown : r.Reaches d s.enterKeyDown := h.withChc rfl rfl

theorem releaseKey : r.Reaches d s.releaseKey := h.withChc rfl rfl

theorem channelReset : r.Reaches d s.channelReset :=
  ((h.dropInService.loseReport.releaseKey.record _).enterIdle).settleTransmitter

theorem enterSending : r.Reaches d s.enterSending := by
  unfold State.enterSending
  split
  · exact h.releaseKey.deferOrIdle
  · exact h.withChc rfl rfl

theorem enterKeyUp : r.Reaches d s.enterKeyUp := by
  unfold State.enterKeyUp
  split
  · exact h.enterIdle
  · exact h.withChc_counting rfl (Nat.le_max_right _ _) (Nat.le_max_right _ _) (Nat.le_max_right _ _) id
      fun _ _ => ⟨rfl, rfl⟩

theorem seeReady : r.Reaches d s.seeReady := by
  have seen : r.Reaches d (s.withChc fun c => { c with rrdy := true }) := h.withChc rfl rfl
  exact seen.onlyIf fun _ => seen.enterSending

theorem dropReady (sent : Nat) (back : Bool) : r.Reaches d (s.dropReady sent back) := by
  have tested : r.Reaches d (s.withChc fun c => { c with rrdy := back }) := h.withChc rfl rfl
  unfold State.dropReady State.onlyIf
  simp only
  split
  · exact tested.withChc rfl rfl
  · exact tested

theorem readyFails : r.Reaches d s.readyFails := ((h.failAttempt _).releaseKey).deferOrIdle

theorem endAbort : r.Reaches d s.endAbort := (h.failAttempt _).enterKeyDown

theorem endKeyDown : r.Reaches d s.endKeyDown := h.releaseKey.deferOrIdle

/-! ### Reports (R112 to R120) -/

theorem buildReport (kind : ReportKind) (payload : List Byte) : r.Reaches d (s.buildReport kind payload) :=
  (h.withPru rfl rfl).takeReport kind _ payload

theorem buildPickup (elements : ElementSet) (largest : Nat) : r.Reaches d (s.buildPickup elements largest) :=
  h.onlyIf fun _ => h.buildReport _ _

theorem buildTrip (t : CurrentTrip) (failed : Bool) : r.Reaches d (s.buildTrip t failed) := h.buildReport _ _

theorem buildClear (elements : ElementSet) (stepped : Bool) : r.Reaches d (s.buildClear elements stepped) :=
  h.buildReport _ _

theorem buildLockout (reason : LockReason) : r.Reaches d (s.buildLockout reason) := h.buildReport _ _

theorem buildTag (code : Word16) : r.Reaches d (s.buildTag code) := h.buildReport _ _

theorem buildUntag (code : Word16) : r.Reaches d (s.buildUntag code) := h.buildReport _ _

theorem buildShutdown : r.Reaches d s.buildShutdown := h.buildReport _ _

theorem buildBeacon : r.Reaches d s.buildBeacon := h.buildReport _ _

theorem stopBeacon : r.Reaches d s.stopBeacon := h.withPru rfl rfl

theorem reloadBeacon : r.Reaches d s.reloadBeacon := h.withPru rfl rfl

theorem expireBeacon : r.Reaches d s.expireBeacon := h.buildBeacon.reloadBeacon

theorem respanBeacon : r.Reaches d s.respanBeacon := by
  unfold State.respanBeacon
  split
  · next t i _ _ =>
    split
    · exact h
    · have spanned : r.Reaches d (s.withPru fun p => { p with beacon := some { t with span := i } }) := h.withPru rfl rfl
      exact spanned.onlyIf fun _ => spanned.expireBeacon
  · exact h

/-! ### The battery and the coils (R50 to R61, R69, R82) -/

/-- Out of CRITICAL alone a change of the reserve state draws a beacon delay (R119, R120). -/
theorem followReserve_undrawn {old : Reserve} (from_ : old ≠ .critical) : r.Reaches d (s.followReserve old) := by
  unfold State.followReserve
  split
  · exact h.stopBeacon
  · split
    · exact h.stopBeacon
    · exact h.stopBeacon
    · rw [if_neg (by simpa using from_)]
      exact h.respanBeacon
    · rw [if_neg (by simpa using from_)]
      exact h.respanBeacon

theorem sendSetpoint : r.Reaches d s.sendSetpoint := h.onlyIf fun _ => h.withBtu rfl rfl rfl

theorem refreshCharge : r.Reaches d s.refreshCharge := by
  unfold State.refreshCharge
  exact h.withCdu rfl

theorem beginTripPulse (request : TripRequest) : r.Reaches d (s.beginTripPulse request) := (h.withCdu rfl).refreshCharge

theorem beginClosePulse : r.Reaches d s.beginClosePulse := (h.withCdu rfl).refreshCharge

theorem endPulse : r.Reaches d s.endPulse := (h.withCdu rfl).refreshCharge

theorem preempt : r.Reaches d s.preempt := h.onlyIf fun _ => ((h.withCdu rfl).endPulse).record _

theorem cduTripOrder : r.Reaches d s.cduTripOrder := by
  unfold State.cduTripOrder
  simp only
  repeat' split
  · exact (h.preempt.withCdu rfl).beginTripPulse _
  · exact (h.preempt.withCdu rfl).withCdu rfl
  · exact h.preempt.withCdu rfl
  · exact h.preempt.withCdu rfl

theorem cduAttemptOrder : r.Reaches d s.cduAttemptOrder := h.onlyIf fun _ => h.beginTripPulse _

theorem endTripRequest : r.Reaches d s.endTripRequest := h.withCdu rfl

theorem withdrawTrip : r.Reaches d s.withdrawTrip := by
  unfold State.withdrawTrip
  split
  · exact h
  · exact h.endTripRequest
  · exact h.endTripRequest
  · exact h.withCdu rfl

end

/-! ### Draws (R89) -/

section

variable {r s : State} (h : r.Reaches true s)

include h

theorem advanceLfsr : r.Reaches true s.advanceLfsr :=
  h.withChc_counting rfl (Nat.le_max_right _ _) (Nat.le_max_right _ _) (Nat.le_max_right _ _) lfsrAdvance_ne_zero nofun

theorem drawBeaconDelay : r.Reaches true s.drawBeaconDelay := h.advanceLfsr.withPru rfl rfl

theorem drawSequence : r.Reaches true s.drawSequence := h.advanceLfsr.withPru rfl rfl

theorem followReserve (old : Reserve) : r.Reaches true (s.followReserve old) := by
  by_cases from_ : old = .critical
  · unfold State.followReserve
    simp only [from_, beq_self_eq_true, if_true]
    repeat' split
    · exact h.stopBeacon
    · exact h.stopBeacon
    · exact h.stopBeacon
    · exact h.drawBeaconDelay
    · exact h.drawBeaconDelay
  · exact h.followReserve_undrawn from_

theorem enterBackoff : r.Reaches true s.enterBackoff := by
  unfold State.enterBackoff
  split
  · exact h.enterIdle
  · split
    · exact h.withChc rfl rfl
    · exact h.advanceLfsr.withChc_counting rfl (Nat.le_max_right _ _) (Nat.le_max_right _ _) (Nat.le_max_right _ _) id nofun

end

end State.Reaches

end Sys2Proof.Machine
end

section
/-! SUPPORT. The abandoned battery test, and the operations of the sequence, the holds and the breaker as hand-offs. -/

namespace Sys2Proof.Machine

/-! ### The abandoned test (R82, R83) -/

/-- A test that does not run is not abandoned. -/
theorem State.abandonTest_of_quiet {s : State} (q : s.quietTest) (cause : AbandonCause) : s.abandonTest cause = s := by
  have idle : (s.btu.test == .settle || s.btu.test == .loaded) = false := by rcases q with q | q <;> rw [q] <;> rfl
  rw [State.abandonTest, idle, State.onlyIf_false]

/-- A running test is abandoned. -/
theorem State.abandonTest_of_running {s : State} (running : s.btu.test = .settle ∨ s.btu.test = .loaded)
    (cause : AbandonCause) : s.abandonTest cause = s.handleResult .abandoned none (some cause) := by
  have runs : (s.btu.test == .settle || s.btu.test == .loaded) = true := by rcases running with q | q <;> rw [q] <;> rfl
  rw [State.abandonTest, runs, State.onlyIf_true]

theorem State.quietTest.not_running {s : State} (q : s.quietTest) : ¬(s.btu.test = .settle ∨ s.btu.test = .loaded) := by
  rcases q with q | q <;> simp [q]

/-- What an abandoned test leaves of itself (R82, R83). -/
def State.abandonedPart (s : State) : TestPart where
  test := .pending
  sources := s.btu.sources
  settle := none
  load := none
  lastResult := some .abandoned
  lastResistance := none
  failed := s.btu.failed
  schedule := scheduleStart s.cfg
  charger := if s.btu.acPresent = true then (if s.btu.resumeBoost = true then .boost else .float) else s.btu.charger
  resumeBoost := s.btu.resumeBoost

/-- The BATTERY_TEST record of an abandoned test (R83, R164). -/
def State.abandonedRecord (s : State) (cause : AbandonCause) : RecordBody :=
  { kind := .batteryTest
    outcome := some { result := .abandoned, sources := s.btu.sources }
    reason := some cause.reason
    v0 := s.btu.v0
    v1 := s.btu.v1
    i1 := s.btu.i1
    resistance := none }

/-- A change of the charger mode, with the word that it may send, changes nothing else that is read or belongs to the test. -/
theorem State.setCharger_readings (s : State) (mode : Charger) : (s.setCharger mode).readings = s.readings := by
  unfold State.setCharger State.sendSetpoint State.onlyIf
  split <;> rfl

theorem State.setCharger_testPart (s : State) (mode : Charger) :
    (s.setCharger mode).btu.testPart = { s.btu.testPart with charger := mode } := by
  unfold State.setCharger State.sendSetpoint State.onlyIf
  split <;> rfl

theorem State.setCharger_reserve (s : State) (mode : Charger) : (s.setCharger mode).btu.reserve = s.btu.reserve := by
  unfold State.setCharger State.sendSetpoint State.onlyIf
  split <;> rfl

/-- The handling of an abandoned test: its part of the BTU, its record, and nothing else that hand-offs look at. -/
theorem State.handleResult_abandoned (s : State) (cause : AbandonCause) :
    (s.handleResult .abandoned none (some cause)).btu.testPart = s.abandonedPart ∧
    (s.handleResult .abandoned none (some cause)).rcs = s.withRecords [s.abandonedRecord cause] ∧
    (s.handleResult .abandoned none (some cause)).readings = s.readings ∧
    (s.handleResult .abandoned none (some cause)).btu.reserve = s.btu.reserve := by
  simp only [State.handleResult, State.onlyIf]
  split
  · next ac =>
    refine ⟨(State.setCharger_testPart _ _).trans ?_, by simp [State.record_rcs]; rfl,
      (State.setCharger_readings _ _).trans rfl, (State.setCharger_reserve _ _).trans rfl⟩
    simp only [State.abandonedPart, ac, if_true]
    rfl
  · next ac =>
    refine ⟨?_, rfl, rfl, rfl⟩
    simp only [State.abandonedPart, ac]
    rfl

namespace State.Reaches

theorem abandonTest {d : Bool} {r s : State} (h : r.Reaches d s) (cause : AbandonCause) :
    r.Reaches d (s.abandonTest cause) := by
  rcases s.quietTest_or_running with q | running
  · rwa [State.abandonTest_of_quiet q]
  rw [State.abandonTest_of_running running]
  obtain ⟨part, rcs, readings, reserve⟩ := s.handleResult_abandoned cause
  exact h.trans
    { readings := readings
      counts := .of_eq (by simp) (by simp)
      lfsr := by simp
      undrawn := fun _ hb => by simpa using hb
      reserve := fun _ => reserve
      link := by simp
      test := fun _ => .of_quiet (.inr (congrArg TestPart.test part)) (congrArg TestPart.settle part)
        (congrArg TestPart.load part)
      quiet := fun q => absurd running q.not_running
      records := ⟨_, rcs⟩ }

end State.Reaches

/-! ### Entering a sequence state (R25, R53, R82, R132) -/

/-- The state just before the test of R82 at an entry: the SQC in its new state, the marks and the bar cleared. -/
def State.entering (s : State) (new : SeqState) : State :=
  ((s.withSqc fun q => q.enter new).onlyIf new.isClosed fun m =>
    m.withOcu fun o => { o with phase := { o.phase with ownOrder := false }, ground := { o.ground with ownOrder := false } }).onlyIf
      new.clearsBar fun m => (m.withCdu fun c => { c with closeBarred := false }).refreshCharge

theorem State.enterSeq_eq (s : State) (new : SeqState) :
    s.enterSeq new =
      (s.entering new).onlyIf (s.sqc.seq == .ready && new != .ready) fun m => m.abandonTest .sequence := rfl

/-- An entry moves the SQC, and nothing that hand-offs look at but its state. -/
theorem State.entering_keeps (s : State) (new : SeqState) :
    (s.entering new).sqc = s.sqc.enter new ∧ (s.entering new).readings = s.readings ∧ (s.entering new).btu = s.btu ∧
    (s.entering new).chc = s.chc ∧ (s.entering new).pru = s.pru ∧ (s.entering new).rcs = s.rcs ∧
    (s.entering new).svp = s.svp := by
  unfold State.entering
  cases new.isClosed <;> cases new.clearsBar <;> exact ⟨rfl, rfl, rfl, rfl, rfl, rfl, rfl⟩

/-- An entry with no test running abandons nothing. -/
theorem State.enterSeq_of_quiet {s : State} (q : s.quietTest) (new : SeqState) : s.enterSeq new = s.entering new := by
  obtain ⟨-, -, btu, -⟩ := s.entering_keeps new
  rw [State.enterSeq_eq, State.onlyIf, State.abandonTest_of_quiet (by rwa [State.quietTest, btu]), ite_self]

@[simp] theorem State.enterSeq_sqc (s : State) (new : SeqState) : (s.enterSeq new).sqc = s.sqc.enter new := by
  rw [State.enterSeq_eq, State.onlyIf_sqc, (State.abandonTest_frame _ _).2.2.2.1, ite_self]
  exact (s.entering_keeps new).1

/-- An entry out of READY abandons a running test. -/
theorem State.enterSeq_leaving {s : State} {new : SeqState} (seq : s.sqc.seq = .ready) (leaves : new ≠ .ready) :
    s.enterSeq new = (s.entering new).abandonTest .sequence := by
  rw [State.enterSeq_eq, show (s.sqc.seq == .ready && new != .ready) = true by simp [seq, leaves], State.onlyIf_true]

/-- A sound test stays sound at every entry, since one that runs stands in READY and is abandoned when READY is left. -/
theorem State.TestSound.enterSeq {s : State} (h : s.TestSound) (new : SeqState) : (s.enterSeq new).TestSound := by
  obtain ⟨sqc, readings, btu, -⟩ := s.entering_keeps new
  rcases s.quietTest_or_running with q | running
  · obtain ⟨settle, load⟩ := h.timers_idle q
    rw [State.enterSeq_of_quiet q]
    exact .of_quiet (by rwa [State.quietTest, btu]) (by rw [btu, settle]) (by rw [btu, load])
  · obtain ⟨seq, -⟩ := h.running running
    by_cases leaves : new = .ready
    · rw [State.enterSeq_eq, leaves, show (s.sqc.seq == .ready && SeqState.ready != .ready) = false by simp, State.onlyIf_false]
      subst leaves
      refine .of_view ?_ h
      rw [State.testView, btu, sqc, show (s.entering .ready).ocu.elems = s.ocu.elems from congrArg Readings.elems readings,
        State.testView, seq]
      rfl
    · rw [State.enterSeq_leaving seq leaves, State.abandonTest_of_running (by rwa [btu])]
      obtain ⟨part, -⟩ := (s.entering new).handleResult_abandoned .sequence
      exact .of_quiet (.inr (congrArg TestPart.test part)) (congrArg TestPart.settle part) (congrArg TestPart.load part)

theorem State.Reaches.enterSeq {d : Bool} {r s : State} (h : r.Reaches d s) (new : SeqState) :
    r.Reaches d (s.enterSeq new) := by
  obtain ⟨-, readings, btu, chc, pru, rcs, svp⟩ := s.entering_keeps new
  have k : (s.entering new).Reaches d (s.enterSeq new) := by
    rw [State.enterSeq_eq]
    exact (State.Reaches.refl _).onlyIf fun _ => (State.Reaches.refl _).abandonTest _
  exact h.trans
    { readings := k.readings.trans readings
      counts := (State.CountsUpTo.of_eq (by rw [chc]) (by rw [pru])).trans k.counts
      lfsr := fun hl => k.lfsr (by rwa [chc])
      undrawn := fun hd hb => by simpa only [chc] using k.undrawn hd (by rwa [chc])
      reserve := fun hd => by rw [k.reserve hd, btu]
      link := fun hl => k.link (by rwa [svp])
      test := fun ht => ht.enterSeq new
      quiet := fun q => by rw [k.quiet (by rwa [State.quietTest, btu]), btu]
      records := by
        obtain ⟨after, ha⟩ := k.records
        exact ⟨after, ha.trans (State.withRecords_append s _ (congrArg Readings.now readings) [] after rcs)⟩ }

end Sys2Proof.Machine
end

section
/-! SUPPORT. The operations of the sequence, the holds, the breaker, the reserve, the tags, the crew and the peers as hand-offs. -/

namespace Sys2Proof.Machine

/-- The trip capacitor's report handed, if one waits and no pulse is in progress (R50). -/
def State.tripHanded (s : State) : State :=
  if s.cdu.tripOwed && s.noPulse then (s.withCdu fun c => { c with tripOwed := false }).tripReadyReport else s

theorem State.handReports_eq (s : State) :
    s.handReports =
      if s.tripHanded.cdu.closeOwed && s.tripHanded.noPulse then
        (s.tripHanded.withCdu fun c => { c with closeOwed := false }).closeReadyReport
      else s.tripHanded := rfl

namespace State.Reaches

section

variable {d : Bool} {r s : State} (h : r.Reaches d s)

include h

/-! ### The sequence (R25 to R48) -/

theorem enterLockout (reason : LockReason) : r.Reaches d (s.enterLockout reason) :=
  (((h.enterSeq .lockout).withSqc rfl rfl).record _).buildLockout reason

theorem beginTrip (trip : CurrentTrip) : r.Reaches d (s.beginTrip trip) :=
  ((((h.enterSeq .tripping).withSqc rfl rfl).cduTripOrder).buildTrip trip false).record _

theorem takeTrip (o : TripOrder) : r.Reaches d (s.takeTrip o) := (h.withSqc rfl rfl).beginTrip _

theorem takeLockoutTrip (o : TripOrder) : r.Reaches d (s.takeLockoutTrip o) := h.beginTrip _

theorem sqcTripOrder (o : TripOrder) : r.Reaches d (s.sqcTripOrder o) := by
  unfold State.sqcTripOrder
  split
  · exact h.takeTrip o
  · exact h.takeTrip o
  · split
    · exact h.takeTrip o
    · exact h
  · split
    · exact h.takeLockoutTrip o
    · exact h
  all_goals exact h

theorem sqcTripConfirm : r.Reaches d s.sqcTripConfirm := by
  unfold State.sqcTripConfirm
  split
  · split
    · exact h.enterLockout _
    · split
      · exact h.enterLockout _
      · exact (h.enterSeq _).withSqc rfl rfl
  · exact h.enterLockout _
  · exact h

theorem tripFailed : r.Reaches d s.tripFailed := by
  refine h.onlyIf fun _ => ?_
  have moved : r.Reaches d ((s.enterSeq .breakerFail).withSqc fun q => { q with reason := some .mechanism }) :=
    (h.enterSeq _).withSqc rfl rfl
  cases s.sqc.trip with
  | some trip => exact ((moved.buildTrip trip true).buildLockout _).record _
  | none => exact (moved.buildLockout _).record _

theorem closeFailure : r.Reaches d s.closeFailure := h.onlyIf fun _ => h.enterLockout _

theorem fireClose : r.Reaches d s.fireClose := by
  have ordered : r.Reaches d (s.withSqc fun q => { q with closeBegun := true, charge := none }) := h.withSqc rfl rfl
  unfold State.fireClose
  simp only
  split
  · exact ordered.beginClosePulse
  · exact ordered.closeFailure

theorem closeGate (wait : Bool) : r.Reaches d (s.closeGate wait) := by
  unfold State.closeGate
  repeat' split
  · exact h.enterLockout _
  · exact h.enterLockout _
  · exact h.enterLockout _
  · exact h.enterLockout _
  · exact h.enterLockout _
  · exact ((h.enterSeq _).withSqc rfl rfl).fireClose
  · exact (h.enterSeq _).withSqc rfl rfl
  · exact h

theorem readyByHand : r.Reaches d s.readyByHand := ((h.enterSeq _).withSqc rfl rfl).record _

theorem closeConfirm : r.Reaches d s.closeConfirm := by
  refine h.onlyIf fun _ => ?_
  cases s.sqc.closeKind with
  | operator => exact h.readyByHand
  | automatic =>
    simp only
    split
    · exact ((h.record _).enterSeq _).withSqc rfl rfl
    · exact ((h.record _).enterSeq _).withSqc rfl rfl

theorem tripReadyReport : r.Reaches d s.tripReadyReport := by
  unfold State.tripReadyReport
  split
  · exact h.beginTripPulse _
  · exact h.beginTripPulse _
  · exact h.onlyIf fun _ => h.cduAttemptOrder

theorem closeReadyReport : r.Reaches d s.closeReadyReport := by
  unfold State.closeReadyReport
  split
  · exact h.closeGate _
  · exact h.onlyIf fun _ => h.fireClose
  · exact h

theorem tripHanded : r.Reaches d s.tripHanded := by
  unfold State.tripHanded
  split
  · exact (h.withCdu rfl).tripReadyReport
  · exact h

theorem handReports : r.Reaches d s.handReports := by
  rw [State.handReports_eq]
  split
  · exact (h.tripHanded.withCdu rfl).closeReadyReport
  · exact h.tripHanded

theorem operatorTrip : r.Reaches d s.operatorTrip := by
  unfold State.operatorTrip
  repeat' split
  · exact h.beginTrip _
  · exact h.beginTrip _
  · exact h.beginTrip _
  · exact h.enterLockout _
  · exact h.beginTrip _
  · exact h
  · exact h.withSqc rfl rfl
  · exact h.enterLockout _
  · exact h.enterLockout _
  · exact h

theorem operatorClose : r.Reaches d s.operatorClose := by
  refine h.onlyIf fun _ => ?_
  have closing : r.Reaches d ((s.enterSeq .closing).withSqc fun q => { q with closeKind := .operator }) :=
    (h.enterSeq _).withSqc rfl rfl
  simp only
  split
  · exact closing.fireClose
  · exact closing.withSqc rfl rfl

theorem openWithoutPulse : r.Reaches d s.openWithoutPulse := by
  unfold State.openWithoutPulse
  split
  · exact h.enterLockout _
  · exact h.enterLockout _
  · exact h.enterLockout _
  · exact h

theorem closedWithoutPulse : r.Reaches d s.closedWithoutPulse := by
  refine h.onlyIf fun _ => ?_
  repeat' split
  · exact h.readyByHand
  · exact h.withSqc rfl rfl
  · exact h.enterLockout _

theorem sqcTagOn : r.Reaches d s.sqcTagOn := by
  unfold State.sqcTagOn
  repeat' split
  · exact h.enterLockout _
  · exact h.enterLockout _
  · exact h
  · exact h.enterLockout _
  · exact h

theorem sqcMeasurementLost : r.Reaches d s.sqcMeasurementLost := h.onlyIf fun _ => h.enterLockout _

theorem sqcCritical : r.Reaches d s.sqcCritical := by
  unfold State.sqcCritical
  repeat' split
  · exact h.enterLockout _
  · exact h
  · exact h.enterLockout _
  · exact h

theorem sqcCloseEnergyFault : r.Reaches d s.sqcCloseEnergyFault := by
  unfold State.sqcCloseEnergyFault
  repeat' split
  · exact h.enterLockout _
  · exact h
  · exact h.enterLockout _
  · exact h

theorem sqcHandleDown : r.Reaches d s.sqcHandleDown := (h.onlyIf fun _ => h.withdrawTrip).enterLockout _

theorem sqcResetExpiry : r.Reaches d s.sqcResetExpiry := by
  have ready : r.Reaches d ((s.enterSeq .ready).withSqc fun q => { q with shots := 0, stepped := false }) :=
    (h.enterSeq _).withSqc rfl rfl
  unfold State.sqcResetExpiry
  simp only
  split
  · exact ready.buildClear _ _
  · exact ready

theorem sqcFirstPickup (elements : ElementSet) : r.Reaches d (s.sqcFirstPickup elements) := h.withSqc rfl rfl

theorem stepSequence (elements : ElementSet) : r.Reaches d (s.stepSequence elements) := by
  have raised : r.Reaches d (s.withSqc fun q => { q with shots := q.shots + 1, stepped := true, stepSet := elements }) :=
    h.withSqc rfl rfl
  exact (((raised.onlyIf fun _ => raised.enterSeq _).withSqc rfl rfl).record _).buildClear _ _

theorem sqcEpisodeEnd (longestRun : Nat) (orderRaised : Bool) : r.Reaches d (s.sqcEpisodeEnd longestRun orderRaised) := by
  unfold State.sqcEpisodeEnd
  cases s.sqc.memory with
  | none => exact h.withSqc rfl rfl
  | some elements => exact (h.onlyIf fun _ => h.stepSequence elements).withSqc rfl rfl

/-! ### Orders, holds and first pickups (R12, R16 to R20, R132 to R140) -/

theorem withKind (k : Kind) (f : KindState → KindState) : r.Reaches d (s.withOcu fun o => o.withKind k f) :=
  h.withOcu (by cases k <;> rfl)

theorem raiseOrder (o : TripOrder) : r.Reaches d (s.raiseOrder o) := (h.withOcu rfl).sqcTripOrder o

theorem releaseTest (k : Kind) : r.Reaches d (s.releaseTest k) := by
  unfold State.releaseTest
  split
  · exact h.withKind k _
  · exact h.onlyIf fun _ => h.raiseOrder _

theorem endHold (k : Kind) (cause : Reason) : r.Reaches d (s.endHold k cause) := by
  unfold State.endHold
  split
  · exact h
  · exact ((h.withKind k _).record _).releaseTest k

theorem endHolds (cause : Reason) : r.Reaches d (s.endHolds cause) := (h.endHold .phase cause).endHold .ground cause

theorem partnerPickup (k : Kind) (sender position : Nat) (arrival : Word32) :
    r.Reaches d (s.partnerPickup k sender position arrival) := by
  unfold State.partnerPickup
  simp only
  split
  · exact h
  · split
    · exact h.onlyIf fun _ => (h.withKind k _).record _
    · exact h.withKind k _

theorem partnerPickups (sender position : Nat) (elements : ElementSet) (arrival : Word32) :
    r.Reaches d (s.partnerPickups sender position elements arrival) := by
  have phased := h.onlyIf (c := elements.covers .phase) (f := fun s => s.partnerPickup .phase sender position arrival)
    fun _ => h.partnerPickup .phase sender position arrival
  unfold State.partnerPickups
  exact phased.onlyIf fun _ => phased.partnerPickup _ _ _ _

theorem partnerEnd (k : Kind) (sender : Nat) (cause : Reason) : r.Reaches d (s.partnerEnd k sender cause) := by
  unfold State.partnerEnd
  repeat' split
  · exact h.endHold k cause
  · exact h
  · exact h

theorem partnerEnds (sender : Nat) (cause : Reason) : r.Reaches d (s.partnerEnds sender cause) :=
  (h.partnerEnd .phase sender cause).partnerEnd .ground sender cause

theorem firstPickup (elements : ElementSet) (largest : Nat) : r.Reaches d (s.firstPickup elements largest) :=
  ((h.buildPickup elements largest).sqcFirstPickup elements).abandonTest _

/-! ### The breaker and the coils' reports (R52 to R64) -/

theorem changeToClosed : r.Reaches d s.changeToClosed := by
  unfold State.changeToClosed
  split
  · exact (h.withCdu rfl).closeConfirm
  · exact h.closedWithoutPulse

theorem mechanismFailure : r.Reaches d s.mechanismFailure := h.endTripRequest.tripFailed

theorem endTripWindow : r.Reaches d s.endTripWindow := by
  have ended : r.Reaches d (s.withCdu fun c => { c with tripWindow := none }) := h.withCdu rfl
  unfold State.endTripWindow
  simp only
  repeat' split
  · exact ended
  · exact ended.mechanismFailure
  · exact ended.withCdu rfl
  · exact ended
  · exact ended.mechanismFailure
  · exact ended.endTripRequest
  · exact ended

theorem endCloseWindow : r.Reaches d s.endCloseWindow := by
  have ended : r.Reaches d (s.withCdu fun c => { c with closeWindow := none, closeRequest := false }) := h.withCdu rfl
  unfold State.endCloseWindow
  simp only
  split
  · exact ended.closeFailure
  · exact ended

theorem tripEnergyFault : r.Reaches d s.tripEnergyFault := ((h.record _).endTripRequest).tripFailed

theorem closeEnergyFault : r.Reaches d s.closeEnergyFault :=
  (((h.record _).withCdu rfl).refreshCharge).sqcCloseEnergyFault

theorem raisePositionFault : r.Reaches d s.raisePositionFault := (h.withCdu rfl).record _

/-! ### The battery (R69 to R75) -/

theorem watchLowVoltage : r.Reaches d s.watchLowVoltage := h.withBtu rfl rfl rfl

theorem watchTaper : r.Reaches d s.watchTaper := h.onlyIf fun _ => h.withBtu rfl rfl rfl

theorem setShutdown : r.Reaches d s.setShutdown := (((h.withBtu rfl rfl rfl).record _).buildShutdown).dropStatus.stopBeacon

theorem endSetpointWord : r.Reaches d s.endSetpointWord := (h.withBtu rfl rfl rfl).sendSetpoint

/-! ### The tags and the memory link (R152 to R161, R175) -/

theorem enterTag (source : TagSource) (code : Word16) (slot : Option Nat) : r.Reaches d (s.enterTag source code slot) :=
  (h.withTgu rfl rfl).record _

theorem removeTag (source : TagSource) (code : Word16) : r.Reaches d (s.removeTag source code) :=
  (h.withTgu rfl rfl).record _

theorem clearOverflow : r.Reaches d s.clearOverflow := h.withTgu rfl rfl

theorem offerPlace : r.Reaches d s.offerPlace := by
  unfold State.offerPlace
  split
  · exact h.clearOverflow.enterTag _ _ _
  · exact h

theorem enterRemote (peer : Nat) (code : Word16) : r.Reaches d (s.enterRemote peer code) := by
  unfold State.enterRemote
  split
  · exact h.enterTag _ _ _
  · exact (h.withTgu rfl rfl).record _

omit h in
/-- An event that touches the tags, and the judgement that follows it. -/
theorem tagEvent {event : State → State} (he : r.Reaches d (event s)) : r.Reaches d (s.tagEvent event) := by
  unfold State.tagEvent
  exact he.onlyIf fun _ => he.sqcTagOn.endHolds _

theorem startWrite : r.Reaches d s.startWrite := (h.withTgu rfl rfl).withSvp rfl fun _ => by simp [Svp.linkSound]

theorem requestWrite : r.Reaches d s.requestWrite := by
  unfold State.requestWrite
  repeat' split
  · exact h.withTgu rfl rfl
  · exact h.startWrite
  · exact h.withTgu rfl rfl

theorem idleWrite : r.Reaches d s.idleWrite := h.withTgu rfl rfl

theorem afterWrite : r.Reaches d s.afterWrite := by
  unfold State.afterWrite
  repeat' split
  · exact (h.onlyIf fun _ => h.idleWrite).withSvp rfl fun _ => by simp [Svp.linkSound, Svp.beginRead]
  · exact h.startWrite
  · exact h.idleWrite.withSvp rfl fun _ => by simp [Svp.linkSound]

theorem endWrite (acknowledged : Bool) : r.Reaches d (s.endWrite acknowledged) := by
  unfold State.endWrite
  simp only
  split
  · exact (h.withTgu rfl rfl).afterWrite
  · exact ((h.withTgu rfl rfl).record _).afterWrite

theorem freeLink : r.Reaches d s.freeLink := by
  unfold State.freeLink
  split
  · exact h.startWrite
  · exact h.withSvp rfl fun _ => by simp [Svp.linkSound]

theorem requestRead : r.Reaches d s.requestRead := by
  unfold State.requestRead
  refine h.withSvp ?_ fun sound => ?_
  · split <;> rfl
  · split
    · simp [Svp.linkSound]
    · exact sound

theorem localApply (source : TagSource) (code : Word16) (slot : Option Nat) : r.Reaches d (s.localApply source code slot) :=
  h.onlyIf fun _ => tagEvent (((h.enterTag source code slot).buildTag code).requestWrite)

theorem localRemoval (own other : TagSource) (code : Word16) : r.Reaches d (s.localRemoval own other code) := by
  unfold State.localRemoval
  split
  · exact h
  · exact tagEvent (((h.removeTag _ _).buildUntag _).requestWrite).offerPlace

theorem peerTag (peer : Nat) (code : Word16) : r.Reaches d (s.peerTag peer code) :=
  h.onlyIf fun _ => tagEvent (h.enterRemote peer code)

theorem peerUntag (peer : Nat) (code : Word16) : r.Reaches d (s.peerUntag peer code) := by
  refine tagEvent ?_
  split
  · exact (h.removeTag _ _).offerPlace
  · exact h.onlyIf fun _ => h.clearOverflow

/-- A hand-off for each member of a list, one after another. -/
theorem foldl {α : Type} {f : State → α → State} (hf : ∀ {s : State} (x : α), r.Reaches d s → r.Reaches d (f s x)) (l : List α) :
    r.Reaches d (l.foldl f s) := by
  induction l generalizing s with
  | nil => exact h
  | cons x rest ih => exact ih (hf x h)

theorem dropStrays (peer : Nat) (codes : List Word16) : r.Reaches d (s.dropStrays peer codes) := by
  have removed : r.Reaches d ((s.strayTags peer codes).foldl (fun s e => s.removeTag e.source e.code) s) :=
    h.foldl (fun e hs => hs.removeTag e.source e.code) _
  unfold State.dropStrays
  simp only
  split
  · exact removed.onlyIf fun _ => removed.clearOverflow
  · exact removed

theorem enterList (peer : Nat) (codes : List Word16) : r.Reaches d (s.enterList peer codes) :=
  h.foldl (fun code hs => hs.onlyIf fun _ => hs.enterRemote peer code) _

theorem peerTagList (peer : Nat) (codes : List Word16) : r.Reaches d (s.peerTagList peer codes) :=
  have dropped := h.dropStrays peer codes
  tagEvent ((dropped.onlyIf fun _ => dropped.offerPlace).enterList peer codes)

/-! ### The wand, the window, the tone and the keys (R144 to R151) -/

theorem startErrorTone : r.Reaches d s.startErrorTone := h.withTgu rfl rfl

theorem openWindow (code : Word16) (slot : Nat) : r.Reaches d (s.openWindow code slot) := h.withTgu rfl rfl

theorem closeWindow : r.Reaches d s.closeWindow := h.withTgu rfl rfl

theorem toggleTone : r.Reaches d s.toggleTone := h.withTgu rfl rfl

theorem followWand (runs : List WandRun) (own : Verdict → Bool) : r.Reaches d (s.followWand runs own) := by
  have beside := Tgu.wandRuns_besideWand s.cfg.wandTolerance runs s.tgu
  have keys := congrArg Tgu.keys beside
  have handle := congrArg Tgu.handleDown beside
  exact h.onlyIf fun _ => h.withTgu keys handle

theorem completeCode : r.Reaches d s.completeCode := by
  have waiting : r.Reaches d (s.withTgu fun t => { t with decoder := .wait }) := h.withTgu rfl rfl
  unfold State.completeCode
  simp only
  split
  · exact waiting.withTgu rfl rfl
  · split
    · exact waiting.openWindow _ _
    · exact ((waiting.record _).startErrorTone).closeWindow

theorem followCode (runs : List WandRun) : r.Reaches d (s.followCode runs) :=
  have followed := h.followWand runs (· == .complete)
  followed.onlyIf fun _ => followed.completeCode

theorem tripPress : r.Reaches d s.tripPress := by
  unfold State.tripPress
  split
  · exact h.operatorTrip
  · exact h.startErrorTone

theorem closePress : r.Reaches d s.closePress := by
  unfold State.closePress
  split
  · exact h.operatorClose
  · exact h.startErrorTone

theorem tagOnPress : r.Reaches d s.tagOnPress := by
  unfold State.tagOnPress
  split
  · exact h
  · next w _ =>
    have applied := (h.localApply .localPanel w.code (some w.slot)).closeWindow
    exact applied.onlyIf fun _ => applied.startErrorTone

theorem tagOffPress : r.Reaches d s.tagOffPress := by
  unfold State.tagOffPress
  split
  · exact h
  · next w _ =>
    have removed := (h.localRemoval .localPanel .service w.code).closeWindow
    exact removed.onlyIf fun _ => removed.startErrorTone

/-! ### The records of peers (R122 to R130) -/

theorem partnerHandOff (x : RxRecord) (kind : ReportKind) : r.Reaches d (s.partnerHandOff x kind) := by
  refine h.onlyIf fun _ => ?_
  split
  · exact h.partnerPickups _ _ _ _
  · exact h.partnerEnds _ _
  · exact h.partnerEnds _ _
  · exact h

theorem handOff (x : RxRecord) (kind : ReportKind) : r.Reaches d (s.handOff x kind) := by
  refine h.onlyIf fun _ => ?_
  cases kind with
  | pickup => exact h.partnerHandOff x _
  | trip => exact h.partnerHandOff x _
  | clear => exact h.partnerHandOff x _
  | tag => exact h.peerTag _ _
  | untag => exact h.peerUntag _ _
  | beacon => exact h.peerTagList _ _
  | lockout => exact h
  | shutdown => exact h

theorem applyRecord (x : RxRecord) : r.Reaches d (s.applyRecord x) := by
  unfold State.applyRecord
  split
  · exact h.withPru_counting rfl (le_max_count16 _) (Nat.le_max_right _ _) (Nat.le_max_right _ _)
  · split
    · exact (h.withPru_counting rfl (Nat.le_max_right _ _) (Nat.le_max_right _ _) (le_max_count16 _)).handOff x _
    · simp only
      split
      · exact h.withPru_counting rfl (Nat.le_max_right _ _) (le_max_count16 _) (Nat.le_max_right _ _)
      · exact (h.withPru rfl rfl).handOff x _

theorem agePeer (id : Nat) (isDue : PeerEntry → Bool) (change : PeerEntry → Option PeerEntry) :
    r.Reaches d (s.agePeer id isDue change) := by
  unfold State.agePeer
  repeat' split
  · exact h
  · exact h.onlyIf fun _ => h.withPru rfl rfl
  · exact h

/-! ### The service port (R170 to R174) -/

theorem respond (code : Byte) (answer : Answer) (payload : List Byte) : r.Reaches d (s.respond code answer payload) :=
  h.withSvp rfl id

theorem resetAssembly : r.Reaches d s.resetAssembly := h.withSvp rfl id

theorem discardRequest : r.Reaches d s.discardRequest := h.resetAssembly.withSvp rfl id

theorem bufferByte (b : Byte) : r.Reaches d (s.bufferByte b) := h.withSvp rfl id

theorem serveBad (code : Byte) : r.Reaches d (s.serveBad code) := (h.withSvp rfl id).respond _ _ _

theorem serveTagApply (code : Word16) : r.Reaches d (s.serveTagApply code) :=
  (h.onlyIf fun _ => h.localApply _ _ _).respond _ _ _

theorem serveTagRemove (code : Word16) : r.Reaches d (s.serveTagRemove code) := by
  unfold State.serveTagRemove
  split
  · exact (h.localRemoval _ _ _).respond _ _ _
  · exact h.respond _ _ _

theorem serveRestart : r.Reaches d s.serveRestart := by
  unfold State.serveRestart
  split
  · exact (h.withSvp rfl id).requestRead
  · exact h.respond _ _ _

theorem serveTrip : r.Reaches d s.serveTrip := h.operatorTrip.respond _ _ _

theorem serveClose : r.Reaches d s.serveClose := h.operatorClose.respond _ _ _

end

/-! ### A change of the reserve state (R73) -/

theorem releaseContactor {r s : State} (h : r.Reaches true s) : r.Reaches true s.releaseContactor := by
  refine h.onlyIf fun _ => (h.trans ?_).refreshCharge
  exact
    { State.Reaches.refl s with
      test := TestSound.of_view rfl
      counts := .of_eq rfl rfl
      reserve := nofun }

theorem sendCopy {r s : State} (h : r.Reaches true s) : r.Reaches true s.sendCopy :=
  (h.countCopy.enterKeyDown).onlyIf fun _ => (h.countCopy.enterKeyDown).releaseContactor

end State.Reaches

/-- The state just after the BTU has taken a new reserve state, before the other blocks follow it (R70, R74). -/
def State.withReserve (s : State) (new : Reserve) : State :=
  s.withBtu fun b =>
    { b with
      reserve := new
      discharged := b.discharged || s.btu.reserve == .normal
      lowVoltage := if s.btu.reserve == .critical then none else b.lowVoltage }

/-- Out of every reserve state but CRITICAL the other blocks follow a change without a draw. -/
theorem State.changeReserve_undrawn {s : State} (new : Reserve) (from_ : s.btu.reserve ≠ .critical) :
    (s.withReserve new).Reaches false (s.changeReserve new) := by
  have recorded := (State.Reaches.refl (d := false) (s.withReserve new)).record
    { kind := .reserveChange, reserve := some new, battV := some s.btu.battV }
  exact (((recorded.onlyIf fun _ => recorded.sqcCritical).refreshCharge).followReserve_undrawn from_).settleTransmitter

namespace State.Reaches

theorem changeReserve {r s : State} (h : r.Reaches true s) (new : Reserve) : r.Reaches true (s.changeReserve new) := by
  have moved : s.Reaches true (s.withReserve new) :=
    { State.Reaches.refl s with
      test := TestSound.of_view rfl
      counts := .of_eq rfl rfl
      reserve := nofun }
  have recorded := (h.trans moved).record { kind := .reserveChange, reserve := some new, battV := some s.btu.battV }
  exact (((recorded.onlyIf fun _ => recorded.sqcCritical).refreshCharge).followReserve s.btu.reserve).settleTransmitter

theorem judgeBattery {r s : State} (h : r.Reaches true s) : r.Reaches true s.judgeBattery := by
  unfold State.judgeBattery
  exact h.onlyIf fun _ => h.changeReserve _

end State.Reaches

end Sys2Proof.Machine
end

section
/-! SUPPORT. Which updates keep the ranges, the inputs, the settings and the battery test sound, and that every hand-off does. -/

namespace Sys2Proof.Machine

/-! ### What each group looks at -/

def State.rangesView (s : State) :=
  (s.ocu.elems, s.mfp.frame, s.mfp.badFrames, s.mfp.framesMissed,
    (s.chc.reportsLost, s.chc.framesSent, s.chc.attemptsFailed, s.chc.framesAccepted, s.chc.checkFailures, s.chc.receiveAborts,
      s.chc.receiveOverruns, s.chc.queue),
    (s.pru.reportsRefused, s.pru.duplicates, s.pru.framesUnentered), s.svp.link, s.svp.linkTimer)

theorem State.RangesSound.of_view {s t : State} (view : t.rangesView = s.rangesView) (h : s.RangesSound) : t.RangesSound := by
  simp only [State.rangesView, Prod.mk.injEq] at view
  obtain ⟨elems, frame, bad, missed, ⟨lost, sent, failed, accepted, checks, aborts, overruns, queue⟩,
    ⟨refused, duplicates, unentered⟩, link, timer⟩ := view
  exact
    { elements := by rw [elems]; exact h.elements
      assembly := by rw [frame]; exact h.assembly
      frames := by rw [bad, missed]; exact h.frames
      lost := by rw [lost]; exact h.lost
      sent := by rw [sent, failed]; exact h.sent
      heard := by rw [accepted, checks, aborts, overruns]; exact h.heard
      taken := by rw [refused, duplicates, unentered]; exact h.taken
      received := by rw [queue]; exact h.received
      link := by rw [link, timer]; exact h.link }

theorem State.InputsSound.of_view {s t : State} (inputs : t.inputs = s.inputs) (debounced : t.debounced = s.debounced)
    (h : s.InputsSound) : t.InputsSound :=
  ⟨by rw [inputs, debounced]; exact h.counting, by rw [inputs]; exact h.spans⟩

theorem State.SettingsSound.of_view {s t : State} (settings : t.svp.settings = s.svp.settings) (lfsr : s.chc.lfsr ≠ 0 → t.chc.lfsr ≠ 0)
    (h : s.SettingsSound) : t.SettingsSound := by
  obtain ⟨version, ranges, curves, nonzero⟩ := h
  rw [State.cfg, ← settings] at version ranges curves
  exact ⟨version, ranges, curves, lfsr nonzero⟩

/-! ### The four groups together -/

/-- From one state to another, whatever of the four groups is sound stays sound. -/
structure State.Preserves (s t : State) : Prop where
  ranges : s.RangesSound → t.RangesSound
  inputs : s.InputsSound → t.InputsSound
  settings : s.SettingsSound → t.SettingsSound
  test : s.TestSound → t.TestSound

namespace State.Preserves

variable {s t u : State}

@[refl] theorem refl (s : State) : s.Preserves s := ⟨id, id, id, id⟩

theorem trans (h : s.Preserves t) (k : t.Preserves u) : s.Preserves u :=
  ⟨k.ranges ∘ h.ranges, k.inputs ∘ h.inputs, k.settings ∘ h.settings, k.test ∘ h.test⟩

/-- A state that is sound in all four groups is a sound successor of any. -/
theorem of_sound (ranges : t.RangesSound) (inputs : t.InputsSound) (settings : t.SettingsSound) (test : t.TestSound) :
    s.Preserves t := ⟨fun _ => ranges, fun _ => inputs, fun _ => settings, fun _ => test⟩

/-- An update of what none of the groups looks at. -/
theorem of_untouched (ranges : t.rangesView = s.rangesView) (inputs : t.inputs = s.inputs) (debounced : t.debounced = s.debounced)
    (settings : (t.svp.settings, t.chc.lfsr) = (s.svp.settings, s.chc.lfsr)) (test : t.testView = s.testView) :
    s.Preserves t := by
  rw [Prod.mk.injEq] at settings
  exact ⟨.of_view ranges, .of_view inputs debounced, .of_view settings.1 (by rw [settings.2]; exact id), .of_view test⟩

/-- An update of what the ranges alone look at. -/
theorem of_ranges (ranges : s.RangesSound → t.RangesSound) (inputs : t.inputs = s.inputs) (debounced : t.debounced = s.debounced)
    (settings : (t.svp.settings, t.chc.lfsr) = (s.svp.settings, s.chc.lfsr)) (test : t.testView = s.testView) :
    s.Preserves t := by
  rw [Prod.mk.injEq] at settings
  exact ⟨ranges, .of_view inputs debounced, .of_view settings.1 (by rw [settings.2]; exact id), .of_view test⟩

/-- An update of what the battery test alone looks at. -/
theorem of_test (test : s.TestSound → t.TestSound) (ranges : t.rangesView = s.rangesView) (inputs : t.inputs = s.inputs)
    (debounced : t.debounced = s.debounced) (settings : (t.svp.settings, t.chc.lfsr) = (s.svp.settings, s.chc.lfsr)) :
    s.Preserves t := by
  rw [Prod.mk.injEq] at settings
  exact ⟨.of_view ranges, .of_view inputs debounced, .of_view settings.1 (by rw [settings.2]; exact id), test⟩

theorem onlyIf {c : Bool} {f : State → State} (hf : c = true → s.Preserves (f s)) : s.Preserves (s.onlyIf c f) := by
  cases c with
  | false => exact refl s
  | true => exact hf rfl

/-- What a started station does, or nothing. -/
theorem whenStarted {f : State → State} (hf : s.Preserves (f s)) : s.Preserves (s.whenStarted f) := by
  unfold State.whenStarted
  split
  · exact hf
  · exact refl s

end State.Preserves

/-- No hand-off between the blocks leaves a sound group. -/
theorem State.Reaches.preserves {d : Bool} {s t : State} (h : s.Reaches d t) : s.Preserves t where
  ranges sound := by
    have le : ∀ {limit a b : Nat}, a ≤ max limit b → b ≤ limit → a ≤ limit := fun ha hb => ha.trans (max_le le_rfl hb)
    have accepted : t.chc.framesAccepted = s.chc.framesAccepted := congrArg Readings.framesAccepted h.readings
    have checks : t.chc.checkFailures = s.chc.checkFailures := congrArg Readings.checkFailures h.readings
    have aborts : t.chc.receiveAborts = s.chc.receiveAborts := congrArg Readings.receiveAborts h.readings
    have overruns : t.chc.receiveOverruns = s.chc.receiveOverruns := congrArg Readings.receiveOverruns h.readings
    obtain ⟨refused, duplicates, unentered⟩ := sound.taken
    exact
      { elements := by rw [h.elems]; exact sound.elements
        assembly := by rw [h.mfp]; exact sound.assembly
        frames := by rw [h.mfp]; exact sound.frames
        lost := le h.counts.lost sound.lost
        sent := ⟨le h.counts.sent sound.sent.1, le h.counts.failed sound.sent.2⟩
        heard := by rw [accepted, checks, aborts, overruns]; exact sound.heard
        taken := ⟨le h.counts.refused refused, le h.counts.duplicates duplicates, le h.counts.unentered unentered⟩
        received := by rw [h.queue]; exact sound.received
        link := h.link sound.link }
  inputs := by
    refine .of_view h.inputs (funext fun pin => ?_)
    have keys : t.tgu.keys = s.tgu.keys := congrArg Readings.keys h.readings
    cases pin with
    | posc => exact congrArg Readings.closedMade h.readings
    | poso => exact congrArg Readings.openMade h.readings
    | acp => exact h.acPresent
    | tripKey => exact congrArg Keys.trip keys
    | closeKey => exact congrArg Keys.close keys
    | tagOnKey => exact congrArg Keys.tagOn keys
    | tagOffKey => exact congrArg Keys.tagOff keys
    | batteryKey => exact congrArg Keys.battery keys
    | hndl => exact congrArg Readings.handleDown h.readings
  settings := .of_view h.settings h.lfsr
  test := h.test

/-! ### Battery tests asked for, started, settled and ended (R76 to R83) -/

namespace State.Preserves

variable (s : State)

/-- An update of the BTU that leaves AC-present, and the test sound. -/
theorem withBtu {s : State} {f : Btu → Btu} (ac : (f s.btu).acPresent = s.btu.acPresent)
    (test : s.TestSound → (s.withBtu f).TestSound) : s.Preserves (s.withBtu f) :=
  of_test test rfl rfl (funext fun pin => by cases pin <;> first | rfl | exact ac) rfl

theorem record (body : RecordBody) : s.Preserves (s.record body) :=
  ((State.Reaches.refl (d := false) s).record body).preserves

theorem sendSetpoint : s.Preserves s.sendSetpoint := (State.Reaches.refl (d := false) s).sendSetpoint.preserves

theorem setCharger (mode : Charger) : s.Preserves (s.setCharger mode) :=
  (withBtu (f := fun b => { b with charger := mode }) rfl (.of_view rfl)).trans (sendSetpoint _)

theorem endBoost : s.Preserves s.endBoost :=
  (withBtu (f := fun b => { b with taper := none, boostLimit := none }) rfl (.of_view rfl)).trans (setCharger _ _)

theorem boostLimitEnds : s.Preserves s.boostLimitEnds := by
  unfold State.boostLimitEnds
  split
  · exact withBtu rfl (.of_view rfl)
  · exact endBoost s

theorem requestTest (source : TestSource) : s.Preserves (s.requestTest source) := by
  refine withBtu (by split <;> rfl) fun sound => ?_
  simp only [State.withBtu]
  split
  · next idle =>
    have q : s.quietTest := .inl (by simpa using idle)
    obtain ⟨settle, load⟩ := sound.timers_idle q
    exact .of_quiet (.inr rfl) settle load
  · exact .of_view (s := s) rfl sound

/-- A test is started where its conditions hold, READY with no element PICKED among them (R78). -/
theorem startTest (conditions : (s.btu.test == .pending && s.testConditions) = true) : s.Preserves s.startTest := by
  unfold State.testConditions State.anyPicked at conditions
  simp only [Bool.and_eq_true, beq_iff_eq, Bool.not_eq_true'] at conditions
  obtain ⟨pending, ⟨⟨⟨⟨-, ready⟩, unpicked⟩, -⟩, -⟩, -⟩ := conditions
  refine (withBtu rfl fun sound => ?_).trans (setCharger _ _)
  obtain ⟨-, load⟩ := sound.timers_idle (.inr pending)
  simp only [PerElem.map, PerElem.anySet, Bool.or_eq_false_iff] at unpicked
  obtain ⟨⟨⟨a, b⟩, c⟩, g⟩ := unpicked
  exact ⟨fun _ => ⟨ready, by simp [PerElem.toList, a, b, c, g]⟩, fun _ => rfl, by simp [load]⟩

theorem testAtArrival : s.Preserves s.testAtArrival := by
  unfold State.testAtArrival
  simp only
  have tested : s.Preserves (s.withBtu fun b => { b with testMoment := false }) := withBtu rfl (.of_view rfl)
  exact tested.trans (onlyIf fun conditions => startTest _ conditions)

theorem settleEnds (ends : due s.btu.settle = true) : s.Preserves s.settleEnds := by
  refine withBtu rfl fun sound => ?_
  rw [due_iff] at ends
  have settle : s.btu.test = .settle := sound.settling (by rw [ends]; rfl)
  exact ⟨fun _ => sound.running (.inl settle), nofun, fun _ => rfl⟩

/-- A result that is not an abandonment ends the test (R83). -/
theorem handleResult {result : TestResult} (ended : (result == .abandoned) = false) (resistance : Option Nat)
    (cause : Option AbandonCause) : s.Preserves (s.handleResult result resistance cause) := by
  unfold State.handleResult
  simp only [ended]
  exact ((record s _).trans (withBtu rfl fun _ => .of_quiet (.inl rfl) rfl rfl)).trans (onlyIf fun _ => setCharger _ _)

theorem testVerdict_ne_abandoned (limit v1 : Nat) (resistance : Option Nat) :
    (testVerdict limit v1 resistance == .abandoned) = false := by
  unfold testVerdict
  repeat' split
  all_goals rfl

theorem loadEnds : s.Preserves s.loadEnds := by
  unfold State.loadEnds
  simp only
  refine .trans ?_ (handleResult _ (testVerdict_ne_abandoned _ _ _) _ _)
  refine (of_untouched rfl rfl rfl rfl rfl : s.Preserves { s with free := s.free + 1 }).trans (withBtu rfl fun sound => ?_)
  exact ⟨sound.running, sound.settling, by simp⟩

end State.Preserves

end Sys2Proof.Machine
end

section
/-! SUPPORT. The frame step of the OCU in its stages, and the deliveries of a good frame, as they keep the groups sound. -/

namespace Sys2Proof.Machine

/-! ### The stages of a frame step (R9, R12, R19) -/

/-- The OCU after the elements have stepped, nothing yet handed out. -/
def State.stepped (s : State) (f : MeasFields) : State :=
  s.withOcu fun o =>
    { o with
      elems := (s.computeStep f).elems
      longestRun := (s.computeStep f).longest
      orderRaised := if (s.computeStep f).first then false else o.orderRaised
      phase := { o.phase with releaseDue := false }
      ground := { o.ground with releaseDue := false } }

/-- The first pickup of the step handed out, if it brings one. -/
def State.noticed (s : State) (f : MeasFields) : State :=
  if (s.computeStep f).first then (s.stepped f).firstPickup (s.computeStep f).picked (s.computeStep f).largest
  else s.stepped f

/-- The order of the step handed out, if it brings one. -/
def State.ordered (s : State) (f : MeasFields) : State :=
  match (s.computeStep f).order with
  | some o => (s.noticed f).raiseOrder o
  | none => s.noticed f

/-- A frame step is its stages, one after another. -/
theorem State.frameStep_eq (s : State) (f : MeasFields) :
    s.frameStep f =
      if (s.computeStep f).ended then
        (s.ordered f).sqcEpisodeEnd (s.ordered f).ocu.longestRun (s.ordered f).ocu.orderRaised
      else s.ordered f := by
  rfl

/-- What follows the first pickup in a frame step is hand-offs. -/
theorem State.noticed_reaches_frameStep {d : Bool} (s : State) (f : MeasFields) :
    (s.noticed f).Reaches d (s.frameStep f) := by
  have ordered : (s.noticed f).Reaches d (s.ordered f) := by
    unfold State.ordered
    split
    · exact (State.Reaches.refl _).raiseOrder _
    · exact .refl _
  rw [State.frameStep_eq]
  split
  · exact ordered.sqcEpisodeEnd _ _
  · exact ordered

theorem State.stepped_reaches_noticed {d : Bool} (s : State) (f : MeasFields) :
    (s.stepped f).Reaches d (s.noticed f) := by
  unfold State.noticed
  split
  · exact (State.Reaches.refl _).firstPickup _ _
  · exact .refl _

/-- All that a frame step does after the elements have stepped is hand-offs. -/
theorem State.stepped_reaches_frameStep {d : Bool} (s : State) (f : MeasFields) :
    (s.stepped f).Reaches d (s.frameStep f) :=
  (s.stepped_reaches_noticed f).trans (s.noticed_reaches_frameStep f)

theorem State.computeStep_elems (s : State) (f : MeasFields) :
    (s.computeStep f).elems = (s.elemInputs f).zip (stepElement s.cfg.timedReset s.cfg.decay) s.ocu.elems := rfl

/-- The elements after a frame step are those of the step (R9 to R15, R18). -/
theorem State.frameStep_elems (s : State) (f : MeasFields) : (s.frameStep f).ocu.elems = (s.computeStep f).elems :=
  (s.stepped_reaches_frameStep (d := false) f).elems

/-! ### The ranges of a stepped element (R10, R15, R18) -/

theorem increment_le (rate dial : Nat) : increment rate dial ≤ 1048576 := Nat.min_le_left _ _

theorem accumulate_le (timed : Bool) (decay : Nat) (i : ElemInput) (was : Bool) (m : Nat) {acc : Nat} (h : acc ≤ 1048576) :
    accumulate timed decay i was m acc ≤ 1048576 := by
  unfold accumulate
  repeat' split
  · exact Nat.min_le_left _ _
  · exact h
  · exact (Nat.sub_le _ _).trans h
  · exact Nat.zero_le _

theorem countAfter_le (inst : Option Nat) (m count : Nat) : countAfter inst m count ≤ 2 := by
  unfold countAfter
  repeat' split
  · exact Nat.min_le_left _ _
  · exact Nat.zero_le _
  · exact Nat.zero_le _

/-- A step keeps an element in its ranges. -/
theorem stepElement_ranged (timed : Bool) (decay : Nat) (i : ElemInput) {e : Element} (h : e.acc ≤ 1048576) :
    (stepElement timed decay i e).m ≤ 10240 ∧ (stepElement timed decay i e).acc ≤ 1048576 ∧
      (stepElement timed decay i e).count ≤ 2 ∧ (stepElement timed decay i e).run ≤ 65535 := by
  refine ⟨Nat.min_le_left _ _, accumulate_le _ _ _ _ _ h, countAfter_le _ _ _, ?_⟩
  simp only [stepElement]
  split
  · exact count16_le _
  · exact Nat.zero_le _

/-- The members of a zipped quadruple, element by element. -/
theorem PerElem.forall_toList_zip {α β γ : Type} {f : α → β → γ} {x : PerElem α} {y : PerElem β} {p : γ → Prop}
    (h : ∀ a, ∀ b ∈ y.toList, p (f a b)) : ∀ c ∈ (x.zip f y).toList, p c := by
  intro c hc
  simp only [PerElem.zip, PerElem.toList, List.mem_cons, List.not_mem_nil, or_false] at hc h
  rcases hc with rfl | rfl | rfl | rfl
  all_goals exact h _ _ (by simp)

/-- No element of a set is named. -/
theorem PerElem.anySet_eq_false_iff {e : ElementSet} :
    e.anySet = false ↔ e.a = false ∧ e.b = false ∧ e.c = false ∧ e.g = false := by
  simp only [PerElem.anySet, Bool.or_eq_false_iff, and_assoc]

theorem forall_unpicked_iff {elems : PerElem Element} :
    (∀ e ∈ elems.toList, e.picked = false) ↔ (elems.map (·.picked)).anySet = false := by
  rw [PerElem.anySet_eq_false_iff]
  simp [PerElem.toList, PerElem.map]

/-- Without an element PICKED before, a frame step that picks one up brings a first pickup. -/
theorem State.computeStep_first (s : State) (f : MeasFields) (none_ : ∀ e ∈ s.ocu.elems.toList, e.picked = false) :
    (s.computeStep f).first = ((s.computeStep f).elems.map (·.picked)).anySet := by
  rw [forall_unpicked_iff] at none_
  simp only [State.computeStep, none_, Bool.not_false, Bool.true_and]

/-- A frame step leaves a sound test so: the first pickup of the step abandons one that runs (R12, R82). -/
theorem State.TestSound.noticed {s : State} (h : s.TestSound) (f : MeasFields) : (s.noticed f).TestSound := by
  rcases s.quietTest_or_running with q | running
  · obtain ⟨settle, load⟩ := h.timers_idle q
    exact (s.stepped_reaches_noticed (d := false) f).test (.of_quiet q settle load)
  · obtain ⟨seq, none_⟩ := h.running running
    have first := s.computeStep_first f none_
    unfold State.noticed
    split
    · unfold State.firstPickup
      rw [State.abandonTest_of_running (by simpa [State.stepped] using running)]
      obtain ⟨part, -⟩ := State.handleResult_abandoned
        (((s.stepped f).buildPickup (s.computeStep f).picked (s.computeStep f).largest).sqcFirstPickup
          (s.computeStep f).picked) .pickup
      exact .of_quiet (.inr (congrArg TestPart.test part)) (congrArg TestPart.settle part) (congrArg TestPart.load part)
    · next no_first =>
      rw [first, Bool.not_eq_true, ← forall_unpicked_iff] at no_first
      exact ⟨fun _ => ⟨seq, no_first⟩, h.settling, h.loading⟩

namespace State.Preserves

variable (s : State)

theorem frameStep (f : MeasFields) : s.Preserves (s.frameStep f) := by
  have later := (s.stepped_reaches_frameStep (d := false) f).preserves
  refine ⟨fun sound => later.ranges ?_, fun sound => later.inputs (.of_view (s := s) rfl rfl sound),
    fun sound => later.settings (.of_view (s := s) rfl id sound), fun sound =>
      (s.noticed_reaches_frameStep (d := false) f).test (sound.noticed f)⟩
  exact
    { sound with
      elements := by
        rw [show (s.stepped f).ocu.elems = _ from s.computeStep_elems f]
        exact PerElem.forall_toList_zip fun i e he => stepElement_ranged _ _ i (sound.elements e he).2.1 }

/-! ### The other deliveries (R4, R50, R72, R122) -/

/-- An update of the CDU that keeps the contacts. -/
theorem withCdu {s : State} {f : Cdu → Cdu} (closed : (f s.cdu).closedMade = s.cdu.closedMade)
    (open_ : (f s.cdu).openMade = s.cdu.openMade) : s.Preserves (s.withCdu f) :=
  of_untouched rfl rfl (funext fun pin => by cases pin <;> first | rfl | exact closed | exact open_) rfl rfl

theorem deliverVoltages (tripV closeV : Nat) (closing : Bool) : s.Preserves (s.deliverVoltages tripV closeV closing) := by
  unfold State.deliverVoltages
  exact (withCdu rfl rfl).trans ((State.Reaches.refl (d := false) _).refreshCharge.handReports.preserves)

theorem deliverBattery (v : Nat) (i temperature : Int) : s.Preserves (s.deliverBattery v i temperature) := by
  unfold State.deliverBattery
  exact (withBtu rfl (.of_view rfl)).trans
    ((State.Reaches.refl (d := true) _).sendSetpoint.judgeBattery.watchLowVoltage.watchTaper.preserves)

theorem sqcSource (present : Bool) : s.Preserves (s.sqcSource present) := of_untouched rfl rfl rfl rfl rfl

theorem takeHead : s.Preserves s.takeHead := by
  unfold State.takeHead
  split
  · exact refl s
  · next x rest held =>
    refine (of_ranges (s := s) (t := s.withChc fun c => { c with queue := rest }) (fun sound => ?_) rfl rfl rfl rfl).trans
      ((State.Reaches.refl (d := false) _).applyRecord x).preserves
    have received := sound.received
    rw [held, List.length_cons] at received
    exact { sound with received := show rest.length ≤ 6 by omega }

theorem deliver (f : MeasFields) (closing : Bool) (d : Delivery) : s.Preserves (s.deliver f closing d) := by
  cases d with
  | ocu => exact frameStep s f
  | cdu => exact deliverVoltages s _ _ _
  | btu => exact deliverBattery s _ _ _
  | sqc => exact sqcSource s _
  | lfsr => exact (State.Reaches.refl (d := true) s).advanceLfsr.preserves
  | take => exact takeHead s
  | test => exact testAtArrival s

theorem foldl_deliver (f : MeasFields) (closing : Bool) (l : List Delivery) :
    s.Preserves (l.foldl (fun t d => t.deliver f closing d) s) := by
  induction l generalizing s with
  | nil => exact refl s
  | cons d rest ih => exact (deliver s f closing d).trans (ih _)

/-! ### The bits of the measurement link (R1 to R4) -/

theorem takeGoodFrame (f : MeasFields) (order : List Delivery) : s.Preserves (s.takeGoodFrame f order) := by
  unfold State.takeGoodFrame
  refine .trans ?_ (foldl_deliver _ f _ _)
  have taken : s.Preserves (s.withMfp fun m => m.takeGood f) := of_ranges (fun sound =>
    { sound with
      assembly := sound.assembly
      frames := ⟨sound.frames.1, by
        simp only [State.withMfp, Mfp.takeGood]
        split
        · exact satAdd_le _ _ _
        · exact sound.frames.2⟩ }) rfl rfl rfl rfl
  have paced : s.Preserves ((s.withMfp fun m => m.takeGood f).withPru fun p => { p with pace := none }) :=
    taken.trans (of_untouched rfl rfl rfl rfl rfl)
  exact (paced.trans (withBtu rfl (.of_view rfl))).trans (State.Reaches.refl (d := false) _).refreshCharge.preserves

theorem badFrame : s.Preserves s.badFrame :=
  of_ranges (fun sound => { sound with frames := ⟨count16_le _, sound.frames.2⟩ }) rfl rfl rfl rfl

theorem frameArrives (bytes : List Byte) (order : List Delivery) : s.Preserves (s.frameArrives bytes order) := by
  unfold State.frameArrives
  split
  · exact takeGoodFrame s _ _
  · exact badFrame s

end State.Preserves

/-- The length of a frame in progress (R1). -/
def FrameHeld (frame : Option (List Bool)) : Prop := ∀ held, frame = some held → 1 ≤ held.length ∧ held.length ≤ 191

theorem FrameHeld.sampleBit {frame : Option (List Bool)} (h : FrameHeld frame) (b : LinkBit) :
    FrameHeld (sampleBit frame b).1 := by
  unfold Machine.sampleBit
  split
  · rintro _ ⟨⟩
    exact ⟨le_rfl, by simp⟩
  · split
    · exact nofun
    · next held =>
      split
      · exact nofun
      · next unfinished =>
        rintro _ ⟨⟩
        have length := (h held rfl).2
        simp only [List.length_append, List.length_singleton]
        omega

theorem FrameHeld.sampleBits {frame : Option (List Bool)} (h : FrameHeld frame) (bits : List LinkBit) :
    FrameHeld (sampleBits frame bits).1 := by
  induction bits generalizing frame with
  | nil => exact h
  | cons b rest ih => exact ih (h.sampleBit b)

namespace State.Preserves

variable (s : State)

theorem sampled (bits : List LinkBit) : s.Preserves (s.sampled bits) :=
  of_ranges (fun sound => { sound with assembly := FrameHeld.sampleBits sound.assembly bits }) rfl rfl rfl rfl

theorem bitsToShort (bits : List LinkBit) : s.Preserves (s.bitsToShort bits) := by
  unfold State.bitsToShort
  split
  · exact sampled s bits
  · exact (sampled s bits).trans (badFrame _)
  · exact refl s

theorem bitsToArrival (bits : List LinkBit) (order : List Delivery) : s.Preserves (s.bitsToArrival bits order) := by
  unfold State.bitsToArrival
  split
  · exact sampled s bits
  · exact (sampled s bits).trans (frameArrives _ _ _)
  · exact refl s

/-! ### Stall, loss and recovery (R5 to R7, R21) -/

theorem withPru_pace (pace : Timer) : s.Preserves (s.withPru fun p => { p with pace := pace }) :=
  of_untouched rfl rfl rfl rfl rfl

theorem withSqc_memory (memory : Option ElementSet) : s.Preserves (s.withSqc fun q => { q with memory := memory }) :=
  of_untouched rfl rfl rfl rfl rfl

theorem pacedTake : s.Preserves s.pacedTake := (withPru_pace s _).trans (takeHead _)

/-- An update of the MFP that keeps the frame in progress and its counters. -/
theorem withMfp {s : State} {f : Mfp → Mfp}
    (same : ((f s.mfp).frame, (f s.mfp).badFrames, (f s.mfp).framesMissed) =
      (s.mfp.frame, s.mfp.badFrames, s.mfp.framesMissed)) : s.Preserves (s.withMfp f) := by
  rw [Prod.mk.injEq, Prod.mk.injEq] at same
  exact of_untouched (by simp [State.rangesView, same]) rfl rfl rfl rfl

/-- A freeze keeps the elements in their ranges and as they are PICKED (R21). -/
theorem freezeCounts : s.Preserves s.freezeCounts where
  ranges sound :=
    { sound with
      elements := by
        have elements := sound.elements
        simp only [State.freezeCounts, State.withOcu, PerElem.map, PerElem.toList, List.forall_mem_cons, List.not_mem_nil,
          false_imp_iff, implies_true, and_true] at elements ⊢
        simp [elements] }
  inputs := .of_view rfl rfl
  settings := .of_view rfl id
  test sound := by
    refine ⟨fun running => ⟨(sound.running running).1, ?_⟩, sound.settling, sound.loading⟩
    simpa [State.freezeCounts, PerElem.map, PerElem.toList] using (sound.running running).2

theorem stall : s.Preserves s.stall := by
  unfold State.stall
  simp only
  refine (withMfp rfl).trans (onlyIf fun _ => ?_)
  refine .trans ?_ (withPru_pace _ _)
  refine .trans ?_ ((State.Reaches.refl (d := false) _).abandonTest _).refreshCharge.preserves
  refine .trans ?_ (withSqc_memory _ _)
  exact (withMfp rfl).trans (freezeCounts _)

theorem loseMeasurement : s.Preserves s.loseMeasurement := by
  unfold State.loseMeasurement
  exact (withMfp rfl).trans (onlyIf fun _ => ((State.Reaches.refl (d := false) _).record _).sqcMeasurementLost.preserves)

theorem regainMeasurement : s.Preserves s.regainMeasurement := (withMfp rfl).trans (record _ _)

end State.Preserves

end Sys2Proof.Machine
end

section
/-! SUPPORT. The debounced inputs, the receiver, the service port, the starts and the clock keep the groups sound, and so does every
command and every step. -/

namespace Sys2Proof.Machine

/-! ### The debounced inputs (R62, R67, R149, R151) -/

/-- Ending some counts ends those and leaves the other inputs. -/
theorem State.endCounts_line (s : State) (pins : List InputPin) (pin : InputPin) :
    (pins.foldl State.endCount s).inputs.line pin =
      if pin ∈ pins then { level := (s.inputs.line pin).level, count := none } else s.inputs.line pin := by
  induction pins generalizing s with
  | nil => simp
  | cons first rest ih =>
    rw [List.foldl_cons, ih]
    by_cases same : pin = first
    · subst same
      simp [State.endCount]
    · simp [State.endCount, Inputs.line_put_of_ne _ _ same, same]

/-- Counts end as the debounced states follow the levels that their inputs have held. -/
theorem State.InputsSound.followed {s t : State} (h : s.InputsSound) {pins : List InputPin} {level : Bool}
    (held : ∀ pin ∈ pins, (s.inputs.line pin).level = level) (inputs : t.inputs = (pins.foldl State.endCount s).inputs)
    (debounced : ∀ pin, t.debounced pin = if pin ∈ pins then level else s.debounced pin) : t.InputsSound := by
  constructor
  · intro pin
    rw [inputs, State.endCounts_line, debounced]
    by_cases ends : pin ∈ pins
    · simp [ends, held pin ends]
    · simpa [ends] using h.counting pin
  · intro pin n
    rw [inputs, State.endCounts_line]
    by_cases ends : pin ∈ pins
    · simp [ends]
    · simpa [ends] using h.spans pin n

theorem State.InputsSound.inputGoes {s : State} (h : s.InputsSound) (pin : InputPin) (level : Bool) :
    (s.inputGoes pin level).InputsSound := by
  have debounced : (s.inputGoes pin level).debounced = s.debounced := by
    funext p
    cases p <;> simp [State.debounced]
  constructor
  · intro other
    rw [debounced]
    by_cases same : other = pin
    · subst same
      rw [State.inputGoes_line]
      repeat' split
      · exact h.counting other
      · simp_all
      · simp_all
    · rw [State.inputGoes_line_of_ne s level same]
      exact h.counting other
  · intro other n
    by_cases same : other = pin
    · subst same
      rw [State.inputGoes_line]
      repeat' split
      · exact h.spans other n
      · simp
      · simp only [Option.some.injEq]
        omega
    · rw [State.inputGoes_line_of_ne s level same]
      exact h.spans other n

/-- A command of a held input acts where its input has held the level. -/
theorem State.inputHolds_level {s : State} {pin : InputPin} {level : Bool} (h : s.inputHolds pin level = true) :
    (s.inputs.line pin).level = level := by
  rw [State.inputHolds_iff] at h
  rw [h.1]

namespace State.Preserves

variable (s : State)

/-- An update of the inputs that keeps them sound. -/
theorem of_inputs {t : State} (inputs : s.InputsSound → t.InputsSound) (ranges : t.rangesView = s.rangesView)
    (settings : (t.svp.settings, t.chc.lfsr) = (s.svp.settings, s.chc.lfsr)) (test : t.testView = s.testView) :
    s.Preserves t := by
  rw [Prod.mk.injEq] at settings
  exact ⟨.of_view ranges, inputs, .of_view settings.1 (by rw [settings.2]; exact id), .of_view test⟩

theorem inputGoes (pin : InputPin) (level : Bool) : s.Preserves (s.inputGoes pin level) :=
  of_inputs s (fun sound => sound.inputGoes pin level) (by simp [State.rangesView]) (by simp) (by simp [State.testView])

/-- A debounced input whose debounced state follows: `u` is the state just after that, its other effects still to come. -/
theorem debounce {pin : InputPin} {level : Bool} {moment : InputMoment} {change : State → State} (u : State)
    (inputs : u.inputs = (s.endCount pin).inputs)
    (debounced : ∀ p, u.debounced p = if p ∈ [pin] then level else s.debounced p) (ranges : u.rangesView = s.rangesView)
    (settings : (u.svp.settings, u.chc.lfsr) = (s.svp.settings, s.chc.lfsr)) (test : u.testView = s.testView)
    (change_ : u.Preserves (change (s.endCount pin))) : s.Preserves (s.debounce pin level moment change) := by
  cases moment with
  | edge => exact inputGoes s pin level
  | held =>
    refine onlyIf (f := fun s => change (s.endCount pin)) fun holds =>
      .trans (of_inputs s (fun sound => ?_) ranges settings test) change_
    refine sound.followed (pins := [pin]) (level := level) ?_ inputs debounced
    simpa using State.inputHolds_level holds

/-- A panel key (R149). -/
theorem keyChange {pin : InputPin} {pressed : Bool} {moment : InputMoment} {follow : Keys → Keys} {press : State → State}
    (keys : ∀ p, ((s.endCount pin).withTgu fun t => { t with keys := follow t.keys }).debounced p =
      if p ∈ [pin] then pressed else s.debounced p)
    (press_ : ∀ u : State, u.Preserves (press u)) :
    s.Preserves (s.debounce pin pressed moment fun s => s.keyChange pressed follow press) :=
  debounce s ((s.endCount pin).withTgu fun t => { t with keys := follow t.keys }) rfl keys
    rfl rfl rfl (onlyIf fun _ => press_ _)

theorem acReturns_or_acGoes (present : Bool) (moment : InputMoment) :
    s.Preserves (s.debounce .acp present moment fun s => if present then s.acReturns else s.acGoes) := by
  refine debounce s ((s.endCount .acp).withBtu fun b => { b with acPresent := present }) rfl ?_ rfl rfl rfl ?_
  · intro p
    cases p <;> simp [State.debounced]
  · have judged : ∀ u : State, u.Preserves u.judgeBattery := fun u => (State.Reaches.refl u).judgeBattery.preserves
    cases present with
    | true =>
      simp only [if_true, State.acReturns]
      refine .trans ?_ (judged _)
      split
      · refine .trans ?_ (setCharger _ _)
        exact of_untouched rfl rfl rfl rfl rfl
      · exact setCharger _ _
    | false =>
      simp only [Bool.false_eq_true, if_false, State.acGoes]
      refine .trans ?_ (judged _)
      refine .trans ?_ ((State.Reaches.refl (d := false) _).abandonTest _).preserves
      refine .trans ?_ (setCharger _ _)
      exact of_untouched rfl rfl rfl rfl rfl

theorem handleGoesDown (btuFirst : Bool) (moment : InputMoment) :
    s.Preserves (s.debounce .hndl true moment fun s => s.handleGoesDown btuFirst) := by
  refine debounce s ((s.endCount .hndl).withTgu fun t => { t with handleDown := true }) rfl ?_ rfl rfl rfl ?_
  · intro p
    cases p <;> simp [State.debounced]
  · have down := State.Reaches.refl (d := false) ((s.endCount .hndl).withTgu fun t => { t with handleDown := true })
    unfold State.handleGoesDown
    simp only
    split
    · exact (down.abandonTest _).sqcHandleDown.preserves
    · exact (down.sqcHandleDown.abandonTest _).preserves

theorem handleComesUp (moment : InputMoment) :
    s.Preserves (s.debounce .hndl false moment fun s => s.withTgu fun t => { t with handleDown := false }) := by
  refine debounce s ((s.endCount .hndl).withTgu fun t => { t with handleDown := false }) rfl ?_ rfl rfl rfl (refl _)
  intro p
  cases p <;> simp [State.debounced]

/-! ### The contacts (R22, R62 to R65) -/

theorem clearElements : s.Preserves s.clearElements where
  ranges sound :=
    { sound with
      elements := by
        have elements := sound.elements
        simp only [State.clearElements, State.withOcu, PerElem.map, PerElem.toList, List.forall_mem_cons, List.not_mem_nil,
          false_imp_iff, implies_true, and_true] at elements ⊢
        simp [clearElement, elements] }
  inputs := .of_view rfl rfl
  settings := .of_view rfl id
  test sound :=
    ⟨fun running => ⟨(sound.running running).1, by simp [State.clearElements, PerElem.map, PerElem.toList, clearElement]⟩,
      sound.settling, sound.loading⟩

theorem tripConfirmed (clearFirst : Bool) : s.Preserves (s.tripConfirmed clearFirst) := by
  unfold State.tripConfirmed
  split
  · exact (clearElements s).trans ((State.Reaches.refl (d := false) _).endHolds _).preserves
  · exact ((State.Reaches.refl (d := false) s).endHolds _).preserves.trans (clearElements _)

theorem changeToOpen (clearFirst : Bool) : s.Preserves (s.changeToOpen clearFirst) := by
  unfold State.changeToOpen
  split
  · exact (State.Reaches.refl (d := false) s).endTripRequest.sqcTripConfirm.preserves.trans (tripConfirmed _ _)
  · exact (State.Reaches.refl (d := false) s).openWithoutPulse.preserves.trans (onlyIf fun _ => tripConfirmed _ _)

theorem definiteChange (closed clearFirst : Bool) : s.Preserves (s.definiteChange closed clearFirst) := by
  unfold State.definiteChange
  split
  · exact (withCdu rfl rfl).trans (State.Reaches.refl (d := false) _).changeToClosed.preserves
  · exact (withCdu rfl rfl).trans (changeToOpen _ _)

theorem judgePosition (before : Position) (clearFirst : Bool) : s.Preserves (s.judgePosition before clearFirst) := by
  unfold State.judgePosition
  split
  · exact onlyIf fun _ => withCdu rfl rfl
  · exact (withCdu rfl rfl).trans (onlyIf fun _ => definiteChange _ _ _)
  · exact (withCdu rfl rfl).trans (onlyIf fun _ => definiteChange _ _ _)

theorem setContacts {pins : List InputPin} {made : Bool} (held : ∀ pin ∈ pins, s.inputHolds pin made = true)
    (contacts : ∀ pin ∈ pins, pin = .posc ∨ pin = .poso) : s.Preserves (s.setContacts pins made) := by
  refine of_inputs s (fun sound => sound.followed (fun pin hp => State.inputHolds_level (held pin hp)) rfl fun pin => ?_)
    (by simp [State.rangesView]) (by simp) (by simp [State.testView])
  have none_ : ∀ {p}, p ≠ .posc → p ≠ .poso → p ∉ pins := fun hc ho hp => by
    rcases contacts _ hp with e | e
    · exact hc e
    · exact ho e
  unfold State.setContacts
  rw [State.endCounts]
  cases pin with
  | posc => simp [State.debounced]
  | poso => simp [State.debounced]
  | _ => rw [if_neg (none_ (by decide) (by decide))]; rfl

theorem changeContact (contact : Contact) (made clearFirst : Bool) :
    s.Preserves (s.changeContact contact made clearFirst) := by
  unfold State.changeContact
  refine onlyIf fun _ => (setContacts s (fun pin hp => ?_) fun pin hp => ?_).trans (judgePosition _ _ _)
  · exact (List.mem_filter.1 hp).2
  · have named := (List.mem_filter.1 hp).1
    cases contact <;> simp_all [contactPins]

theorem contactsGo (contact : Contact) (made : Bool) : s.Preserves (s.contactsGo contact made) := by
  cases contact with
  | closedContact => exact inputGoes s .posc made
  | openContact => exact inputGoes s .poso made
  | bothContacts => exact (inputGoes s .posc made).trans (inputGoes _ .poso made)

/-! ### The receiver (R102 to R108) -/

/-- An update of the CHC that keeps its ranges and its LFSR. -/
theorem withChc {s : State} {f : Chc → Chc} (ranges : s.RangesSound → (s.withChc f).RangesSound)
    (lfsr : (f s.chc).lfsr = s.chc.lfsr) : s.Preserves (s.withChc f) :=
  of_ranges ranges rfl rfl (by simp [lfsr]) rfl

theorem withChc_toHunt : s.Preserves (s.withChc Chc.toHunt) := withChc (.of_view rfl) rfl

theorem withChc_abortTo (next : RxState) : s.Preserves (s.withChc fun c => c.abortTo next) := by
  refine withChc (fun sound => ?_) rfl
  obtain ⟨accepted, checks, -, overruns⟩ := sound.heard
  exact { sound with heard := ⟨accepted, checks, count16_le _, overruns⟩ }

theorem withChc_settleLatch : s.Preserves (s.withChc Chc.settleLatch) := withChc (.of_view rfl) rfl

theorem withChc_cutOff : s.Preserves (s.withChc Chc.cutOff) := by
  cases rx : s.chc.rx with
  | hunt =>
    rw [show s.withChc Chc.cutOff = s by simp [State.withChc, Chc.cutOff, rx]]
  | sync1 =>
    rw [show s.withChc Chc.cutOff = s.withChc Chc.toHunt by simp [State.withChc, Chc.cutOff, rx]]
    exact withChc_toHunt s
  | body =>
    rw [show s.withChc Chc.cutOff = s.withChc fun c => c.abortTo .hunt by simp [State.withChc, Chc.cutOff, rx]]
    exact withChc_abortTo s .hunt

theorem completeBody (body : List Byte) : s.Preserves (s.completeBody body) := by
  unfold State.completeBody
  refine withChc (fun sound => ?_) ?_
  · obtain ⟨accepted, checks, aborts, overruns⟩ := sound.heard
    simp only [State.withChc, Chc.accept]
    repeat' split
    · exact { sound with heard := ⟨accepted, count16_le _, aborts, overruns⟩ }
    · exact .of_view (s := s) rfl sound
    · next room =>
      refine { sound with heard := ⟨count16_le _, checks, aborts, overruns⟩, received := ?_ }
      simp only [List.length_append, List.length_singleton]
      exact room
    · exact { sound with heard := ⟨accepted, checks, aborts, count16_le _⟩ }
  · simp only [Chc.accept]
    repeat' split
    all_goals rfl

theorem addBody (b : Byte) : s.Preserves (s.addBody b) := by
  unfold State.addBody
  simp only
  repeat' split
  · exact withChc_abortTo s .hunt
  · exact completeBody s _
  · exact withChc (.of_view rfl) rfl

theorem bodyByte (b : Byte) : s.Preserves (s.bodyByte b) := by
  unfold State.bodyByte
  repeat' split
  · exact withChc_abortTo s .sync1
  · exact addBody s _
  · exact addBody s _
  · exact withChc_abortTo s .hunt
  · exact withChc (.of_view rfl) rfl
  · exact addBody s _

theorem hearByte (rx : LineByte) : s.Preserves (s.hearByte rx) := by
  unfold State.hearByte
  repeat' split
  · exact withChc (.of_view rfl) rfl
  · exact refl s
  · exact refl s
  · exact withChc (.of_view rfl) rfl
  · exact refl s
  · exact withChc_toHunt s
  · exact withChc_toHunt s
  · exact bodyByte s _
  · exact withChc_abortTo s .hunt

theorem judgeBusy : s.Preserves s.judgeBusy := (State.Reaches.refl (d := false) s).judgeBusy.preserves

theorem receiveByte (rx : LineByte) : s.Preserves (s.receiveByte rx) :=
  onlyIf fun _ => ((hearByte s rx).trans (withChc_settleLatch _)).trans (judgeBusy _)

theorem changeCarrier (present : Bool) : s.Preserves (s.changeCarrier present) := by
  refine .trans ?_ (judgeBusy _)
  have heard : s.Preserves (s.withChc fun c => { c with carr := present }) := withChc (.of_view rfl) rfl
  unfold State.withChc
  simp only
  repeat' split
  · exact heard
  · exact heard.trans (withChc_cutOff _)
  · exact heard.trans (withChc_settleLatch _)

/-! ### The service port (R170 to R172) -/

theorem serve (r : Request) : s.Preserves (s.serve r) := by
  have same := State.Reaches.refl (d := false) s
  cases r with
  | readStatus part => exact (same.respond _ _ _).preserves
  | readRecordsFrom n =>
    refine .trans ?_ ((State.Reaches.refl (d := false) _).respond _ _ _).preserves
    exact of_untouched rfl rfl rfl rfl rfl
  | readPeerTable => exact (same.respond _ _ _).preserves
  | readTagTable => exact (same.respond _ _ _).preserves
  | operatorTrip => exact same.serveTrip.preserves
  | operatorClose => exact same.serveClose.preserves
  | tagApply code => exact (same.serveTagApply code).preserves
  | tagRemove code => exact (same.serveTagRemove code).preserves
  | batteryTest => exact (requestTest s _).trans ((State.Reaches.refl (d := false) _).respond _ _ _).preserves
  | settingsRestart => exact same.serveRestart.preserves

theorem resetAssembly : s.Preserves s.resetAssembly := (State.Reaches.refl (d := false) s).resetAssembly.preserves

theorem takeRequest (r : Request) : s.Preserves (s.takeRequest r) :=
  onlyIf fun _ => (resetAssembly s).trans (serve _ r)

theorem discardRequest : s.Preserves s.discardRequest := (State.Reaches.refl (d := false) s).discardRequest.preserves

theorem serveBad (code : Byte) : s.Preserves (s.serveBad code) := ((State.Reaches.refl (d := false) s).serveBad code).preserves

theorem judgeFrame (frame : List Byte) : s.Preserves (s.judgeFrame frame) := by
  unfold State.judgeFrame
  simp only
  repeat' split
  · exact discardRequest s
  · exact (resetAssembly s).trans (serve _ _)
  · exact (resetAssembly s).trans (serveBad _ _)

theorem bufferByte (b : Byte) : s.Preserves (s.bufferByte b) := ((State.Reaches.refl (d := false) s).bufferByte b).preserves

theorem assemble (rx : LineByte) : s.Preserves (s.assemble rx) := by
  have same := State.Reaches.refl (d := false) s
  unfold State.assemble
  repeat' split
  · exact (same.withSvp rfl id).preserves
  · exact refl s
  · exact refl s
  · exact ((same.bufferByte _).withSvp rfl id).preserves
  · exact discardRequest s
  · exact discardRequest s
  · simp only
    split
    · exact judgeFrame s _
    · exact bufferByte s _
  · exact discardRequest s

end State.Preserves

end Sys2Proof.Machine
end

section
/-! SUPPORT. The starts, the clock and every command keep the four groups sound. -/

namespace Sys2Proof.Machine

/-! ### The starts (R175 to R182) -/

/-- The settings that a read brings into force pass the judgement of R177: an image that passed it, or the defaults. -/
theorem settingsOf_sound (read : MemRead) :
    (settingsOf read).version = 2 ∧ rangesOk (settingsOf read) = true ∧ (settingsOf read).curves.all curveOk = true := by
  unfold settingsOf
  split
  · next st accepted =>
    unfold judgeImage at accepted
    simp only at accepted
    repeat' split at accepted
    all_goals cases accepted
    next version ranges curves =>
    exact ⟨by simpa using version, by simpa using ranges, by simpa using curves⟩
  · decide +kernel

theorem lfsrSeed_ne_zero (stationId feeder : Nat) : lfsrSeed stationId feeder ≠ 0 := by
  unfold lfsrSeed
  simp only
  split
  · decide
  · assumption

/-- The elements of a start are in their ranges. -/
theorem ocuStart_ranged : ∀ e ∈ ocuStart.elems.toList, e.m ≤ 10240 ∧ e.acc ≤ 1048576 ∧ e.count ≤ 2 ∧ e.run ≤ 65535 := by
  simp [ocuStart, elementStart, PerElem.toList]

theorem State.coldBlocks_ranges (s : State) (settings : MemRead) (i : InputLevels) :
    (s.coldBlocks settings i).RangesSound where
  elements := ocuStart_ranged
  assembly := nofun
  frames := by simp [State.coldBlocks, mfpStart]
  lost := by simp [State.coldBlocks, chcStart]
  sent := by simp [State.coldBlocks, chcStart]
  heard := by simp [State.coldBlocks, chcStart]
  taken := by simp [State.coldBlocks, pruStart]
  received := by simp [State.coldBlocks, chcStart]
  link := rfl

theorem State.coldBlocks_inputs (s : State) (settings : MemRead) (i : InputLevels) :
    (s.coldBlocks settings i).InputsSound where
  counting pin := by cases pin <;> simp [State.coldBlocks, Inputs.line, inputsStart, InputLine.steady, State.debounced,
    cduStart, btuStart, tguStart]
  spans pin n h := by
    rw [show (s.coldBlocks settings i).inputs = inputsStart i from rfl, inputsStart_line] at h
    cases h

theorem State.coldBlocks_settings (s : State) (settings : MemRead) (i : InputLevels) :
    (s.coldBlocks settings i).SettingsSound := by
  obtain ⟨version, ranges, curves⟩ := settingsOf_sound settings
  exact ⟨version, ranges, curves, lfsrSeed_ne_zero _ _⟩

namespace State.Preserves

variable (s : State)

theorem recordFault (fault : Option SettingsFault) : s.Preserves (s.recordFault fault) := by
  unfold State.recordFault
  split
  · exact record s _
  · exact refl s

theorem restoreTags (read : MemRead) : s.Preserves (s.restoreTags read) := by
  have same := State.Reaches.refl (d := false) s
  unfold State.restoreTags
  split
  · exact (same.withTgu rfl rfl).preserves
  · exact ((same.withTgu rfl rfl).record _).preserves

/-- The SQC is set up with no test running. -/
theorem setUpSqc (q : s.quietTest) : s.Preserves s.setUpSqc :=
  of_test (fun sound => .of_quiet q (sound.timers_idle q).1 (sound.timers_idle q).2) rfl rfl rfl rfl

theorem drawStarts (between : List LinkBit) (order : List Delivery) : s.Preserves (s.drawStarts between order) := by
  unfold State.drawStarts
  refine .trans ?_ (withPru_pace _ _)
  refine .trans ?_ (State.Reaches.refl _).drawBeaconDelay.preserves
  exact (State.Reaches.refl _).drawSequence.preserves.trans (bitsToArrival _ _ _)

theorem recordStart (kind : RecordKind) : s.Preserves (s.recordStart kind) := record s _

/-- A cold start leads to a sound state from any (R179). -/
theorem coldStart (settings store : MemRead) (i : InputLevels) (between : List LinkBit) (order : List Delivery) :
    s.Preserves (s.coldStart settings store i between order) := by
  unfold State.coldStart
  refine .trans ?_ ((State.Reaches.refl (d := false) _).withSvp rfl id).preserves
  refine .trans ?_ (recordStart _ _)
  refine .trans ?_ (drawStarts _ _ _)
  refine .trans ?_ (setUpSqc _ (.inl (by simp [State.coldBlocks, btuStart])))
  refine .trans ?_ (restoreTags _ _)
  refine .trans ?_ (recordFault _ _)
  exact of_sound (s.coldBlocks_ranges settings i) (s.coldBlocks_inputs settings i) (s.coldBlocks_settings settings i)
    (.of_quiet (.inl rfl) rfl rfl)

/-- The blocks at their settings restart values (R181): the memory link and the inputs but the contacts are kept. -/
theorem restartBlocks (read : MemRead) (closedMade openMade : Bool) :
    s.Preserves (s.restartBlocks read closedMade openMade) where
  ranges sound :=
    { elements := ocuStart_ranged
      assembly := nofun
      frames := by simp [State.restartBlocks, mfpStart]
      lost := by simp [State.restartBlocks, chcStart]
      sent := by simp [State.restartBlocks, chcStart]
      heard := by simp [State.restartBlocks, chcStart]
      taken := by simp [State.restartBlocks, pruStart]
      received := by simp [State.restartBlocks, chcStart]
      link := sound.link }
  inputs sound := by
    obtain ⟨counting, spans⟩ := sound
    constructor
    · intro pin
      have before := counting pin
      cases pin <;> simp_all [State.restartBlocks, Inputs.line, InputLine.steady, State.debounced, Cdu.restart, cduStart,
        Btu.restart, Tgu.restart]
    · intro pin n
      have before := spans pin n
      cases pin <;> simp_all [State.restartBlocks, Inputs.line, InputLine.steady]
  settings _ := by
    obtain ⟨version, ranges, curves⟩ := settingsOf_sound read
    exact ⟨version, ranges, curves, lfsrSeed_ne_zero _ _⟩
  test _ := .of_quiet (.inl rfl) rfl rfl

theorem respond (code : Byte) (answer : Answer) (payload : List Byte) : s.Preserves (s.respond code answer payload) :=
  ((State.Reaches.refl (d := false) s).respond code answer payload).preserves

theorem applyRestart (read : MemRead) (closedMade openMade : Bool) :
    s.Preserves (s.applyRestart read closedMade openMade) := by
  unfold State.applyRestart
  refine .trans ?_ (respond _ _ _ _)
  refine .trans ?_ (recordStart _ _)
  refine .trans ?_ (drawStarts _ _ _)
  exact (restartBlocks s read closedMade openMade).trans (setUpSqc _ (.inl rfl))

theorem endRead (read : MemRead) (closedMade openMade : Bool) : s.Preserves (s.endRead read closedMade openMade) := by
  unfold State.endRead
  refine .trans ?_ (State.Reaches.refl (d := false) _).freeLink.preserves
  split
  · exact applyRestart s read closedMade openMade
  · exact respond s _ _ _

theorem followRead (event : ReadEvent) (closedMade openMade : Bool) :
    s.Preserves (s.followRead event closedMade openMade) := by
  cases event with
  | ready =>
    refine ((State.Reaches.refl (d := false) s).withSvp ?_ fun sound => ?_).preserves
    · unfold Svp.answerRead
      split <;> rfl
    · unfold Svp.answerRead
      split
      · rfl
      · exact sound
  | ended read => exact onlyIf (f := fun s => s.endRead read closedMade openMade) fun _ => endRead s read closedMade openMade

end State.Preserves

/-! ### The clock (00, Time) -/

theorem tickTimer_isSome (t : Timer) : (tickTimer t).isSome = t.isSome := by cases t <;> rfl

theorem State.Preserves.advance (s : State) : s.Preserves s.advance where
  ranges sound :=
    { sound with
      link := by
        have link := sound.link
        simpa [State.advance, Svp.tick, tickTimer_isSome] using link }
  inputs sound := by
    have debounced : s.advance.debounced = s.debounced := funext fun pin => by cases pin <;> rfl
    constructor
    · intro pin
      rw [debounced]
      simpa [State.advance, InputLine.tick, tickTimer_isSome] using sound.counting pin
    · intro pin n
      simp only [State.advance, Inputs.tick_line, InputLine.tick]
      cases count : (s.inputs.line pin).count with
      | none => simp
      | some left =>
        have span := sound.spans pin left count
        simp only [tickTimer_some, Option.some.injEq]
        omega
  settings := .of_view (s := s) rfl id
  test sound := by
    obtain ⟨running, settling, loading⟩ := sound
    exact ⟨running, by simpa [State.advance, Btu.tick, tickTimer_isSome] using settling,
      by simpa [State.advance, Btu.tick, tickTimer_isSome] using loading⟩

theorem State.Preserves.idle (s : State) : s.Preserves s.idle := by
  unfold State.idle
  repeat' split
  · exact .advance s
  · exact .of_untouched rfl rfl rfl rfl rfl
  · exact .refl s

/-! ### Every command -/

/-- Every command answers a next state that keeps the groups sound. -/
theorem exec_preserves (i : Instr) (s : State) : ∃ t, exec i s = .next t ∧ s.Preserves t := by
  have same := State.Reaches.refl (d := false) s
  have drawing := State.Reaches.refl (d := true) s
  cases i with
  | coldStart settings store inputs between order => exact ⟨_, rfl, .coldStart s _ _ _ _ _⟩
  | shortFrame bits => exact ⟨_, rfl, .whenStarted (.bitsToShort s _)⟩
  | measurementFrame bits order => exact ⟨_, rfl, .whenStarted (.bitsToArrival s _ _)⟩
  | stallPacedTake => exact ⟨_, rfl, .whenStarted (.onlyIf fun _ => .pacedTake s)⟩
  | stalled => exact ⟨_, rfl, .whenStarted (.onlyIf fun _ => .stall s)⟩
  | measurementLost => exact ⟨_, rfl, .whenStarted (.onlyIf fun _ => .loseMeasurement s)⟩
  | measurementBack => exact ⟨_, rfl, .whenStarted (.onlyIf fun _ => .regainMeasurement s)⟩
  | closeChargeTimerExpiry => exact ⟨_, rfl, .whenStarted (.onlyIf fun _ => same.closeEnergyFault.preserves)⟩
  | tripPulseEnd => exact ⟨_, rfl, .whenStarted (.onlyIf fun _ => same.endPulse.handReports.preserves)⟩
  | closePulseEnd => exact ⟨_, rfl, .whenStarted (.onlyIf fun _ => same.endPulse.handReports.preserves)⟩
  | tripWindowEnd => exact ⟨_, rfl, .whenStarted (.onlyIf fun _ => same.endTripWindow.preserves)⟩
  | closeWindowEnd => exact ⟨_, rfl, .whenStarted (.onlyIf fun _ => same.endCloseWindow.preserves)⟩
  | tripWaitExpiry => exact ⟨_, rfl, .whenStarted (.onlyIf fun _ => same.tripEnergyFault.preserves)⟩
  | retripWaitExpiry => exact ⟨_, rfl, .whenStarted (.onlyIf fun _ => same.mechanismFailure.preserves)⟩
  | contactChange contact made clearFirst moment =>
    cases moment with
    | edge => exact ⟨_, rfl, .whenStarted (.contactsGo s _ _)⟩
    | held => exact ⟨_, rfl, .whenStarted (.changeContact s _ _ _)⟩
  | positionFault => exact ⟨_, rfl, .whenStarted (.onlyIf fun _ => same.raisePositionFault.preserves)⟩
  | recloseTimerExpiry => exact ⟨_, rfl, .whenStarted (.onlyIf fun _ => (same.closeGate _).preserves)⟩
  | chargeTimerExpiry =>
    exact ⟨_, rfl, .whenStarted (.onlyIf fun _ => (same.withSqc rfl rfl).sqcCloseEnergyFault.preserves)⟩
  | resetTimerExpiry => exact ⟨_, rfl, .whenStarted (.onlyIf fun _ => same.sqcResetExpiry.preserves)⟩
  | manualCloseWindowExpiry => exact ⟨_, rfl, .whenStarted (.onlyIf fun _ => (same.withSqc rfl rfl).preserves)⟩
  | startHoldExpiry => exact ⟨_, rfl, .whenStarted (.onlyIf fun _ => (same.withSqc rfl rfl).preserves)⟩
  | holdExpiry kind => exact ⟨_, rfl, .whenStarted (.onlyIf fun _ => (same.endHold _ _).preserves)⟩
  | acPresentChange present moment => exact ⟨_, rfl, .whenStarted (.acReturns_or_acGoes s _ _)⟩
  | lowVoltageTimerExpiry => exact ⟨_, rfl, .whenStarted (.onlyIf fun _ => same.setShutdown.preserves)⟩
  | disconnectTimerExpiry => exact ⟨_, rfl, .whenStarted (.onlyIf fun _ => drawing.releaseContactor.preserves)⟩
  | setpointWordSent => exact ⟨_, rfl, .whenStarted (.onlyIf fun _ => same.endSetpointWord.preserves)⟩
  | taperTimerExpiry => exact ⟨_, rfl, .whenStarted (.onlyIf fun _ => .endBoost s)⟩
  | boostLimitExpiry => exact ⟨_, rfl, .whenStarted (.onlyIf fun _ => .boostLimitEnds s)⟩
  | scheduleTimerExpiry => exact ⟨_, rfl, .whenStarted (.onlyIf fun _ => .withBtu rfl (.of_view rfl))⟩
  | scheduledTestRequest =>
    exact ⟨_, rfl, .whenStarted (.onlyIf fun _ =>
      (State.Preserves.withBtu (f := fun b => { b with scheduleDue := false }) rfl (.of_view rfl)).trans
        (.requestTest _ _))⟩
  | testStart =>
    refine ⟨_, rfl, .whenStarted (.onlyIf fun conditions => .startTest s ?_)⟩
    simp only [Bool.and_eq_true] at conditions ⊢
    exact ⟨conditions.1.1, conditions.2⟩
  | settleTimerExpiry => exact ⟨_, rfl, .whenStarted (.onlyIf fun ends => .settleEnds s ends)⟩
  | loadTimerExpiry => exact ⟨_, rfl, .whenStarted (.onlyIf fun _ => .loadEnds s)⟩
  | quietCountEnd => exact ⟨_, rfl, .whenStarted (.onlyIf fun _ => drawing.enterBackoff.preserves)⟩
  | backoffEnd => exact ⟨_, rfl, .whenStarted (.onlyIf fun _ => same.enterKeyUp.preserves)⟩
  | radioReadySeen => exact ⟨_, rfl, .whenStarted same.seeReady.preserves⟩
  | readyTimerExpiry => exact ⟨_, rfl, .whenStarted (.onlyIf fun _ => same.readyFails.preserves)⟩
  | readyDrop sent back => exact ⟨_, rfl, .whenStarted (same.dropReady _ _).preserves⟩
  | abortSent => exact ⟨_, rfl, .whenStarted (.onlyIf fun _ => same.endAbort.preserves)⟩
  | copySent => exact ⟨_, rfl, .whenStarted (.onlyIf fun _ => drawing.sendCopy.preserves)⟩
  | keyDownExpiry => exact ⟨_, rfl, .whenStarted (.onlyIf fun _ => same.endKeyDown.preserves)⟩
  | jabberExpiry => exact ⟨_, rfl, .whenStarted (.onlyIf fun _ => same.channelReset.preserves)⟩
  | carrierChange present => exact ⟨_, rfl, .whenStarted (.onlyIf fun _ => .changeCarrier s _)⟩
  | radioByte rx => exact ⟨_, rfl, .whenStarted (.receiveByte s _)⟩
  | receiveGapTimeout => exact ⟨_, rfl, .whenStarted (.onlyIf fun _ => .withChc_cutOff s)⟩
  | beaconTimerExpiry => exact ⟨_, rfl, .whenStarted (.onlyIf fun _ => same.expireBeacon.preserves)⟩
  | peerSilent id => exact ⟨_, rfl, .whenStarted (same.agePeer _ _ _).preserves⟩
  | peerRemoval id => exact ⟨_, rfl, .whenStarted (same.agePeer _ _ _).preserves⟩
  | wandAbort runs => exact ⟨_, rfl, .whenStarted (same.followWand _ _).preserves⟩
  | crewCodeComplete runs => exact ⟨_, rfl, .whenStarted (same.followCode _).preserves⟩
  | crewWindowExpiry => exact ⟨_, rfl, .whenStarted (.onlyIf fun _ => same.closeWindow.preserves)⟩
  | errorToneExpiry => exact ⟨_, rfl, .whenStarted (.onlyIf fun _ => (same.withTgu rfl rfl).preserves)⟩
  | toneToggle => exact ⟨_, rfl, .whenStarted (.onlyIf fun _ => same.toggleTone.preserves)⟩
  | tripKey pressed moment =>
    exact ⟨_, rfl, .whenStarted (.keyChange s (fun p => by cases p <;> simp [State.debounced])
      fun u => (State.Reaches.refl (d := false) u).tripPress.preserves)⟩
  | closeKey pressed moment =>
    exact ⟨_, rfl, .whenStarted (.keyChange s (fun p => by cases p <;> simp [State.debounced])
      fun u => (State.Reaches.refl (d := false) u).closePress.preserves)⟩
  | tagOnKey pressed moment =>
    exact ⟨_, rfl, .whenStarted (.keyChange s (fun p => by cases p <;> simp [State.debounced])
      fun u => (State.Reaches.refl (d := false) u).tagOnPress.preserves)⟩
  | tagOffKey pressed moment =>
    exact ⟨_, rfl, .whenStarted (.keyChange s (fun p => by cases p <;> simp [State.debounced])
      fun u => (State.Reaches.refl (d := false) u).tagOffPress.preserves)⟩
  | batteryTestKey pressed moment =>
    exact ⟨_, rfl, .whenStarted (.keyChange s (fun p => by cases p <;> simp [State.debounced])
      fun u => .requestTest u _)⟩
  | handleDown btuFirst moment => exact ⟨_, rfl, .whenStarted (.handleGoesDown s _ _)⟩
  | handleUp moment => exact ⟨_, rfl, .whenStarted (.handleComesUp s _)⟩
  | operatorTrip => exact ⟨_, rfl, .whenStarted (.takeRequest s _)⟩
  | operatorClose => exact ⟨_, rfl, .whenStarted (.takeRequest s _)⟩
  | tagApply code => exact ⟨_, rfl, .whenStarted (.takeRequest s _)⟩
  | tagRemove code => exact ⟨_, rfl, .whenStarted (.takeRequest s _)⟩
  | tagStoreWriteEnd acknowledged => exact ⟨_, rfl, .whenStarted (.onlyIf fun _ => (same.endWrite _).preserves)⟩
  | batteryTest => exact ⟨_, rfl, .whenStarted (.takeRequest s _)⟩
  | readStatus part => exact ⟨_, rfl, .whenStarted (.takeRequest s _)⟩
  | readRecordsFrom number => exact ⟨_, rfl, .whenStarted (.takeRequest s _)⟩
  | readPeerTable => exact ⟨_, rfl, .whenStarted (.takeRequest s _)⟩
  | readTagTable => exact ⟨_, rfl, .whenStarted (.takeRequest s _)⟩
  | settingsRestart => exact ⟨_, rfl, .whenStarted (.takeRequest s _)⟩
  | settingsRestartApply event closedMade openMade =>
    exact ⟨_, rfl, .whenStarted (.onlyIf fun _ => .followRead s _ _ _)⟩
  | badRequest code payload =>
    exact ⟨_, rfl, .whenStarted (.onlyIf fun _ => (same.resetAssembly.serveBad _).preserves)⟩
  | requestDiscarded cause => exact ⟨_, rfl, .whenStarted (.onlyIf fun _ => .discardRequest s)⟩
  | serviceGapTimeout => exact ⟨_, rfl, .whenStarted (.onlyIf fun _ => .discardRequest s)⟩
  | responseSent => exact ⟨_, rfl, .whenStarted (.onlyIf fun _ => (same.withSvp rfl id).preserves)⟩
  | wandMark runs => exact ⟨_, rfl, .whenStarted (same.followWand _ _).preserves⟩
  | serviceByte rx => exact ⟨_, rfl, .whenStarted (.onlyIf fun _ => .assemble s _)⟩

/-- No step leaves a sound group. -/
theorem step_preserves {s t : State} (h : step s = .next t) : s.Preserves t := by
  unfold step at h
  split at h
  · next i rest waiting =>
    obtain ⟨u, hu, kept⟩ := exec_preserves i { s with pending := rest }
    rw [hu, Host.Outcome.next.injEq] at h
    subst h
    exact (State.Preserves.of_untouched rfl rfl rfl rfl rfl : s.Preserves { s with pending := rest }).trans kept
  · rw [Host.Outcome.next.injEq] at h
    subst h
    exact .idle s

end Sys2Proof.Machine

/-! ### The statements -/

open Sys2Proof.Machine in
/-- Settles O5: the groups are kept by every command and by the clock. -/
theorem stepKeepsTheRangesAndTheSettingsSound : Obligations.StepKeepsTheRangesAndTheSettingsSound :=
  ⟨fun _ _ sound h => (step_preserves h).ranges sound, fun _ _ sound h => (step_preserves h).inputs sound,
    fun _ _ sound h => (step_preserves h).settings sound⟩

end

section
/-! SUPPORT. The state that the model starts in is sound in every group. -/

namespace Sys2Proof.Machine

theorem State.reset_rangesSound : State.reset.RangesSound where
  elements := ocuStart_ranged
  assembly := nofun
  frames := by decide
  lost := by decide
  sent := by decide
  heard := by decide
  taken := by decide
  received := by decide
  link := rfl

/-- The part starts in LOCKOUT with the reason START, the contacts at rest being Indeterminate (R49). -/
theorem State.reset_sequenceSound : State.reset.SequenceSound where
  limit := by decide
  shots := by decide
  ready := nofun
  counting := nofun
  tripping := nofun
  reason := by decide
  reclose := nofun
  charge := nofun
  reset := nofun

theorem State.reset_tagsSound : State.reset.TagsSound where
  size := by decide
  locals := by decide
  pairs := List.nodup_nil
  store := nofun
  remote := nofun
  overflow := nofun
  holds := nofun

theorem State.reset_peersSound : State.reset.PeersSound where
  places := rfl
  ids := by decide
  range := nofun
  senders := nofun

theorem State.reset_wandSound : State.reset.WandSound where
  glitch := nofun
  header := nofun
  marks := nofun
  spaces := nofun
  trailer := nofun
  silence := nofun
  incomplete := nofun

/-- Every input stands at its level with no count (R66, R84, R162). -/
theorem State.reset_inputsSound : State.reset.InputsSound where
  counting pin := by cases pin <;> decide
  spans pin n h := by
    rw [show State.reset.inputs = inputsStart idleLevels from rfl, inputsStart_line] at h
    cases h

theorem State.reset_settingsSound : State.reset.SettingsSound where
  version := rfl
  ranges := by decide +kernel
  curves := by decide +kernel
  lfsr := lfsrSeed_ne_zero defaultSettings.stationId defaultSettings.feeder

end Sys2Proof.Machine

/-! ### The statement -/

open Sys2Proof.Machine in
/-- Settles O9, group by group. -/
theorem resetIsSound : Obligations.ResetIsSound :=
  ⟨⟨nofun, nofun, by decide, by decide, nofun, by decide⟩, ⟨by decide, by decide, nofun⟩, State.reset_rangesSound,
    State.reset_sequenceSound, ⟨nofun, nofun, by decide, nofun, nofun⟩, State.reset_tagsSound, State.reset_peersSound,
    State.reset_settingsSound, .of_quiet (.inl rfl) rfl rfl, State.reset_wandSound, State.reset_inputsSound⟩

end

section
/-! SUPPORT. A curve table as a rising list of breakpoints, the rate it gives at a multiple, and the increment of a rate (R13, R14). -/

namespace Sys2Proof.Machine

/-- The breakpoint that a table has at a place, nothing past its end. -/
def breakpointAt (c : List Breakpoint) (k : Nat) : Breakpoint := c.getD k ⟨0, 0⟩

theorem breakpointsRise_iff (c : List Breakpoint) :
    breakpointsRise c = true ↔ ∀ k, k + 1 < c.length →
      (breakpointAt c k).m < (breakpointAt c (k + 1)).m ∧ (breakpointAt c k).r ≤ (breakpointAt c (k + 1)).r := by
  induction c with
  | nil => simp [breakpointsRise]
  | cons x rest ih =>
    cases rest with
    | nil => simp [breakpointsRise]
    | cons y rest =>
      simp only [breakpointsRise, Bool.and_eq_true, decide_eq_true_eq, ih]
      constructor
      · rintro ⟨first, later⟩ k bound
        cases k with
        | zero => exact first
        | succ k => exact later k (by simpa using bound)
      · exact fun all => ⟨all 0 (by simp), fun k bound => all (k + 1) (by simpa using bound)⟩

theorem all_breakpoints_iff (c : List Breakpoint) (p : Breakpoint → Bool) :
    c.all p = true ↔ ∀ k, k < c.length → p (breakpointAt c k) = true := by
  simp only [List.all_eq_true, breakpointAt]
  constructor
  · intro all k bound
    rw [List.getD_eq_getElem c _ bound]
    exact all _ (List.getElem_mem bound)
  · intro all x member
    obtain ⟨k, bound, rfl⟩ := List.mem_iff_getElem.mp member
    have holds := all k bound
    rwa [List.getD_eq_getElem c _ bound] at holds

/-- The first breakpoint of a rising table is its lowest. -/
theorem head_m_le {x : Breakpoint} {rest : List Breakpoint} (rise : breakpointsRise (x :: rest) = true) (k : Nat)
    (bound : k < (x :: rest).length) : x.m ≤ (breakpointAt (x :: rest) k).m := by
  rw [breakpointsRise_iff] at rise
  induction k with
  | zero => exact le_refl _
  | succ k ih => exact (ih (by omega)).trans (rise k bound).1.le

theorem breakpointsRise_tail {x y : Breakpoint} {rest : List Breakpoint} (rise : breakpointsRise (x :: y :: rest) = true) :
    breakpointsRise (y :: rest) = true := by
  simp only [breakpointsRise, Bool.and_eq_true] at rise
  exact rise.2

/-- Past its second breakpoint a table gives the rate that the rest of it gives. -/
theorem curveRate_tail {x y : Breakpoint} {rest : List Breakpoint} {m : Nat} (past : y.m ≤ m) :
    curveRate (x :: y :: rest) m = curveRate (y :: rest) m := by
  simp [curveRate, past.not_gt]

/-- Between two breakpoints the rate is interpolated (R13). -/
theorem curveRate_between {c : List Breakpoint} (rise : breakpointsRise c = true) {k m : Nat} (bound : k + 1 < c.length)
    (low : (breakpointAt c k).m ≤ m) (high : m < (breakpointAt c (k + 1)).m) :
    curveRate c m = (breakpointAt c k).r + ((breakpointAt c (k + 1)).r - (breakpointAt c k).r) * (m - (breakpointAt c k).m) /
      ((breakpointAt c (k + 1)).m - (breakpointAt c k).m) := by
  induction c generalizing k with
  | nil => simp at bound
  | cons x rest ih =>
    cases rest with
    | nil => simp at bound
    | cons y rest =>
      cases k with
      | zero =>
        have below : m < y.m := high
        simp [curveRate, below, breakpointAt]
      | succ k =>
        have tail := breakpointsRise_tail rise
        have past : y.m ≤ m := (head_m_le tail k (by simp at bound ⊢; omega)).trans low
        rw [curveRate_tail past]
        exact ih tail (by simpa using bound) low high

/-- At and past the last breakpoint the rate is that breakpoint's (R13). -/
theorem curveRate_last {c : List Breakpoint} (rise : breakpointsRise c = true) {k m : Nat} (last : k + 1 = c.length)
    (past : (breakpointAt c k).m ≤ m) : curveRate c m = (breakpointAt c k).r := by
  induction c generalizing k with
  | nil => simp at last
  | cons x rest ih =>
    cases rest with
    | nil =>
      obtain rfl : k = 0 := by simpa using last
      rfl
    | cons y rest =>
      obtain ⟨j, rfl⟩ : ∃ j, k = j + 1 := ⟨rest.length, by simpa using last⟩
      have tail := breakpointsRise_tail rise
      rw [curveRate_tail ((head_m_le tail j (by simp at last ⊢; omega)).trans past)]
      exact ih tail (by simpa using last) past

/-- At a breakpoint the rate is that breakpoint's own (R13). -/
theorem curveRate_at {c : List Breakpoint} (rise : breakpointsRise c = true) {k : Nat} (bound : k < c.length) :
    curveRate c (breakpointAt c k).m = (breakpointAt c k).r := by
  rcases Nat.lt_or_ge (k + 1) c.length with inner | outer
  · have rising := ((breakpointsRise_iff c).mp rise k inner).1
    rw [curveRate_between rise inner (le_refl _) rising]
    simp
  · exact curveRate_last rise (by omega) (le_refl _)

/-- The multiples of a rising table of 12 lie at or below its last. -/
theorem m_le_last {c : List Breakpoint} (rise : breakpointsRise c = true) {n : Nat} (last : n < c.length) (k : Nat) (bound : k ≤ n) :
    (breakpointAt c k).m ≤ (breakpointAt c n).m := by
  rw [breakpointsRise_iff] at rise
  induction n with
  | zero => rw [Nat.le_zero.mp bound]
  | succ n ih =>
    rcases Nat.lt_or_ge n k with past | within
    · rw [show k = n + 1 by omega]
    · exact (ih (by omega) within).trans (rise n last).1.le

/-- The conditions of R13 on a table of 12 breakpoints, breakpoint by breakpoint. -/
theorem curveOk_iff {c : List Breakpoint} (length : c.length = 12) :
    curveOk c = true ↔ (breakpointAt c 0).m = 256 ∧ (breakpointAt c 11).m ≤ 10240 ∧
      (∀ k, k < 11 → (breakpointAt c k).m < (breakpointAt c (k + 1)).m ∧ (breakpointAt c k).r ≤ (breakpointAt c (k + 1)).r) ∧
      (∀ k, k < 12 → 1 ≤ (breakpointAt c k).r ∧ (breakpointAt c k).r ≤ 1048576) := by
  have rise : breakpointsRise c = true ↔ ∀ k, k < 11 → (breakpointAt c k).m < (breakpointAt c (k + 1)).m ∧
      (breakpointAt c k).r ≤ (breakpointAt c (k + 1)).r := by
    rw [breakpointsRise_iff, length]
    exact forall_congr' fun k => imp_congr_left (by omega)
  have first : (c.head?.map (·.m) == some 256) = true ↔ (breakpointAt c 0).m = 256 := by
    cases c with
    | nil => simp at length
    | cons x rest => simp [breakpointAt]
  simp only [curveOk, Bool.and_eq_true, first, rise, all_breakpoints_iff, length, inRange, decide_eq_true_eq]
  constructor
  · rintro ⟨⟨⟨start, rising⟩, multiples⟩, rates⟩
    exact ⟨start, multiples 11 (by decide), rising, rates⟩
  · rintro ⟨start, top, rising, rates⟩
    exact ⟨⟨⟨start, rising⟩, fun k bound => (m_le_last (rise.mpr rising) (by omega) k (by omega)).trans top⟩, rates⟩

/-- The increment lies from 1 to F, and is floor(r × 100 / d) where that does (R14). -/
theorem increment_cases (r d : Nat) :
    1 ≤ increment r d ∧ increment r d ≤ 1048576 ∧ (r * 100 / d = 0 → increment r d = 1) ∧
      (1048576 < r * 100 / d → increment r d = 1048576) ∧
      (r * 100 / d ≠ 0 → r * 100 / d ≤ 1048576 → increment r d = r * 100 / d) := by
  unfold increment Config.fullScale
  generalize r * 100 / d = steps
  omega

end Sys2Proof.Machine

/-! ### The statement -/

open Sys2Proof.Machine in
/-- Settles O18: a table of 12 by its rise, and the increment by its clamps. -/
theorem rateAndIncrement : Obligations.RateAndIncrement := by
  refine ⟨fun c length => ⟨curveOk_iff length, fun accepted => ?_⟩, fun r d _ most _ _ => ?_, by decide⟩
  · have rise : breakpointsRise c = true := by
      simp only [curveOk, Bool.and_eq_true] at accepted
      exact accepted.1.1.2
    exact ⟨fun m past => curveRate_last rise (k := 11) length.symm past,
      fun k m bound low high => curveRate_between rise (by omega) low high,
      fun k bound => curveRate_at rise (by omega)⟩
  · obtain ⟨least, most', lifted, capped, exact'⟩ := increment_cases r d
    exact ⟨least, most', by omega, lifted, capped, exact'⟩

end

section
/-! SUPPORT. What an operation comes to as a whole state: the charge enables, a report built, an entry to a sequence state and an entry
to LOCKOUT. -/

namespace Sys2Proof.Machine

/-- Two states of the station are one where their parts are. -/
@[ext] theorem State.ext_parts {s t : State} (now : s.now = t.now) (mfp : s.mfp = t.mfp) (ocu : s.ocu = t.ocu)
    (sqc : s.sqc = t.sqc) (cdu : s.cdu = t.cdu) (btu : s.btu = t.btu) (chc : s.chc = t.chc) (pru : s.pru = t.pru)
    (tgu : s.tgu = t.tgu) (rcs : s.rcs = t.rcs) (svp : s.svp = t.svp) (inputs : s.inputs = t.inputs) (free : s.free = t.free)
    (pending : s.pending = t.pending) : s = t := by
  cases s
  cases t
  simp_all

/-! ### The charge enables (R51, R52) -/

theorem State.refreshCharge_eq (s : State) :
    s.refreshCharge = { s with cdu := s.cdu.charged s.tripChargePermitted s.closeChargePermitted } := by rfl

@[simp] theorem State.refreshCharge_cdu (s : State) :
    s.refreshCharge.cdu = s.cdu.charged s.tripChargePermitted s.closeChargePermitted := by rfl

/-- Charging that is not permitted leaves both enables off and no attempt. -/
theorem Cdu.charged_off (c : Cdu) : c.charged false false = { c with tcen := false, ccen := false, closeCharge := none } := by rfl

/-- The permission of trip charging, by pulse and supply (R51). -/
theorem State.tripChargePermitted_eq (s : State) :
    s.tripChargePermitted = (s.tripSupply && s.cdu.pulse != Pulse.trip) := by
  unfold State.tripChargePermitted State.tripSupply
  rw [Bool.and_right_comm, Bool.and_comm, ← Bool.and_assoc, Bool.and_right_comm]

/-- The permission of close charging while the bar is lifted (R51, R53). -/
theorem State.closeChargePermitted_eq (s : State) (bar : s.cdu.closeBarred = false) :
    s.closeChargePermitted = (s.closeSupply && s.cdu.pulse != Pulse.close) := by
  unfold State.closeChargePermitted State.closeSupply State.reserveHolds
  rw [bar, Bool.not_false, Bool.and_true, Bool.and_right_comm]

/-! ### A report built (R91, R112, R113) -/

/-- The transmitter, looking at its queue again, moves its own states and counts alone. -/
theorem State.settleTransmitter_chc (s : State) :
    s.settleTransmitter.chc =
      { s.chc with
        tx := s.settleTransmitter.chc.tx
        quiet := s.settleTransmitter.chc.quiet
        backoff := s.settleTransmitter.chc.backoff
        slot := s.settleTransmitter.chc.slot
        lfsr := s.settleTransmitter.chc.lfsr } := by
  unfold State.settleTransmitter State.redraw
  repeat' split
  all_goals rfl

/-- A Fault or Crew report that is built takes the next sequence and goes to the CHC (R91, R93, R113). -/
theorem State.buildReport_reports (s : State) {kind : ReportKind} (event : kind.cls ≠ .status) (payload : List Byte) :
    Reports s (s.buildReport kind payload) [(kind, payload)] := by
  have cls : (kind.cls == .status) = false := by simpa using event
  have notBeacon : (kind == .beacon) = false := by cases kind <;> simp_all [ReportKind.cls]
  refine ⟨?_, fun unset => ?_, fun set room => ?_, fun r one set full => ?_⟩
  · simp [State.buildReport, cls]
  · have off : s.svp.settings.stationId = 0 := unset
    simp [State.buildReport, State.takeReport, State.cfg, off]
  · have on : ¬s.svp.settings.stationId = 0 := set
    have fits : s.chc.queued < 8 := by simp only [List.length_singleton] at room; omega
    rw [State.buildReport, State.takeReport]
    simp only [State.cfg, State.withPru_svp, State.withPru_chc, on, if_false, notBeacon, Bool.false_and, Bool.false_eq_true,
      fits, if_true]
    rw [State.settleTransmitter_chc]
    simp [State.joinQueue, newEntry, cls, reportEntries]
  · obtain rfl : r = (kind, payload) := by simpa using one.symm
    have on : ¬s.svp.settings.stationId = 0 := set
    have fits : ¬s.chc.queued < 8 := by omega
    rw [State.buildReport, State.takeReport]
    simp only [State.cfg, State.withPru_svp, State.withPru_chc, on, if_false, notBeacon, Bool.false_and, Bool.false_eq_true,
      fits, bne, cls, Bool.not_false, Bool.true_and]
    split
    · next some =>
      rw [State.settleTransmitter_chc]
      simp [State.joinQueue, State.loseReport, newEntry, cls, reportEntries, removeLast, count8, satAdd]
    · next none =>
      have none : s.chc.status.any (fun e => !e.inService) = false := by simpa using none
      have kept : (s.chc.status.reverse.eraseP fun e => !e.inService).reverse = s.chc.status := by
        rw [List.eraseP_of_forall_not (by simpa [List.any_eq_false] using none), List.reverse_reverse]
      simp [State.loseReport, count8, satAdd, kept]

/-- Whether some reports have been built shows in the PRU and the CHC alone. -/
theorem Reports.of_parts {s s' t t' : State} {reports : List (ReportKind × List Byte)} (h : Reports s t reports)
    (before : (s'.pru, s'.chc, s'.cfg) = (s.pru, s.chc, s.cfg)) (after : (t'.pru, t'.chc) = (t.pru, t.chc)) :
    Reports s' t' reports := by
  simp only [Prod.mk.injEq] at before after
  obtain ⟨pru, chc, cfg⟩ := before
  obtain ⟨pru', chc'⟩ := after
  unfold Reports
  rw [pru, chc, cfg, pru', chc']
  exact h

/-! ### Entries to a sequence state (R25, R27, R34, R37, R38, R47) -/

/-- The SQC's own part of an entry, its reason then set to `reason`. -/
theorem Sqc.enter_moved (q : Sqc) (new : SeqState) (reason : Option LockReason) :
    { q.enter new with reason := reason } = q.moved new reason := by
  cases new <;> rfl

/-- An entry to a state that has no reason. -/
theorem Sqc.enter_reasonless (q : Sqc) {new : SeqState} (reasonless : new.hasReason = false) :
    q.enter new = q.moved new none := by
  rw [← q.enter_moved new none]
  simp [Sqc.enter, reasonless]

/-! ### Entries to LOCKOUT (R38) -/

/-- An entry to a state in which no mark and no bar is cleared moves the SQC alone. -/
theorem State.entering_plain (s : State) {new : SeqState} (closed : new.isClosed = false) (bar : new.clearsBar = false) :
    s.entering new = s.withSqc fun q => q.enter new := by
  rw [State.entering, closed, bar, State.onlyIf_false, State.onlyIf_false]

/-- The SQC after an entry to LOCKOUT. -/
@[simp] theorem State.enterLockout_sqc (s : State) (reason : LockReason) :
    (s.enterLockout reason).sqc = { s.sqc.moved .lockout (some reason) with manualWindow := none, stepped := false } := by
  simp only [State.enterLockout, State.buildLockout_frame, State.record_frame, State.withSqc_sqc, State.enterSeq_sqc]
  rfl

/-- An entry that finds READY left already abandons nothing. -/
theorem State.enterSeq_elsewhere {s : State} (left : s.sqc.seq ≠ .ready) (new : SeqState) : s.enterSeq new = s.entering new := by
  rw [State.enterSeq_eq, show (s.sqc.seq == .ready && new != .ready) = false by simp [left], State.onlyIf_false]

/-- The LOCKOUT report of a state, seen from an earlier one with the same report sequence, queue and s. -/
theorem State.buildLockout_reports {s u : State} (same : (s.pru, s.chc, s.cfg) = (u.pru, u.chc, u.cfg))
    (shots : u.sqc.shots = s.sqc.shots) (reason : LockReason) :
    Reports s (u.buildLockout reason) [(.lockout, beBytes 1 reason.code ++ beBytes 1 s.sqc.shots)] := by
  rw [← shots]
  exact (u.buildReport_reports (by decide) _).of_parts same rfl

/-- An entry to LOCKOUT with no test to abandon. -/
theorem State.enterLockout_locksOut {s : State} (still : s.sqc.seq ≠ .ready ∨ s.quietTest) (reason : LockReason) :
    LocksOut s (s.enterLockout reason) reason [] := by
  have entry : s.enterSeq .lockout = s.withSqc fun q => q.enter .lockout := by
    rcases still with left | quiet
    · rw [State.enterSeq_elsewhere left, s.entering_plain rfl rfl]
    · rw [State.enterSeq_of_quiet quiet, s.entering_plain rfl rfl]
  refine ⟨?_, ?_⟩
  · ext1
    case sqc => exact s.enterLockout_sqc reason
    case rcs =>
      simp only [State.enterLockout, entry, State.buildLockout_frame, State.record_rcs]
      rfl
    all_goals simp [State.enterLockout, entry]
  · rw [State.enterLockout, entry]
    exact State.buildLockout_reports rfl rfl reason

/-- What an entry to LOCKOUT leaves of the other blocks. -/
theorem LocksOut.keeps {s t : State} {reason : LockReason} {before : List RecordBody} (h : LocksOut s t reason before) :
    t.now = s.now ∧ t.mfp = s.mfp ∧ t.ocu = s.ocu ∧ t.cdu = s.cdu ∧ t.btu = s.btu ∧ t.tgu = s.tgu ∧ t.svp = s.svp ∧
      t.inputs = s.inputs := by
  obtain ⟨state, -⟩ := h
  rw [state]
  exact ⟨rfl, rfl, rfl, rfl, rfl, rfl, rfl, rfl⟩

/-- An entry to LOCKOUT moves the SQC, and its record follows those before it. -/
theorem LocksOut.moves {s t : State} {reason : LockReason} {before : List RecordBody} (h : LocksOut s t reason before) :
    t.sqc = { s.sqc.moved .lockout (some reason) with manualWindow := none, stepped := false } ∧
      t.rcs = s.withRecords (before ++ [lockoutRecord reason s.sqc.shots]) := by
  obtain ⟨state, -⟩ := h
  rw [state]
  exact ⟨rfl, rfl⟩

/-- An entry to LOCKOUT after some records. -/
theorem LocksOut.after {s u t : State} {reason : LockReason} {before : List RecordBody} (h : LocksOut u t reason [])
    (records : u = { s with rcs := s.withRecords before }) : LocksOut s t reason before := by
  obtain ⟨state, reports⟩ := h
  have rcs : u.withRecords ([] ++ [lockoutRecord reason u.sqc.shots]) = s.withRecords (before ++ [lockoutRecord reason s.sqc.shots]) := by
    have now : u.now = s.now := by rw [records]
    have shots : u.sqc.shots = s.sqc.shots := by rw [records]
    have made : u.rcs = s.withRecords before := by rw [records]
    rw [shots, List.nil_append]
    exact State.withRecords_append s u now before [lockoutRecord reason s.sqc.shots] made
  rw [rcs] at state
  subst records
  exact ⟨state, reports.of_parts rfl rfl⟩

end Sys2Proof.Machine
end

section
/-! SUPPORT. The end of the stall span, of the lost span and of the recovery timer. -/

namespace Sys2Proof.Machine

/-- A started station, the condition of an event met. -/
theorem State.whenStarted_onlyIf {s : State} {c : State → Bool} {f : State → State} (on : s.started = true)
    (holds : c s = true) : (s.whenStarted fun u => u.onlyIf (c u) f) = f s := by
  rw [State.whenStarted_of_started _ _ on, holds, State.onlyIf_true]

section

variable {s : State} (on : s.started = true)

include on

theorem exec_stalled (due : s.mfp.stallTimer = some 0) : exec .stalled s = .next s.stall :=
  congrArg Host.Outcome.next (State.whenStarted_onlyIf (c := fun u => Machine.due u.mfp.stallTimer) on (by simp [due]))

theorem exec_measurementLost (due : s.mfp.lostTimer = some 0) : exec .measurementLost s = .next s.loseMeasurement :=
  congrArg Host.Outcome.next (State.whenStarted_onlyIf (c := fun u => Machine.due u.mfp.lostTimer) on (by simp [due]))

theorem exec_measurementBack (due : s.mfp.recovery = some 0) : exec .measurementBack s = .next s.regainMeasurement :=
  congrArg Host.Outcome.next (State.whenStarted_onlyIf (c := fun u => Machine.due u.mfp.recovery) on (by simp [due]))

end

/-- The span that runs from a reset finds stalled set (R5, R8). -/
theorem State.stall_again {s : State} (stalled : s.mfp.stalled = true) :
    s.stall = s.withMfp fun m => { m with stallTimer := none } := by
  rw [State.stall, stalled]
  rfl

/-- The state of a stall just before a running test is abandoned (R5, R7, R21, R47). -/
def State.frozen (s : State) : State :=
  ((((s.withMfp fun m => { m with stallTimer := none }).withMfp fun m =>
    { m with stalled := true, recovery := none }).freezeCounts).withSqc fun q => { q with memory := none })

theorem State.stall_first {s : State} (stalled : s.mfp.stalled = false) :
    s.stall = ((s.frozen.abandonTest .measurement).refreshCharge).withPru fun p => { p with pace := some 4 } := by
  rw [State.stall, stalled]
  rfl

/-- No charging is permitted while stalled is set (R51). -/
theorem State.refreshCharge_stalled {s : State} (stalled : s.mfp.stalled = true) :
    s.refreshCharge = { s with cdu := { s.cdu with tcen := false, ccen := false, closeCharge := none } } := by
  rw [State.refreshCharge_eq, show s.tripChargePermitted = false by simp [State.tripChargePermitted, stalled],
    show s.closeChargePermitted = false by simp [State.closeChargePermitted, stalled], Cdu.charged_off]

/-- Measurement lost that is set already is set no second time (R6). -/
theorem State.loseMeasurement_again {s : State} (lost : s.mfp.lost = true) :
    s.loseMeasurement = s.withMfp fun m => { m with lost := true, lostTimer := none } := by
  rw [State.loseMeasurement, lost]
  rfl

theorem State.loseMeasurement_first {s : State} (lost : s.mfp.lost = false) :
    s.loseMeasurement =
      ((s.withMfp fun m => { m with lost := true, lostTimer := none }).record { kind := .measurementLost }).sqcMeasurementLost := by
  rw [State.loseMeasurement, lost]
  rfl

/-- Measurement lost locks out a sequence in CLOSE_CHARGE, and no other (R34). -/
theorem State.sqcMeasurementLost_elsewhere {s : State} (seq : s.sqc.seq ≠ .closeCharge) : s.sqcMeasurementLost = s := by
  rw [State.sqcMeasurementLost, show (s.sqc.seq == .closeCharge) = false by simpa using seq, State.onlyIf_false]

theorem State.sqcMeasurementLost_closeCharge {s : State} (seq : s.sqc.seq = .closeCharge) :
    s.sqcMeasurementLost = s.enterLockout .measurement := by
  rw [State.sqcMeasurementLost, seq]
  rfl

end Sys2Proof.Machine

/-! ### The statement -/

open Sys2Proof.Machine in
/-- Settles O21: the three timers, each with the states its event tells apart. -/
theorem stallAndMeasurementLost : Obligations.StallAndMeasurementLost := by
  refine ⟨fun s on due stalled => ?_, fun s on due stalled quiet => ?_, fun s on => ⟨fun due => ⟨fun lost => ?_,
    fun lost seq => ?_, fun lost seq => ?_⟩, fun due => ?_⟩⟩
  · rw [exec_stalled on due, State.stall_again stalled]
    rfl
  · rw [exec_stalled on due, State.stall_first stalled, State.abandonTest_of_quiet (s := s.frozen) quiet,
      State.refreshCharge_stalled (s := s.frozen) rfl]
    rfl
  · rw [exec_measurementLost on due, State.loseMeasurement_again lost, ← lost]
    rfl
  · rw [exec_measurementLost on due, State.loseMeasurement_first lost, State.sqcMeasurementLost_elsewhere (by simpa using seq)]
    rfl
  · refine ⟨_, exec_measurementLost on due, ?_⟩
    rw [State.loseMeasurement_first lost, State.sqcMeasurementLost_closeCharge (by simpa using seq)]
    exact (State.enterLockout_locksOut (.inl (by simp [seq])) _).after rfl
  · rw [exec_measurementBack on due]
    rfl

end

section
/-! SUPPORT. The end of a hold, trip confirmed, and the changes to Open. -/

namespace Sys2Proof.Machine

/-! ### The end of a hold (R17, R138) -/

/-- The HOLD_ENDED record of a hold of a kind (R138, R164). -/
def holdRecord (k : Kind) (cause : Reason) (h : Hold) : RecordBody :=
  { kind := .holdEnded, peerId := some h.holder, elements := some (kindElements k), reason := some cause }

/-- The state of a hold's end before its release test. -/
def State.unhold (s : State) (k : Kind) (cause : Reason) : State :=
  { s with
    ocu := s.ocu.withKind k fun x => { x with hold := none }
    rcs := s.withRecords ((s.ocu.kind k).hold.toList.map (holdRecord k cause)) }

theorem State.endHold_unheld {s : State} {k : Kind} (unheld : (s.ocu.kind k).hold = none) (cause : Reason) :
    s.endHold k cause = s := by
  rw [State.endHold, unheld]

theorem State.endHold_held {s : State} {k : Kind} {h : Hold} (held : (s.ocu.kind k).hold = some h) (cause : Reason) :
    s.endHold k cause = (s.unhold k cause).releaseTest k := by
  rw [State.endHold, State.unhold, held]
  rfl

/-- The release test of an OCU that is frozen is put off (R17, R21). -/
theorem State.releaseTest_stalled {s : State} (stalled : s.mfp.stalled = true) (k : Kind) :
    s.releaseTest k = s.withOcu fun o => o.withKind k fun x => { x with releaseDue := true } := by
  rw [State.releaseTest, if_pos stalled]

/-- A release test that finds no element of the kind at F raises nothing (R17). -/
theorem State.releaseTest_idle {s : State} {k : Kind} (live : s.mfp.stalled = false)
    (back : (s.ocu.heldBack k).anySet = false) : s.releaseTest k = s := by
  rw [State.releaseTest, live, if_neg (by decide), back, State.onlyIf_false]

/-- The end of a kind's hold touches none of what its release test looks at. -/
theorem State.unhold_heldBack (s : State) (k j : Kind) (cause : Reason) :
    (s.unhold k cause).ocu.heldBack j = s.ocu.heldBack j := by
  cases k <;> rfl

theorem State.unhold_unheld {s : State} {k : Kind} (unheld : (s.ocu.kind k).hold = none) (cause : Reason) :
    s.unhold k cause = s := by
  have same : (s.ocu.withKind k fun x => { x with hold := none }) = s.ocu := by
    cases k <;> rw [← unheld] <;> rfl
  rw [State.unhold, same, unheld]
  rfl

/-- A hold that ends with no element of its kind at F, or an empty record that stays so. -/
theorem State.endHold_idle {s : State} {k : Kind} (live : s.mfp.stalled = false)
    (back : (s.ocu.heldBack k).anySet = false) (cause : Reason) : s.endHold k cause = s.unhold k cause := by
  cases hold : (s.ocu.kind k).hold with
  | none => rw [State.endHold_unheld hold, State.unhold_unheld hold]
  | some h =>
    rw [State.endHold_held hold]
    exact State.releaseTest_idle (s := s.unhold k cause) live (by rwa [State.unhold_heldBack])

/-- An element below F, or under the dropout level, holds no order back. -/
theorem not_heldBack {e : Element} (h : e.acc < 1048576 ∨ e.m < 243) :
    (e.acc == Config.fullScale && decide (Config.dropoutLevel ≤ e.m)) = false := by
  rcases h with acc | m
  · rw [beq_eq_false_iff_ne.mpr (show e.acc ≠ Config.fullScale from acc.ne), Bool.false_and]
  · rw [decide_eq_false (show ¬Config.dropoutLevel ≤ e.m from m.not_ge), Bool.and_false]

/-- No element of a kind stands at F over the dropout level. -/
theorem heldBack_phase_eq_false {o : Ocu} (below : ∀ e ∈ [o.elems.a, o.elems.b, o.elems.c], e.acc < 1048576 ∨ e.m < 243) :
    (o.heldBack .phase).anySet = false := by
  simp only [List.forall_mem_cons] at below
  obtain ⟨a, b, c, -⟩ := below
  simp [Ocu.heldBack, PerElem.map, PerElem.zip, PerElem.anySet, kindElements, not_heldBack a, not_heldBack b, not_heldBack c]

theorem heldBack_ground_eq_false {o : Ocu} (below : o.elems.g.acc < 1048576 ∨ o.elems.g.m < 243) :
    (o.heldBack .ground).anySet = false := by
  simp [Ocu.heldBack, PerElem.map, PerElem.zip, PerElem.anySet, kindElements, not_heldBack below]

theorem heldBack_eq_false {o : Ocu} (below : ∀ e ∈ o.elems.toList, e.acc < 1048576) (k : Kind) :
    (o.heldBack k).anySet = false := by
  simp only [PerElem.toList, List.forall_mem_cons] at below
  obtain ⟨a, b, c, g, -⟩ := below
  cases k with
  | phase => exact heldBack_phase_eq_false (by simp [a, b, c])
  | ground => exact heldBack_ground_eq_false (.inl g)

/-! ### Trip confirmed (R22, R139) -/

theorem State.clearElements_eq (s : State) : s.clearElements = { s with ocu := s.ocu.cleared } := by rfl

/-- Trip confirmed with no hold standing clears the elements, in either order of the command. -/
theorem State.tripConfirmed_unheld {s : State} (phase : s.ocu.phase.hold = none) (ground : s.ocu.ground.hold = none)
    (clearFirst : Bool) : s.tripConfirmed clearFirst = s.clearElements := by
  have none (u : State) (p : u.ocu.phase.hold = none) (g : u.ocu.ground.hold = none) : u.endHolds .tripConfirmed = u := by
    rw [State.endHolds, State.endHold_unheld (k := .phase) p, State.endHold_unheld (k := .ground) g]
  rw [State.tripConfirmed, none s phase ground, none s.clearElements phase ground, ite_self]

/-- The HOLD_ENDED records of a trip confirm: the phase hold's before the ground hold's (R139; log 31). -/
def State.confirmEnds (s : State) : List RecordBody :=
  (s.ocu.phase.hold.toList.map (holdRecord .phase .tripConfirmed)) ++
    (s.ocu.ground.hold.toList.map (holdRecord .ground .tripConfirmed))

/-- Trip confirmed with no element at F clears the elements and ends the holds, in either order of the two. -/
theorem State.tripConfirmed_below {s : State} (live : s.mfp.stalled = false)
    (below : ∀ e ∈ s.ocu.elems.toList, e.acc < 1048576) (clearFirst : Bool) :
    s.tripConfirmed clearFirst =
      { s with
        ocu := { s.ocu.cleared with phase := { s.ocu.phase with hold := none }, ground := { s.ocu.ground with hold := none } }
        rcs := s.withRecords s.confirmEnds } := by
  have ends (u : State) (live : u.mfp.stalled = false) (below : ∀ e ∈ u.ocu.elems.toList, e.acc < 1048576) :
      u.endHolds .tripConfirmed =
        { u with
          ocu := { u.ocu with phase := { u.ocu.phase with hold := none }, ground := { u.ocu.ground with hold := none } }
          rcs := u.withRecords u.confirmEnds } := by
    rw [State.endHolds, State.endHold_idle live (heldBack_eq_false below _),
      State.endHold_idle (s := u.unhold .phase .tripConfirmed) live (by rw [State.unhold_heldBack]; exact heldBack_eq_false below _)]
    have records := State.withRecords_append u (u.unhold .phase .tripConfirmed) rfl
      (u.ocu.phase.hold.toList.map (holdRecord .phase .tripConfirmed))
      (u.ocu.ground.hold.toList.map (holdRecord .ground .tripConfirmed)) rfl
    rw [State.confirmEnds, ← records]
    rfl
  cases clearFirst with
  | true =>
    refine (ends s.clearElements live ?_).trans rfl
    simp [State.clearElements, PerElem.map, PerElem.toList, clearElement]
  | false =>
    rw [State.tripConfirmed, if_neg (by decide), ends s live below]
    rfl

/-! ### The changes to Open (R62, R63, R65) -/

/-- The station as a definite change to Open has it before it is classed. -/
def State.opened (s : State) : State :=
  { s with
    inputs := s.inputs.still .poso
    cdu :=
      { s.cdu with
        openMade := true
        indeterminate := none
        positionFault := false
        lastClosed := false
        operations := s.cdu.operations + 1 } }

/-- The open contact has held its level, the closed one being released: the position goes to Open. -/
theorem exec_opens {s : State} (on : s.started = true) (closedMade : s.cdu.closedMade = false) (openMade : s.cdu.openMade = false)
    (lastClosed : s.cdu.lastClosed = true) (held : s.Held .poso true) (clearFirst : Bool) :
    exec (.contactChange .openContact true clearFirst) s = .next (s.opened.changeToOpen clearFirst) := by
  have holds : s.inputHolds .poso true = true := by
    rw [State.Held] at held
    simp [State.inputHolds, held, State.debounced, openMade]
  refine congrArg Host.Outcome.next ((State.whenStarted_of_started _ _ on).trans ?_)
  have pins : (contactPins .openContact).filter (fun pin => s.inputHolds pin true) = [.poso] := by
    simp [contactPins, holds]
  have position : (s.setContacts [.poso] true).position = .opened := by
    simp [State.setContacts, State.position, positionOf, State.endCount, closedMade]
  rw [State.changeContact, pins]
  show (s.setContacts [.poso] true).judgePosition s.position clearFirst = _
  rw [State.judgePosition, position]
  show State.onlyIf _ (s.setContacts [.poso] true).cdu.lastClosed _ = _
  rw [show (s.setContacts [.poso] true).cdu.lastClosed = true by simpa [State.setContacts, State.endCount] using lastClosed]
  show State.changeToOpen _ clearFirst = _
  rfl

end Sys2Proof.Machine
end

section
/-! SUPPORT. The trip confirm and the open without a pulse, by sequence state. -/

namespace Sys2Proof.Machine

/-! ### Trip confirmed after an entry to LOCKOUT -/

/-- An entry to LOCKOUT and then the clearing, seen from the cleared state. -/
theorem LocksOut.cleared {s t : State} {reason : LockReason} (h : LocksOut s t reason []) :
    LocksOut s.clearElements t.clearElements reason [] := by
  obtain ⟨state, reports⟩ := h
  exact ⟨(congrArg State.clearElements state).trans rfl, reports.of_parts rfl rfl⟩

/-! ### The trip confirm (R29) -/

/-- The station of a change to Open that has ended its trip request. -/
def State.confirmed (s : State) : State := s.opened.endTripRequest

theorem State.opened_confirms {s : State} (request : s.cdu.tripRequest ≠ .none) (clearFirst : Bool) :
    s.opened.changeToOpen clearFirst = s.confirmed.sqcTripConfirm.tripConfirmed clearFirst := by
  rw [State.changeToOpen, if_pos (by simpa [State.opened] using request)]
  rfl

section

variable {s : State}

/-- A trip that is final, or confirmed under a tag, ends in LOCKOUT (R29). -/
theorem State.sqcTripConfirm_final {trip : CurrentTrip} {reason : LockReason} (seq : s.sqc.seq = .tripping)
    (current : s.sqc.trip = some trip)
    (final : trip.finalReason = some reason ∨ (trip.finalReason = none ∧ s.tagInForce = true ∧ reason = .tagged)) :
    s.sqcTripConfirm = s.enterLockout reason := by
  rcases final with final | ⟨open', tag, rfl⟩
  · simp [State.sqcTripConfirm, seq, current, final]
  · simp [State.sqcTripConfirm, seq, current, open', tag]

/-- A trip that is not final goes to RECLOSE_WAIT (R29). -/
theorem State.sqcTripConfirm_recloses {trip : CurrentTrip} (seq : s.sqc.seq = .tripping) (current : s.sqc.trip = some trip)
    (open' : trip.finalReason = none) (tag : s.tagInForce = false) :
    s.sqcTripConfirm =
      (s.enterSeq .recloseWait).withSqc fun q => { q with reclose := some (s.cfg.interval s.sqc.shots) } := by
  simp [State.sqcTripConfirm, seq, current, open', tag]

theorem State.sqcTripConfirm_breakerFail (seq : s.sqc.seq = .breakerFail) : s.sqcTripConfirm = s.enterLockout .mechanism := by
  rw [State.sqcTripConfirm, seq]

theorem State.sqcTripConfirm_lockout (seq : s.sqc.seq = .lockout) : s.sqcTripConfirm = s := by
  rw [State.sqcTripConfirm, seq]

/-- The bar is lifted at an entry to RECLOSE_WAIT, and the enables follow (R51, R53). -/
theorem State.entering_recloseWait (s : State) :
    s.entering .recloseWait =
      { s with
        sqc := s.sqc.moved .recloseWait none
        cdu :=
          { s.cdu with closeBarred := false }.charged (s.tripSupply && s.cdu.pulse != Pulse.trip)
            (s.closeSupply && s.cdu.pulse != Pulse.close) } := by
  have lifted : s.entering .recloseWait =
      ((s.withSqc fun q => q.moved .recloseWait none).withCdu fun c => { c with closeBarred := false }).refreshCharge := by
    rw [State.entering, show SeqState.recloseWait.isClosed = false from rfl, State.onlyIf_false]
    rfl
  rw [lifted, State.refreshCharge_eq, State.tripChargePermitted_eq, State.closeChargePermitted_eq _ rfl]
  rfl

/-- An entry to LOCKOUT from a state that is not READY leaves the holds, and trip confirmed then clears the elements alone. -/
theorem State.enterLockout_confirmed (left : s.sqc.seq ≠ .ready) (phase : s.ocu.phase.hold = none)
    (ground : s.ocu.ground.hold = none) (reason : LockReason) (clearFirst : Bool) :
    LocksOut s.clearElements ((s.enterLockout reason).tripConfirmed clearFirst) reason [] := by
  have locks := State.enterLockout_locksOut (.inl left) reason
  obtain ⟨-, -, ocu, -⟩ := locks.keeps
  rw [State.tripConfirmed_unheld (by rw [ocu, phase]) (by rw [ocu, ground])]
  exact locks.cleared

end

/-! ### The open without a pulse (R31, R42) -/

theorem State.opened_unpulsed {s : State} (request : s.cdu.tripRequest = .none) (clearFirst : Bool) :
    s.opened.changeToOpen clearFirst =
      s.opened.openWithoutPulse.onlyIf s.sqc.seq.confirmsOpen fun m => m.tripConfirmed clearFirst := by
  rw [State.changeToOpen, if_neg (by simpa [State.opened] using request)]
  rfl

/-- Why an open without a pulse locks out a state (R31, R42). -/
theorem State.openWithoutPulse_locks {s : State} {reason : LockReason}
    (states : (s.sqc.seq = .breakerFail ∧ reason = .mechanism) ∨
      ((s.sqc.seq = .ready ∨ s.sqc.seq = .resetTiming) ∧ reason = .unexplainedOpen)) :
    s.openWithoutPulse = s.enterLockout reason ∧ s.sqc.seq.confirmsOpen = true := by
  rcases states with ⟨seq, rfl⟩ | ⟨seq | seq, rfl⟩ <;> rw [State.openWithoutPulse, seq] <;> exact ⟨rfl, rfl⟩

theorem State.openWithoutPulse_lockout {s : State} (seq : s.sqc.seq = .lockout) : s.openWithoutPulse = s := by
  rw [State.openWithoutPulse, seq]

/-- Trip confirmed after an open without a pulse: the elements are cleared and the holds end, with the records after those that
the SQC has made. -/
theorem State.opened_confirmed {s u : State} (live : s.mfp.stalled = false) (below : ∀ e ∈ s.ocu.elems.toList, e.acc < 1048576)
    (after : List RecordBody) (mfp : u.mfp = s.mfp) (ocu : u.ocu = s.ocu) (now : u.now = s.now)
    (rcs : u.rcs = s.withRecords after) (clearFirst : Bool) :
    u.tripConfirmed clearFirst =
      { u with
        ocu := { s.ocu.cleared with phase := { s.ocu.phase with hold := none }, ground := { s.ocu.ground with hold := none } }
        rcs := s.withRecords (after ++ s.confirmEnds) } := by
  rw [State.tripConfirmed_below (by rw [mfp, live]) (by rw [ocu]; exact below), State.confirmEnds,
    State.withRecords_append s u now after _ rcs, ocu]
  rfl

end Sys2Proof.Machine

/-! ### The statements -/

open Sys2Proof.Machine in
/-- Settles O25: the trip confirm by the state that it finds. -/
theorem tripConfirm : Obligations.TripConfirm := by
  intro s clearFirst on closedMade openMade lastClosed request phase ground held opened isOpened
  have confirms := (exec_opens on closedMade openMade lastClosed held clearFirst).trans
    (congrArg Host.Outcome.next (State.opened_confirms request clearFirst))
  have cleared : s.confirmed.clearElements = opened := isOpened.symm ▸ rfl
  refine ⟨fun trip seq current open' tag => ?_, fun trip reason seq current final => ?_, fun seq => ?_, fun seq => ?_⟩
  · have recloses : s.confirmed.sqcTripConfirm =
        (s.confirmed.entering .recloseWait).withSqc fun q => { q with reclose := some (s.cfg.interval s.sqc.shots) } := by
      rw [State.sqcTripConfirm_recloses (s := s.confirmed) seq current open' tag,
        State.enterSeq_elsewhere (s := s.confirmed) (by rw [show s.confirmed.sqc.seq = s.sqc.seq from rfl, seq]; decide)]
      rfl
    have ocu : (s.confirmed.entering .recloseWait).ocu = s.ocu := by rw [State.entering_recloseWait]; rfl
    rw [confirms, recloses, State.tripConfirmed_unheld (by rw [State.withSqc_ocu, ocu, phase])
      (by rw [State.withSqc_ocu, ocu, ground]), State.entering_recloseWait, ← cleared]
    congr 1
  · refine ⟨_, confirms, ?_⟩
    rw [State.sqcTripConfirm_final (s := s.confirmed) seq current final, ← cleared]
    exact State.enterLockout_confirmed (s := s.confirmed) (by rw [show s.confirmed.sqc.seq = s.sqc.seq from rfl, seq]; decide) phase ground reason clearFirst
  · refine ⟨_, confirms, ?_⟩
    rw [State.sqcTripConfirm_breakerFail (s := s.confirmed) seq, ← cleared]
    exact State.enterLockout_confirmed (s := s.confirmed) (by rw [show s.confirmed.sqc.seq = s.sqc.seq from rfl, seq]; decide) phase ground .mechanism clearFirst
  · rw [confirms, State.sqcTripConfirm_lockout (s := s.confirmed) seq,
      State.tripConfirmed_unheld (s := s.confirmed) phase ground, cleared]

open Sys2Proof.Machine in
/-- Settles O26: the SQC's own entry first, then trip confirmed with no element at F. -/
theorem openWithoutAPulse : Obligations.OpenWithoutAPulse := by
  intro s clearFirst on closedMade openMade lastClosed request quiet live below held states ends isEnds
  have opens := (exec_opens on closedMade openMade lastClosed held clearFirst).trans
    (congrArg Host.Outcome.next (State.opened_unpulsed request clearFirst))
  have same : s.opened.confirmEnds = ends := isEnds.symm ▸ rfl
  by_cases lockout : s.sqc.seq = .lockout
  · refine ⟨_, opens, ?_⟩
    rw [State.openWithoutPulse_lockout (s := s.opened) lockout, lockout, show SeqState.lockout.confirmsOpen = true from rfl,
      State.onlyIf_true, State.opened_confirmed (s := s.opened) live below [] rfl rfl rfl rfl, same]
    exact ⟨rfl, rfl, rfl, rfl, rfl, rfl, rfl, fun _ => ⟨rfl, rfl, rfl, rfl⟩, fun reason other => by simp at other⟩
  · obtain ⟨reason, reasons⟩ : ∃ reason, (s.sqc.seq = .breakerFail ∧ reason = LockReason.mechanism) ∨
        ((s.sqc.seq = .ready ∨ s.sqc.seq = .resetTiming) ∧ reason = .unexplainedOpen) := by
      rcases states with seq | seq | seq | seq
      · exact ⟨_, .inr ⟨.inl seq, rfl⟩⟩
      · exact ⟨_, .inr ⟨.inr seq, rfl⟩⟩
      · exact ⟨_, .inl ⟨seq, rfl⟩⟩
      · exact absurd seq lockout
    obtain ⟨locks, confirms⟩ := State.openWithoutPulse_locks (s := s.opened) reasons
    have entry := State.enterLockout_locksOut (s := s.opened) (.inr quiet) reason
    obtain ⟨now, mfp, ocu, cdu, btu, tgu, svp, inputs⟩ := entry.keeps
    obtain ⟨sqc, rcs⟩ := entry.moves
    refine ⟨_, opens, ?_⟩
    rw [locks, show s.sqc.seq.confirmsOpen = true from confirms, State.onlyIf_true,
      State.opened_confirmed (s := s.opened) live below [lockoutRecord reason s.sqc.shots] mfp ocu now rcs, same]
    refine ⟨cdu, rfl, mfp, btu, tgu, svp, inputs, fun seq => absurd seq lockout, fun other others => ?_⟩
    obtain rfl : other = reason := by
      rcases reasons with ⟨seq, rfl⟩ | ⟨seq | seq, rfl⟩ <;> rw [seq] at others <;> simpa using others
    exact ⟨sqc, rfl, entry.2.of_parts rfl rfl⟩

end

section
/-! SUPPORT. The settings restart: its conditions, its answers, the end of its read, and the values of its blocks. -/

namespace Sys2Proof.Machine

/-! ### Answers (R170, R171) -/

/-- The byte that brings a sum to 0, by the sum's remainder. -/
theorem closingSum_eq (bytes : List Byte) : closingSum bytes = BitVec.ofNat 8 (256 - byteSum bytes % 256) := by
  apply BitVec.eq_of_toNat_eq
  simp only [closingSum, BitVec.ofNat_eq_ofNat, BitVec.toNat_sub, BitVec.toNat_ofNat]
  omega

theorem responseFrame_eq (code : Byte) (answer : Answer) (payload : List Byte) :
    responseFrame code answer payload = responseBytes code (BitVec.ofNat 8 answer.code) payload := by
  have byte (n : Nat) : beBytes 1 n = [BitVec.ofNat 8 n] := by simp [beBytes]
  simp only [responseFrame, responseBytes, word, closingSum_eq, byte, List.append_assoc, List.cons_append, List.nil_append]

/-! ### The conditions (R180) -/

theorem State.restartConditions_met {s : State} (seq : s.sqc.seq = .lockout) (pulse : s.cdu.pulse = .none)
    (quiet : s.quietTest) : s.restartConditions = true := by
  rcases quiet with test | test <;> simp [State.restartConditions, State.noPulse, seq, pulse, test]

theorem State.restartConditions_failed {s : State}
    (fails : s.sqc.seq ≠ .lockout ∨ s.cdu.pulse ≠ .none ∨ s.btu.test = .settle ∨ s.btu.test = .loaded) :
    s.restartConditions = false := by
  rcases fails with seq | pulse | test | test
  · simp [State.restartConditions, seq]
  · simp [State.restartConditions, State.noPulse, pulse]
  · simp [State.restartConditions, test]
  · simp [State.restartConditions, test]

/-! ### The taking and the end of the read (R175, R180, R181) -/

section

variable {s : State} (on : s.started = true)

include on

theorem exec_settingsRestart (listens : s.svp.service = .listen) :
    exec .settingsRestart s = .next s.resetAssembly.serveRestart :=
  congrArg Host.Outcome.next
    (State.whenStarted_onlyIf (c := fun u => u.svp.service == .listen) (f := fun u => u.resetAssembly.serveRestart) on
      (by simp [listens]))

theorem exec_settingsRestartApply (restarts : s.svp.service = .restarting) (event : ReadEvent) (closedMade openMade : Bool) :
    exec (.settingsRestartApply event closedMade openMade) s = .next (s.followRead event closedMade openMade) :=
  congrArg Host.Outcome.next
    (State.whenStarted_onlyIf (c := fun u => u.svp.service == .restarting) (f := fun u => u.followRead event closedMade openMade) on
      (by simp [restarts]))

end

theorem State.serveRestart_refused {s : State} (fails : s.restartConditions = false) :
    s.serveRestart = s.respond 0x40#8 .refusedState [] := by
  rw [State.serveRestart, fails, if_neg (by decide)]

/-- A restart that is taken has its read on a free link, and waits for another (R180). -/
theorem State.serveRestart_taken {s : State} (met : s.restartConditions = true) :
    s.serveRestart =
      { s with
        svp :=
          { s.svp with
            service := .restarting
            link := if s.svp.link = .free then .read else s.svp.link
            linkTimer := if s.svp.link = .free then some 20 else s.svp.linkTimer
            readWaits := if s.svp.link = .free then s.svp.readWaits else true } } := by
  rw [State.serveRestart, met, if_pos rfl, State.requestRead]
  by_cases free : s.svp.link = .free <;> simp [State.withSvp, Svp.beginRead, free]

theorem State.followRead_ready (s : State) (closedMade openMade : Bool) :
    s.followRead .ready closedMade openMade =
      if s.svp.link = .read then { s with svp := { s.svp with link := .image, linkTimer := none } } else s := by
  by_cases link : s.svp.link = .read <;> simp [State.followRead, State.withSvp, Svp.answerRead, link]

/-- A read that has not ended yet changes nothing (log 4). -/
theorem State.followRead_waits {s : State} (waits : s.svp.link ≠ .read ∨ s.svp.linkTimer ≠ some 0) (closedMade openMade : Bool) :
    s.followRead (.ended .incomplete) closedMade openMade = s := by
  have ends : s.svp.readEnds .incomplete = false := by
    rcases waits with link | timer
    · simp [Svp.readEnds, link]
    · simp [Svp.readEnds, due, timer]
  rw [State.followRead, ends, State.onlyIf_false]

theorem State.followRead_ends {s : State} {read : MemRead}
    (ends : (s.svp.link = .read ∧ s.svp.linkTimer = some 0) ∨ (read ≠ .incomplete ∧ (s.svp.link = .read ∨ s.svp.link = .image)))
    (closedMade openMade : Bool) : s.followRead (.ended read) closedMade openMade = s.endRead read closedMade openMade := by
  have ended : s.svp.readEnds read = true := by
    cases read with
    | incomplete =>
      obtain ⟨link, timer⟩ : s.svp.link = .read ∧ s.svp.linkTimer = some 0 := by simpa using ends
      simp [Svp.readEnds, link, timer]
    | complete bytes => rcases ends with ⟨link, -⟩ | ⟨-, link | link⟩ <;> simp [Svp.readEnds, link]
  rw [State.followRead, ended, State.onlyIf_true]

/-- The link after a settings read: a write that waits takes it, and else it is free (R160, R180). -/
theorem State.freeLink_eq (s : State) :
    s.freeLink =
      { s with
        tgu :=
          if s.tgu.writeAgain = true then
            { s.tgu with writing := true, writeAgain := false, writeImage := storeImage s.tgu.tags }
          else s.tgu
        svp :=
          { s.svp with
            link := if s.tgu.writeAgain = true then .write else .free
            linkTimer := if s.tgu.writeAgain = true then some (Config.writeSending s.now + 20) else none } } := by
  by_cases again : s.tgu.writeAgain = true <;>
    simp [State.freeLink, State.startWrite, State.withTgu, State.withSvp, Svp.beginWrite, Svp.release, again]

/-- The freeing of the link touches the write alone of what the TGU holds. -/
theorem State.freeLink_tgu (s : State) :
    s.freeLink.tgu =
      { s.tgu with
        writing := s.freeLink.tgu.writing
        writeAgain := s.freeLink.tgu.writeAgain
        writeImage := s.freeLink.tgu.writeImage } := by
  rw [State.freeLink_eq]
  split <;> rfl

theorem State.freeLink_svp (s : State) :
    s.freeLink.svp =
      { s.svp with
        link := if s.tgu.writeAgain = true then .write else .free
        linkTimer := if s.tgu.writeAgain = true then some (Config.writeSending s.now + 20) else none } :=
  congrArg State.svp s.freeLink_eq

theorem State.endRead_refused {s : State} (fails : s.restartConditions = false) (read : MemRead) (closedMade openMade : Bool) :
    s.endRead read closedMade openMade = (s.respond 0x40#8 .refusedState []).freeLink := by
  rw [State.endRead, fails, if_neg (by decide)]

theorem State.endRead_applied {s : State} (met : s.restartConditions = true) (read : MemRead) (closedMade openMade : Bool) :
    s.endRead read closedMade openMade = (s.applyRestart read closedMade openMade).freeLink := by
  rw [State.endRead, met, if_pos rfl]

/-! ### The restart applied (R181) -/

theorem settingsOf_judged {read : MemRead} {st : Settings} {fault : Option SettingsFault}
    (judged : judgeImage read = .ok st ∧ fault = none ∨
      ∃ e, judgeImage read = .error e ∧ st = defaultSettings ∧ fault = some e) :
    settingsOf read = st ∧ faultOf read = fault := by
  rcases judged with ⟨accepted, rfl⟩ | ⟨e, refused, rfl, rfl⟩
  · simp [settingsOf, faultOf, accepted]
  · simp [settingsOf, faultOf, refused]

/-- The SETTINGS_FAULT record of a refused image, none of an accepted one (R177). -/
def faultRecords (fault : Option SettingsFault) : List RecordBody :=
  fault.toList.map fun e => { kind := .settingsFault, reason := some e.reason }

theorem State.recordFault_eq (s : State) (fault : Option SettingsFault) :
    s.recordFault fault = { s with rcs := s.withRecords (faultRecords fault) } := by
  cases fault <;> rfl

/-- The blocks at their settings restart values under some settings (R181). -/
def State.restartedBlocks (s : State) (st : Settings) (fault : Option SettingsFault) (closedMade openMade : Bool) : State :=
  { s with
    mfp := mfpStart
    ocu := ocuStart
    cdu := s.cdu.restart closedMade openMade
    btu := s.btu.restart st
    chc := chcStart st s.chc.carr s.chc.rrdy
    pru := pruStart
    tgu := s.tgu.restart st
    rcs := s.withRecords (faultRecords fault)
    svp := s.svp.restart st fault
    inputs := { s.inputs with posc := .steady closedMade, poso := .steady openMade } }

/-- The CDU at a settings restart, field by field (R66). -/
theorem Cdu.restart_eq (c : Cdu) (closedMade openMade : Bool) :
    c.restart closedMade openMade =
      { cduAtStart closedMade openMade with
        tripV := c.tripV
        closeV := c.closeV
        tripReady := c.tripReady
        closeReady := c.closeReady
        operations := c.operations } := by
  cases closedMade <;> cases openMade <;> rfl

theorem State.restartBlocks_eq (s : State) {read : MemRead} {st : Settings} {fault : Option SettingsFault}
    (settings : settingsOf read = st) (faults : faultOf read = fault) (closedMade openMade : Bool) :
    s.restartBlocks read closedMade openMade = s.restartedBlocks st fault closedMade openMade := by
  rw [State.restartBlocks, settings, faults, State.recordFault_eq]
  rfl

theorem State.setUpSqc_eq (s : State) :
    s.setUpSqc = { s with sqc := sqcAtStart s.cfg s.closedUp s.tgu.handleDown } := by rfl

/-- The beacon timer that a draw sets (R119). -/
theorem State.delayDrawn_eq (s : State) (v : Word16) :
    (if s.btu.shutdownPending then none
      else s.beaconIntervalInForce.map fun i =>
        ({ reference := s.now, span := v.toNat * i / 65536, drawn := true } : BeaconTimer)) =
      delayDrawn s.cfg s.btu.reserve s.btu.shutdownPending s.now v := by
  unfold delayDrawn State.beaconIntervalInForce Settings.beaconMs
  cases s.btu.shutdownPending <;> cases s.btu.reserve <;> rfl

/-- The two draws of a settings restart, with no bits of the link between them, and the take stall-paced (R131). -/
theorem State.drawStarts_bare {s : State} (stalled : s.mfp.stalled = true) :
    s.drawStarts [] [] =
      { s with
        chc := { s.chc with lfsr := nextLfsr (nextLfsr s.chc.lfsr) }
        pru :=
          { s.pru with
            nextSeq := (nextLfsr s.chc.lfsr).setWidth 8
            lastEvent := (nextLfsr s.chc.lfsr).setWidth 8 - 1
            beacon := delayDrawn s.cfg s.btu.reserve s.btu.shutdownPending s.now (nextLfsr (nextLfsr s.chc.lfsr))
            pace := some 4 } } := by
  have bare (u : State) : u.bitsToArrival [] [] = u := by rfl
  rw [State.drawStarts, bare]
  ext1
  case pru =>
    simp only [State.withPru_pru, State.drawBeaconDelay_frame, State.drawSequence_frame, stalled, if_true]
    simp only [State.drawBeaconDelay, State.withPru_pru, State.advanceLfsr_frame, State.drawSequence]
    have beacon := State.delayDrawn_eq s (nextLfsr (nextLfsr s.chc.lfsr))
    rw [← beacon]
    rfl
  all_goals rfl

/-- The SETTINGS_RESTART record (R164, R181). -/
def restartRecord (ready handleDown : Bool) (operations : Word32) : RecordBody :=
  { kind := .settingsRestart
    seqState := some (if ready = true then .ready else .lockout)
    reason := if ready = true then none else some (.lock (if handleDown = true then .handle else .start))
    operations := some operations }

theorem State.recordStart_restart {s : State} {st : Settings} {ready handleDown : Bool} (sqc : s.sqc = sqcAtStart st ready handleDown) :
    s.recordStart .settingsRestart = s.record (restartRecord ready handleDown s.cdu.operations) := by
  rw [State.recordStart, sqc]
  cases ready <;> cases handleDown <;> rfl

/-- The station with a settings restart applied, its answer not yet made. -/
def State.restarted (s : State) (st : Settings) (fault : Option SettingsFault) (closedMade openMade ready : Bool) : State :=
  let blocks := s.restartedBlocks st fault closedMade openMade
  { blocks with
    sqc := sqcAtStart st ready s.tgu.handleDown
    chc := chcAtStart (nextLfsr (nextLfsr (seededLfsr st))) s.chc.carr s.chc.rrdy
    pru :=
      pruAtStart (nextLfsr (seededLfsr st))
        (delayDrawn st s.btu.reserve s.btu.shutdownPending s.now (nextLfsr (nextLfsr (seededLfsr st))))
    rcs := s.withRecords (faultRecords fault ++ [restartRecord ready s.tgu.handleDown s.cdu.operations]) }

theorem State.applyRestart_eq (s : State) {read : MemRead} {st : Settings} {fault : Option SettingsFault}
    (settings : settingsOf read = st) (faults : faultOf read = fault) (closedMade openMade : Bool) :
    s.applyRestart read closedMade openMade =
      (s.restarted st fault closedMade openMade (closedMade && !openMade && !s.tgu.handleDown)).respond 0x40#8 .done [] := by
  have ready : (s.restartedBlocks st fault closedMade openMade).closedUp = (closedMade && !openMade && !s.tgu.handleDown) := by
    cases closedMade <;> cases openMade <;> rfl
  rw [State.applyRestart, State.restartBlocks_eq s settings faults, State.setUpSqc_eq, ready,
    State.drawStarts_bare (by rfl), State.recordStart_restart (st := st) (by rfl)]
  congr 1
  ext1
  case rcs =>
    exact State.withRecords_append s (s.restartedBlocks st fault closedMade openMade) rfl (faultRecords fault)
      [restartRecord _ s.tgu.handleDown s.cdu.operations] rfl
  all_goals rfl

end Sys2Proof.Machine

/-! ### The statement -/

open Sys2Proof.Machine in
/-- Settles O59: the taking, the memory's answer, and the end of the read, refused or applied. -/
theorem settingsRestarts : Obligations.SettingsRestarts := by
  refine fun s on => ⟨fun listens => ⟨fun fails => ?_, fun seq pulse quiet => ?_⟩, fun restarts read closedMade openMade =>
    ⟨?_, fun incomplete waits => ?_, fun ends => ⟨fun fails => ?_, fun seq pulse quiet st fault ready first second judged isReady
      isFirst isSecond => ?_⟩⟩⟩
  · rw [exec_settingsRestart on listens, State.serveRestart_refused (State.restartConditions_failed (s := s.resetAssembly) fails),
      State.respond, responseFrame_eq]
    rfl
  · rw [exec_settingsRestart on listens, State.serveRestart_taken (State.restartConditions_met (s := s.resetAssembly) seq pulse quiet)]
    rfl
  · rw [exec_settingsRestartApply on restarts, State.followRead_ready]
  · rw [incomplete, exec_settingsRestartApply on restarts, State.followRead_waits waits]
  · rw [exec_settingsRestartApply on restarts, State.followRead_ends ends,
      State.endRead_refused (State.restartConditions_failed fails), State.freeLink_eq, State.respond, responseFrame_eq]
    rfl
  · obtain ⟨settings, faults⟩ := settingsOf_judged judged
    refine ⟨_, exec_settingsRestartApply on restarts (.ended read) closedMade openMade, ?_⟩
    rw [State.followRead_ends ends, State.endRead_applied (State.restartConditions_met seq pulse quiet),
      State.applyRestart_eq s settings faults, ← isReady]
    subst isFirst isSecond
    obtain ⟨now, mfp, ocu, sqc, cdu, btu, chc, pru, rcs, -, inputs, -⟩ :=
      State.freeLink_frame ((s.restarted st fault closedMade openMade ready).respond 0x40#8 .done [])
    rw [now, mfp, ocu, sqc, cdu, btu, chc, pru, rcs, inputs, State.freeLink_tgu, State.freeLink_svp, State.respond,
      responseFrame_eq, show decide (fault = none) = fault.isNone by cases fault <;> rfl]
    exact ⟨rfl, rfl, rfl, rfl, rfl, rfl, rfl, s.cdu.restart_eq closedMade openMade, rfl, rfl, rfl, rfl, rfl, rfl, rfl, rfl, rfl, rfl, rfl, rfl, rfl, rfl⟩

end

section
/-! SUPPORT. The deliveries of a good frame: their order, what each of them reads into its block, and what all of them together leave. -/

namespace Sys2Proof.Machine

/-! ### The order of the deliveries (R4; log 7) -/

/-- A delivery joins an order that has not got it yet. -/
def joinOrder (l : List Delivery) (d : Delivery) : List Delivery := if l.contains d then l else l ++ [d]

theorem deliveryOrder_eq (given : List Delivery) :
    deliveryOrder given = (given ++ [Delivery.ocu, .cdu, .btu, .sqc, .lfsr, .take]).foldl joinOrder [] := rfl

theorem mem_joinOrder {l : List Delivery} {d x : Delivery} : x ∈ joinOrder l d ↔ x ∈ l ∨ x = d := by
  unfold joinOrder
  split
  · next held =>
    rw [List.contains_iff_mem] at held
    constructor
    · exact .inl
    · rintro (h | rfl)
      · exact h
      · exact held
  · simp

theorem nodup_joinOrder {l : List Delivery} (h : l.Nodup) (d : Delivery) : (joinOrder l d).Nodup := by
  unfold joinOrder
  split
  · exact h
  · next free =>
    rw [List.contains_iff_mem] at free
    simp [List.nodup_append, h]
    exact fun a ha e => free (e ▸ ha)

theorem mem_foldl_joinOrder {l more : List Delivery} {x : Delivery} : x ∈ more.foldl joinOrder l ↔ x ∈ l ∨ x ∈ more := by
  induction more generalizing l with
  | nil => simp
  | cons d rest ih => rw [List.foldl_cons, ih, mem_joinOrder, List.mem_cons, or_assoc]

theorem nodup_foldl_joinOrder {l : List Delivery} (h : l.Nodup) (more : List Delivery) : (more.foldl joinOrder l).Nodup := by
  induction more generalizing l with
  | nil => exact h
  | cons d rest ih => exact ih (nodup_joinOrder h d)

theorem prefix_foldl_joinOrder (l more : List Delivery) : l <+: more.foldl joinOrder l := by
  induction more generalizing l with
  | nil => exact List.prefix_rfl
  | cons d rest ih =>
    refine List.IsPrefix.trans ?_ (ih _)
    unfold joinOrder
    split
    · exact List.prefix_rfl
    · exact List.prefix_append _ _

/-- Every delivery comes once at the most. -/
theorem deliveryOrder_nodup (given : List Delivery) : (deliveryOrder given).Nodup := nodup_foldl_joinOrder List.nodup_nil _

theorem mem_deliveryOrder {given : List Delivery} {d : Delivery} : d ∈ deliveryOrder given ↔ d ∈ given ∨ d ≠ .test := by
  rw [deliveryOrder_eq, mem_foldl_joinOrder, List.mem_append]
  cases d <;> simp

/-- The first delivery of the order given comes first. -/
theorem deliveryOrder_cons (d : Delivery) (given : List Delivery) : ∃ rest, deliveryOrder (d :: given) = d :: rest := by
  obtain ⟨rest, h⟩ := prefix_foldl_joinOrder [d] (given ++ [Delivery.ocu, .cdu, .btu, .sqc, .lfsr, .take])
  exact ⟨rest, h.symm⟩

/-- The first two deliveries of the order given come first. -/
theorem deliveryOrder_cons_cons {d e : Delivery} (other : d ≠ e) (given : List Delivery) :
    ∃ rest, deliveryOrder (d :: e :: given) = d :: e :: rest := by
  obtain ⟨rest, h⟩ := prefix_foldl_joinOrder [d, e] (given ++ [Delivery.ocu, .cdu, .btu, .sqc, .lfsr, .take])
  refine ⟨rest, Eq.trans ?_ h.symm⟩
  have joins : joinOrder [d] e = [d, e] := by simp [joinOrder, Ne.symm other]
  rw [← joins]
  rfl

/-! ### The arrival of a good frame (R4 to R7) -/

/-- The station at the arrival of a good frame, before its deliveries. -/
def State.arrival (s : State) (f : MeasFields) : State :=
  (((s.withMfp fun m => { m.takeGood f with frame := none }).withPru fun p => { p with pace := none }).withBtu fun b =>
    { b with testMoment := true }).refreshCharge

/-- The deliveries of a good frame, one after another. -/
def State.delivered (s : State) (f : MeasFields) (closing : Bool) (order : List Delivery) : State :=
  order.foldl (fun t d => t.deliver f closing d) s

@[simp] theorem State.delivered_nil (s : State) (f : MeasFields) (closing : Bool) : s.delivered f closing [] = s := rfl

@[simp] theorem State.delivered_cons (s : State) (f : MeasFields) (closing : Bool) (d : Delivery) (rest : List Delivery) :
    s.delivered f closing (d :: rest) = (s.deliver f closing d).delivered f closing rest := rfl

theorem State.delivered_append (s : State) (f : MeasFields) (closing : Bool) (first later : List Delivery) :
    s.delivered f closing (first ++ later) = (s.delivered f closing first).delivered f closing later :=
  List.foldl_append ..

/-- Bits that bring a good frame bring its deliveries. -/
theorem exec_goodFrame {s : State} {bits : List LinkBit} {bytes : List Byte} (on : s.started = true)
    (brings : Brings s.mfp.frame bits bytes) (good : FrameIsGood bytes) (order : List Delivery) :
    exec (.measurementFrame bits order) s =
      .next ((s.arrival (measFields bytes)).delivered (measFields bytes) (s.cdu.pulse == .close) (deliveryOrder order)) := by
  refine congrArg Host.Outcome.next ((State.whenStarted_of_started _ _ on).trans ?_)
  rw [State.bitsToArrival_brings s bits bytes order brings, State.frameArrives, (goodFrame_iff bytes).mpr good, if_pos rfl]
  rfl

/-- Bits that bring a frame that is not good only count it (R3). -/
theorem exec_badFrame {s : State} {bits : List LinkBit} {bytes : List Byte} (on : s.started = true)
    (brings : Brings s.mfp.frame bits bytes) (bad : ¬FrameIsGood bytes) (order : List Delivery) :
    exec (.measurementFrame bits order) s =
      .next { s with mfp := { s.mfp with frame := none, badFrames := min 65535 (s.mfp.badFrames + 1) } } := by
  refine congrArg Host.Outcome.next ((State.whenStarted_of_started _ _ on).trans ?_)
  rw [State.bitsToArrival_brings s bits bytes order brings, State.frameArrives, if_neg (mt (goodFrame_iff bytes).mp bad)]
  rfl

/-! ### What a delivery reads (R4, R10, R122) -/

/-- The station after a delivery's own reading of the frame, before what follows from it. -/
def State.reading (s : State) (f : MeasFields) : Delivery → State
  | .ocu => s.stepped f
  | .cdu => s.withCdu fun c => { c with tripV := f.tripV, closeV := f.closeV }
  | .btu => s.withBtu fun b => { b with battV := f.battV, battI := f.battI, temperature := f.temperature }
  | .sqc => s.withSqc fun q => { q with sourcePresent := f.source }
  | .lfsr => s
  | .take => s.withChc fun c => { c with queue := c.queue.tail }
  | .test => s

/-- The test of the start conditions changes nothing that is read (R78). -/
theorem State.testAtArrival_readings (s : State) : s.testAtArrival.readings = s.readings := by
  unfold State.testAtArrival State.onlyIf
  simp only
  split
  · exact State.setCharger_readings _ _
  · rfl

/-- All that a take does after the record has left the queue is hand-offs (R122). -/
theorem State.takeHead_reached {d : Bool} (s : State) :
    (s.withChc fun c => { c with queue := c.queue.tail }).Reaches d s.takeHead := by
  unfold State.takeHead
  split
  · next empty => exact .of_untouched (by simp [State.readings, empty]) rfl rfl rfl rfl rfl rfl rfl
  · next x rest held =>
    have tail : s.chc.queue.tail = rest := by rw [held, List.tail_cons]
    rw [← tail]
    exact (State.Reaches.refl _).applyRecord x

/-- What follows a delivery's reading changes nothing that is read. -/
theorem State.deliver_readings (s : State) (f : MeasFields) (closing : Bool) (d : Delivery) :
    (s.deliver f closing d).readings = (s.reading f d).readings := by
  cases d with
  | ocu => exact (s.stepped_reaches_frameStep (d := false) f).readings
  | cdu =>
    unfold State.deliver State.deliverVoltages
    exact ((State.Reaches.refl (d := false) _).refreshCharge.handReports).readings
  | btu =>
    unfold State.deliver State.deliverBattery
    exact ((State.Reaches.refl (d := true) _).sendSetpoint.judgeBattery.watchLowVoltage.watchTaper).readings
  | sqc => rfl
  | lfsr => exact (State.Reaches.refl (d := true) s).advanceLfsr.readings
  | take => exact (s.takeHead_reached (d := false)).readings
  | test => exact s.testAtArrival_readings

/-! ### What all deliveries together leave -/

section

variable {α : Type} {part : State → α} {f : MeasFields} {closing : Bool}

/-- Deliveries that each leave a part of the station leave it together. -/
theorem State.delivered_keeps {order : List Delivery} (keep : ∀ d ∈ order, ∀ u : State, part (u.deliver f closing d) = part u)
    (s : State) : part (s.delivered f closing order) = part s := by
  induction order generalizing s with
  | nil => rfl
  | cons d rest ih =>
    rw [State.delivered_cons, ih fun x hx => keep x (List.mem_cons_of_mem d hx)]
    exact keep d List.mem_cons_self s

/-- A part that one delivery alone changes is, after all of them, as that delivery left it where it came. -/
theorem State.delivered_once {order : List Delivery} {d : Delivery} (nodup : order.Nodup) (member : d ∈ order)
    (keep : ∀ x, x ≠ d → ∀ u : State, part (u.deliver f closing x) = part u) (s : State) :
    ∃ first later, order = first ++ d :: later ∧ d ∉ first ∧ d ∉ later ∧
      part (s.delivered f closing first) = part s ∧
      part (s.delivered f closing order) = part ((s.delivered f closing first).deliver f closing d) := by
  obtain ⟨first, later, rfl⟩ := List.append_of_mem member
  obtain ⟨-, ends, apart⟩ := List.nodup_append.mp nodup
  have notLater : d ∉ later := (List.nodup_cons.mp ends).1
  have notFirst : d ∉ first := fun h => apart d h d List.mem_cons_self rfl
  refine ⟨first, later, rfl, notFirst, notLater, State.delivered_keeps (fun x hx => keep x fun e => notFirst (e ▸ hx)) s, ?_⟩
  rw [State.delivered_append, State.delivered_cons]
  exact State.delivered_keeps (fun x hx => keep x fun e => notLater (e ▸ hx)) _

end

section

variable (s : State) (f : MeasFields) (closing : Bool)

theorem State.deliver_elems {d : Delivery} (other : d ≠ .ocu) : (s.deliver f closing d).ocu.elems = s.ocu.elems := by
  have readings := congrArg Readings.elems (s.deliver_readings f closing d)
  cases d with
  | ocu => exact absurd rfl other
  | _ => exact readings

theorem State.deliver_voltages {d : Delivery} (other : d ≠ .cdu) :
    ((s.deliver f closing d).cdu.tripV, (s.deliver f closing d).cdu.closeV) = (s.cdu.tripV, s.cdu.closeV) := by
  have readings := congrArg (fun r => (Readings.tripV r, Readings.closeV r)) (s.deliver_readings f closing d)
  cases d with
  | cdu => exact absurd rfl other
  | _ => exact readings

theorem State.deliver_battery {d : Delivery} (other : d ≠ .btu) :
    ((s.deliver f closing d).btu.battV, (s.deliver f closing d).btu.battI, (s.deliver f closing d).btu.temperature) =
      (s.btu.battV, s.btu.battI, s.btu.temperature) := by
  have readings := congrArg (fun r => (Readings.battV r, Readings.battI r, Readings.temperature r)) (s.deliver_readings f closing d)
  cases d with
  | btu => exact absurd rfl other
  | _ => exact readings

theorem State.deliver_source {d : Delivery} (other : d ≠ .sqc) :
    (s.deliver f closing d).sqc.sourcePresent = s.sqc.sourcePresent := by
  have readings := congrArg Readings.source (s.deliver_readings f closing d)
  cases d with
  | sqc => exact absurd rfl other
  | _ => exact readings

theorem State.deliver_queue {d : Delivery} (other : d ≠ .take) : (s.deliver f closing d).chc.queue = s.chc.queue := by
  have readings := congrArg Readings.queue (s.deliver_readings f closing d)
  cases d with
  | take => exact absurd rfl other
  | _ => exact readings

/-- What no delivery changes: the pace of the take, the keys and the handle. -/
theorem State.deliver_panel (d : Delivery) :
    ((s.deliver f closing d).pru.pace, (s.deliver f closing d).tgu.keys, (s.deliver f closing d).tgu.handleDown) =
      (s.pru.pace, s.tgu.keys, s.tgu.handleDown) := by
  have readings := congrArg (fun r => (Readings.pace r, Readings.keys r, Readings.handleDown r)) (s.deliver_readings f closing d)
  cases d <;> exact readings

theorem State.delivered_frame (order : List Delivery) :
    ((s.delivered f closing order).now, (s.delivered f closing order).mfp, (s.delivered f closing order).svp,
      (s.delivered f closing order).inputs) = (s.now, s.mfp, s.svp, s.inputs) :=
  State.delivered_keeps (part := fun u => (u.now, u.mfp, u.svp, u.inputs)) (fun d _ u => by simp) s

end

/-! ### The draw of a good frame (R89) -/

/-- A change of the battery values draws nothing while the reserve state is not CRITICAL (R119). -/
theorem State.deliverBattery_undrawn {s : State} (idle : s.chc.backoff = none) (reserve : s.btu.reserve ≠ .critical)
    (v : Nat) (i temperature : Int) :
    (s.deliverBattery v i temperature).chc.backoff = none ∧ (s.deliverBattery v i temperature).chc.lfsr = s.chc.lfsr := by
  unfold State.deliverBattery
  have sent := (State.Reaches.refl (d := false) (s.withBtu fun b =>
    { b with battV := v, battI := i, temperature := temperature, vf := floatSetpoint temperature, measured := true })).sendSetpoint
  generalize (s.withBtu fun b =>
    { b with battV := v, battI := i, temperature := temperature, vf := floatSetpoint temperature, measured := true }).sendSetpoint = u at sent ⊢
  have uIdle : u.chc.backoff = none ∧ u.chc.lfsr = s.chc.lfsr := sent.undrawn rfl idle
  have uReserve : u.btu.reserve ≠ .critical := by rw [sent.reserve rfl]; exact reserve
  have judged : u.judgeBattery.chc.backoff = none ∧ u.judgeBattery.chc.lfsr = s.chc.lfsr := by
    unfold State.judgeBattery State.onlyIf
    dsimp only
    split
    · obtain ⟨backoff, lfsr⟩ := (State.changeReserve_undrawn _ uReserve).undrawn rfl uIdle.1
      exact ⟨backoff, lfsr.trans uIdle.2⟩
    · exact uIdle
  obtain ⟨backoff, lfsr⟩ :=
    ((State.Reaches.refl (d := false) u.judgeBattery).watchLowVoltage.watchTaper).undrawn rfl judged.1
  exact ⟨backoff, lfsr.trans judged.2⟩

/-- A delivery but the frame's own draw and the battery's leaves the LFSR, with no backoff count held, and the reserve state. -/
theorem State.deliver_undrawn {s : State} (f : MeasFields) (closing : Bool) {d : Delivery} (draw : d ≠ .lfsr) (battery : d ≠ .btu)
    (idle : s.chc.backoff = none) :
    (s.deliver f closing d).chc.backoff = none ∧ (s.deliver f closing d).chc.lfsr = s.chc.lfsr ∧
      (s.deliver f closing d).btu.reserve = s.btu.reserve := by
  have handOff {u t : State} (h : u.Reaches false t) (chc : (u.chc.backoff, u.chc.lfsr) = (s.chc.backoff, s.chc.lfsr))
      (reserve : u.btu.reserve = s.btu.reserve) :
      t.chc.backoff = none ∧ t.chc.lfsr = s.chc.lfsr ∧ t.btu.reserve = s.btu.reserve := by
    rw [Prod.mk.injEq] at chc
    obtain ⟨backoff, lfsr⟩ := h.undrawn rfl (chc.1.trans idle)
    exact ⟨backoff, lfsr.trans chc.2, (h.reserve rfl).trans reserve⟩
  cases d with
  | ocu => exact handOff (s.stepped_reaches_frameStep f) rfl rfl
  | cdu =>
    unfold State.deliver State.deliverVoltages
    exact handOff (State.Reaches.refl _).refreshCharge.handReports rfl rfl
  | btu => exact absurd rfl battery
  | sqc => exact handOff (.refl (s.sqcSource f.source)) rfl rfl
  | lfsr => exact absurd rfl draw
  | take => exact handOff s.takeHead_reached rfl rfl
  | test =>
    refine ⟨?_, ?_, ?_⟩
    · simpa [State.deliver] using idle
    · simp [State.deliver]
    · unfold State.deliver State.testAtArrival State.onlyIf
      simp only
      split
      · exact State.setCharger_reserve _ _
      · rfl

/-- The deliveries of a frame advance the LFSR where the frame's own draw is among them, and no further while no backoff count is held
and the reserve state is not CRITICAL. -/
theorem State.delivered_lfsr {order : List Delivery} (nodup : order.Nodup) {s : State} (f : MeasFields) (closing : Bool)
    (idle : s.chc.backoff = none) (reserve : .btu ∈ order → s.btu.reserve ≠ .critical) :
    (s.delivered f closing order).chc.lfsr = if .lfsr ∈ order then lfsrAdvance s.chc.lfsr else s.chc.lfsr := by
  induction order generalizing s with
  | nil => simp
  | cons d rest ih =>
    obtain ⟨once, apart⟩ := List.nodup_cons.mp nodup
    rw [State.delivered_cons]
    by_cases battery : d = .btu
    · subst battery
      obtain ⟨backoff, lfsr⟩ := State.deliverBattery_undrawn idle (reserve List.mem_cons_self) f.battV f.battI f.temperature
      rw [ih apart (s := s.deliver f closing .btu) backoff fun h => absurd h once]
      simp [show (s.deliver f closing .btu).chc.lfsr = s.chc.lfsr from lfsr]
    by_cases draw : d = .lfsr
    · subst draw
      rw [ih apart (s := s.deliver f closing .lfsr) (by simpa [State.deliver, State.advanceLfsr] using idle)
        fun h => by simpa [State.deliver] using reserve (List.mem_cons_of_mem _ h)]
      simp [once, State.deliver]
    · obtain ⟨backoff, lfsr, kept⟩ := State.deliver_undrawn f closing draw battery idle
      rw [ih apart backoff fun h => by rw [kept]; exact reserve (List.mem_cons_of_mem _ h), lfsr]
      simp [Ne.symm draw]

/-! ### The fields of a frame (R2) -/

/-- A signed field of two bytes has the first of them as its high byte. -/
theorem signedField_eq (bytes : List Byte) (off : Nat) (h : off + 1 < bytes.length) :
    signedField bytes off = (bytes.getD off 0 ++ bytes.getD (off + 1) 0).toInt := by
  rw [signedField, field_two bytes off h]
  congr 1
  apply BitVec.eq_of_toNat_eq
  rw [BitVec.toNat_append, ← Nat.shiftLeft_add_eq_or_of_lt (bytes.getD (off + 1) 0).isLt, Nat.shiftLeft_eq, BitVec.toNat_ofNat,
    Nat.mod_eq_of_lt]
  have high := (bytes.getD off 0).isLt
  have low := (bytes.getD (off + 1) 0).isLt
  omega

end Sys2Proof.Machine
end

section
/-! SUPPORT. Frames held, short, bad and good, and the multiples that a good one leaves. -/

namespace Sys2Proof.Machine

/-! ### Bits that bring no arrival (R1) -/

/-- The frame in progress after some bits. -/
theorem State.sampled_eq {s : State} {bits : List LinkBit} {after : Option (List Bool) × List LinkEvent}
    (h : sampleBits s.mfp.frame bits = after) : s.sampled bits = { s with mfp := { s.mfp with frame := after.1 } } := by
  rw [← h]
  rfl

section

variable {s : State} {bits : List LinkBit} (on : s.started = true) (startless : Startless bits)

include on startless

/-- Bits of no frame are discarded, and a frame start begins one. -/
theorem exec_unframed (frame : s.mfp.frame = none) {start : LinkBit} (starts : start.start = true) (order : List Delivery) :
    exec (.measurementFrame bits order) s = .next s ∧ exec (.shortFrame bits) s = .next s ∧
      exec (.measurementFrame (bits ++ [start]) order) s =
        .next { s with mfp := { s.mfp with frame := some [start.bit] } } := by
  have kept : s.sampled bits = s := by
    rw [State.sampled_eq (after := (none, [])) (by rw [frame, sampleBits_none bits startless]), ← frame]
  have begun : sampleBits none (bits ++ [start]) = (some [start.bit], []) := by
    rw [sampleBits_append, sampleBits_none bits startless]
    simp [sampleBits, sampleBit, starts]
  refine ⟨congrArg Host.Outcome.next ((State.whenStarted_of_started _ _ on).trans ?_),
    congrArg Host.Outcome.next ((State.whenStarted_of_started _ _ on).trans ?_),
    congrArg Host.Outcome.next ((State.whenStarted_of_started _ _ on).trans ?_)⟩
  · rw [State.bitsToArrival, frame, sampleBits_none bits startless]
    exact kept
  · rw [State.bitsToShort, frame, sampleBits_none bits startless]
    exact kept
  · rw [← frame] at begun
    rw [State.bitsToArrival, begun]
    exact State.sampled_eq begun

/-- Bits short of the 192nd are held, and a frame start among them makes the frame in progress a short one. -/
theorem exec_framed {held : List Bool} (frame : s.mfp.frame = some held) (room : held.length + bits.length < 192)
    {start : LinkBit} (starts : start.start = true) (order : List Delivery) :
    exec (.measurementFrame bits order) s =
        .next { s with mfp := { s.mfp with frame := some (held ++ bits.map (·.bit)) } } ∧
      exec (.shortFrame (bits ++ [start])) s =
        .next { s with mfp := { s.mfp with frame := some [start.bit], badFrames := min 65535 (s.mfp.badFrames + 1) } } := by
  have cut : sampleBits (some held) (bits ++ [start]) = (some [start.bit], [.short]) := by
    rw [sampleBits_append, sampleBits_hold held bits startless room]
    simp [sampleBits, sampleBit, starts]
  refine ⟨congrArg Host.Outcome.next ((State.whenStarted_of_started _ _ on).trans ?_),
    congrArg Host.Outcome.next ((State.whenStarted_of_started _ _ on).trans ?_)⟩
  · exact State.bitsToArrival_hold s bits held order frame startless room
  · rw [← frame] at cut
    rw [State.bitsToShort, cut]
    show (s.sampled (bits ++ [start])).badFrame = _
    rw [State.sampled_eq cut]
    rfl

end

/-! ### What a good frame leaves (R4, R10) -/

theorem State.arrival_mfp (s : State) (f : MeasFields) : (s.arrival f).mfp = { s.mfp.takeGood f with frame := none } := rfl

/-- The recovery timer starts at a good frame while measurement lost is set, and runs on where it runs (R7). -/
theorem recovery_eq (lost : Bool) (recovery : Timer) :
    (if lost then some (recovery.getD 1000) else recovery) = if lost = true ∧ recovery = none then some 1000 else recovery := by
  cases lost <;> cases recovery <;> rfl

/-- The elements after a good frame are those of the OCU's own step, made from the elements as they stood. -/
theorem State.delivered_elems (s : State) (f : MeasFields) (closing : Bool) {order : List Delivery} (nodup : order.Nodup)
    (member : .ocu ∈ order) :
    ∃ first later, order = first ++ .ocu :: later ∧ Delivery.ocu ∉ first ∧ (s.delivered f closing first).ocu.elems = s.ocu.elems ∧
      (s.delivered f closing order).ocu.elems = ((s.delivered f closing first).computeStep f).elems := by
  obtain ⟨first, later, split, notFirst, -, before, after⟩ := State.delivered_once (part := fun u => u.ocu.elems) nodup member
    (fun x other u => u.deliver_elems f closing other) s
  exact ⟨first, later, split, notFirst, before, after.trans (State.frameStep_elems _ f)⟩

theorem State.delivered_cfg (s : State) (f : MeasFields) (closing : Bool) (order : List Delivery) :
    (s.delivered f closing order).cfg = s.cfg :=
  State.delivered_keeps (part := State.cfg) (fun d _ u => by simp [State.cfg]) s

/-- The multiples of the four elements after a step (R10). -/
theorem State.computeStep_multiples (s : State) (f : MeasFields) :
    (s.computeStep f).elems.a.m = multiple f.ia s.cfg.pickupPh ∧ (s.computeStep f).elems.b.m = multiple f.ib s.cfg.pickupPh ∧
      (s.computeStep f).elems.c.m = multiple f.ic s.cfg.pickupPh ∧ (s.computeStep f).elems.g.m = multiple f.ig s.cfg.pickupGd :=
  ⟨rfl, rfl, rfl, rfl⟩

/-- The part that one delivery sets has, after all of them, the value that it sets. -/
theorem State.delivered_sets {α : Type} {part : State → α} {f : MeasFields} {closing : Bool} {order : List Delivery} {d : Delivery}
    (nodup : order.Nodup) (member : d ∈ order) (keep : ∀ x, x ≠ d → ∀ u : State, part (u.deliver f closing x) = part u) {v : α}
    (sets : ∀ u : State, part (u.deliver f closing d) = v) (s : State) : part (s.delivered f closing order) = v := by
  obtain ⟨_, _, _, _, _, _, after⟩ := State.delivered_once nodup member keep s
  exact after.trans (sets _)

section

variable (s : State) (f : MeasFields) (closing : Bool) {order : List Delivery} (nodup : order.Nodup)

include nodup

theorem State.delivered_voltages (member : .cdu ∈ order) :
    ((s.delivered f closing order).cdu.tripV, (s.delivered f closing order).cdu.closeV) = (f.tripV, f.closeV) :=
  State.delivered_sets (part := fun u => (u.cdu.tripV, u.cdu.closeV)) (v := (f.tripV, f.closeV)) nodup member (fun _ other u => u.deliver_voltages f closing other)
    (fun u => congrArg (fun r => (Readings.tripV r, Readings.closeV r)) (u.deliver_readings f closing .cdu)) s

theorem State.delivered_battery (member : .btu ∈ order) :
    ((s.delivered f closing order).btu.battV, (s.delivered f closing order).btu.battI,
      (s.delivered f closing order).btu.temperature) = (f.battV, f.battI, f.temperature) :=
  State.delivered_sets (part := fun u => (u.btu.battV, u.btu.battI, u.btu.temperature)) (v := (f.battV, f.battI, f.temperature)) nodup member
    (fun _ other u => u.deliver_battery f closing other)
    (fun u => congrArg (fun r => (Readings.battV r, Readings.battI r, Readings.temperature r)) (u.deliver_readings f closing .btu)) s

theorem State.delivered_source (member : .sqc ∈ order) : (s.delivered f closing order).sqc.sourcePresent = f.source :=
  State.delivered_sets (part := fun u => u.sqc.sourcePresent) nodup member (fun _ other u => u.deliver_source f closing other)
    (fun u => congrArg Readings.source (u.deliver_readings f closing .sqc)) s

theorem State.delivered_queue (member : .take ∈ order) : (s.delivered f closing order).chc.queue = s.chc.queue.tail := by
  obtain ⟨first, later, -, -, -, before, after⟩ := State.delivered_once (part := fun u => u.chc.queue) nodup member
    (fun _ other u => u.deliver_queue f closing other) s
  refine after.trans ?_
  rw [← before]
  exact congrArg Readings.queue ((s.delivered f closing first).deliver_readings f closing .take)

end

end Sys2Proof.Machine

/-! ### The statements -/

open Sys2Proof.Machine in
/-- Settles O17: no delivery but the OCU's changes the elements, and none the pickups. -/
theorem multipleOfPickup : Obligations.MultipleOfPickup := by
  intro s bits bytes order on brings good
  have size : bytes.length = 24 := good.1
  refine ⟨_, exec_goodFrame on brings good order, ?_⟩
  obtain ⟨first, -, -, -, -, elems⟩ := (s.arrival (measFields bytes)).delivered_elems (measFields bytes) (s.cdu.pulse == .close)
    (deliveryOrder_nodup order) (mem_deliveryOrder.mpr (.inr (by decide)))
  obtain ⟨a, b, c, g⟩ := State.computeStep_multiples
    ((s.arrival (measFields bytes)).delivered (measFields bytes) (s.cdu.pulse == .close) first) (measFields bytes)
  rw [elems, a, b, c, g, State.delivered_cfg, ← field_two bytes 3 (by omega), ← field_two bytes 5 (by omega),
    ← field_two bytes 7 (by omega), ← field_two bytes 9 (by omega)]
  exact ⟨rfl, rfl, rfl, rfl⟩

open Sys2Proof.Machine in
/-- Settles O16: the assembly by its bits, and a good frame by what each delivery reads. -/
theorem measurementFramesAreJudged : Obligations.MeasurementFramesAreJudged := by
  refine ⟨fun s bits start order on startless starts => ⟨fun frame => exec_unframed on startless frame starts order,
    fun held frame room => exec_framed on startless frame room starts order⟩,
    fun s bits bytes order on brings bad => exec_badFrame on brings bad order, fun s bits bytes order on brings good => ?_⟩
  have size : bytes.length = 24 := good.1
  have nodup := deliveryOrder_nodup order
  have all (d : Sys2Proof.Delivery) (h : d ≠ .test) : d ∈ deliveryOrder order := mem_deliveryOrder.mpr (.inr h)
  refine ⟨_, exec_goodFrame on brings good order, ?_⟩
  have frame := (s.arrival (measFields bytes)).delivered_frame (measFields bytes) (s.cdu.pulse == .close) (deliveryOrder order)
  have panel := State.delivered_keeps (part := fun u => (u.pru.pace, u.tgu.keys, u.tgu.handleDown))
    (order := deliveryOrder order) (fun d _ u => u.deliver_panel (measFields bytes) (s.cdu.pulse == .close) d)
    (s.arrival (measFields bytes))
  have voltages := (s.arrival (measFields bytes)).delivered_voltages (measFields bytes) (s.cdu.pulse == .close) nodup
    (all .cdu (by decide))
  have battery := (s.arrival (measFields bytes)).delivered_battery (measFields bytes) (s.cdu.pulse == .close) nodup
    (all .btu (by decide))
  simp only [Prod.mk.injEq] at frame panel voltages battery
  obtain ⟨now, mfp, svp, inputs⟩ := frame
  obtain ⟨pace, keys, handle⟩ := panel
  obtain ⟨tripV, closeV⟩ := voltages
  obtain ⟨battV, battI, temperature⟩ := battery
  refine ⟨?_, fun idle reserve => ?_, ?_, ?_, ?_, ?_, ?_, ?_, pace, ?_, now, State.delivered_cfg _ _ _ _, keys, handle, inputs⟩
  · rw [mfp, State.arrival_mfp, Mfp.takeGood, recovery_eq]
    rfl
  · rw [State.delivered_lfsr nodup (measFields bytes) _ (s := s.arrival (measFields bytes)) idle fun _ => reserve,
      if_pos (all .lfsr (by decide))]
    rfl
  · rw [tripV, ← field_two bytes 19 (by omega)]
    rfl
  · rw [closeV, ← field_two bytes 21 (by omega)]
    rfl
  · rw [battV, ← field_two bytes 13 (by omega)]
    rfl
  · rw [battI, ← signedField_eq bytes 15 (by omega)]
    rfl
  · rw [temperature, ← signedField_eq bytes 17 (by omega)]
    rfl
  · rw [State.delivered_source _ _ _ nodup (all .sqc (by decide))]
    show (field bytes 11 1 == 1) = _
    rw [field_one bytes 11 (by omega), Bool.eq_iff_iff, beq_iff_eq, decide_eq_true_eq, ← BitVec.toNat_inj]
    rfl
  · exact State.delivered_queue _ _ _ nodup (all .take (by decide))

end

section
/-! SUPPORT. The deliveries beside the OCU's, with no record waiting, as they pass the sequence by: they make no trip, change neither s
nor the current trip, and leave the elements, the holds and the tags. -/

namespace Sys2Proof.Machine

/-- What the deliveries beside the OCU's leave of the sequence, of the OCU and of the tags: in TRIPPING they change nothing of the SQC but
the source voltage delivered, and from no other state do they lead there. -/
structure State.Bypasses (s t : State) : Prop where
  ocu : t.ocu = s.ocu
  tgu : t.tgu = s.tgu
  shots : t.sqc.shots = s.sqc.shots
  trip : t.sqc.trip = s.sqc.trip
  outside : s.sqc.seq ≠ .tripping → t.sqc.seq ≠ .tripping
  within : s.sqc.seq = .tripping → s.sqc.memory = none → t.sqc = { s.sqc with sourcePresent := t.sqc.sourcePresent }

/-- An entry to a state that is not closed leaves the OCU (R132). -/
theorem State.enterSeq_ocu (s : State) {new : SeqState} (closed : new.isClosed = false) : (s.enterSeq new).ocu = s.ocu := by
  rw [State.enterSeq_eq]
  simp [State.entering, closed]

namespace State.Bypasses

variable {r s t : State}

@[refl] theorem refl (s : State) : s.Bypasses s := ⟨rfl, rfl, rfl, rfl, id, fun _ _ => rfl⟩

theorem trans (h : r.Bypasses s) (k : s.Bypasses t) : r.Bypasses t where
  ocu := k.ocu.trans h.ocu
  tgu := k.tgu.trans h.tgu
  shots := k.shots.trans h.shots
  trip := k.trip.trans h.trip
  outside := k.outside ∘ h.outside
  within seq memory := by
    have sqc := h.within seq memory
    have sqc' := k.within (by rw [sqc]; exact seq) (by rw [sqc]; exact memory)
    rw [sqc', sqc]

/-- A change of other blocks alone. -/
theorem of_eq (ocu : t.ocu = s.ocu) (tgu : t.tgu = s.tgu) (sqc : t.sqc = s.sqc) : s.Bypasses t :=
  ⟨ocu, tgu, by rw [sqc], by rw [sqc], by rw [sqc]; exact id, fun _ _ => by rw [sqc]⟩

/-- A further change of other blocks alone. -/
theorem andKeeps (h : r.Bypasses s) (ocu : t.ocu = s.ocu) (tgu : t.tgu = s.tgu) (sqc : t.sqc = s.sqc) : r.Bypasses t :=
  h.trans (of_eq ocu tgu sqc)

/-- A move of the sequence out of a state other than TRIPPING, which is not entered either. -/
theorem of_outside (seq : s.sqc.seq ≠ .tripping) (ocu : t.ocu = s.ocu) (tgu : t.tgu = s.tgu) (shots : t.sqc.shots = s.sqc.shots)
    (trip : t.sqc.trip = s.sqc.trip) (seq' : t.sqc.seq ≠ .tripping) : s.Bypasses t :=
  ⟨ocu, tgu, shots, trip, fun _ => seq', fun within => absurd within seq⟩

theorem onlyIf {c : Bool} {f : State → State} (hf : c = true → s.Bypasses (f s)) : s.Bypasses (s.onlyIf c f) := by
  cases c with
  | false => exact refl s
  | true => exact hf rfl

/-! ### The sequence's own operations -/

section

variable (seq : s.sqc.seq ≠ .tripping)

include seq

theorem enterLockout (reason : LockReason) : s.Bypasses (s.enterLockout reason) :=
  of_outside seq (by simp [State.enterLockout, s.enterSeq_ocu (new := .lockout) rfl]) (by simp) (by simp [Sqc.moved]) (by simp [Sqc.moved])
    (by simp [Sqc.moved])

theorem closeFailure : s.Bypasses s.closeFailure := onlyIf fun _ => enterLockout seq _

theorem fireClose : s.Bypasses s.fireClose := by
  have ordered : s.Bypasses (s.withSqc fun q => { q with closeBegun := true, charge := none }) :=
    of_outside seq rfl rfl rfl rfl seq
  unfold State.fireClose
  dsimp only
  split
  · exact ordered.trans (of_eq (by simp) (by simp) (by simp))
  · exact ordered.trans (closeFailure seq)

theorem closeGate (wait : Bool) : s.Bypasses (s.closeGate wait) := by
  have closing : s.Bypasses ((s.enterSeq .closing).withSqc fun q => { q with closeKind := .automatic }) :=
    of_outside seq (s.enterSeq_ocu rfl) (by simp) (by simp [Sqc.enter]) (by simp [Sqc.enter]) (by simp [Sqc.enter])
  have charging : s.Bypasses ((s.enterSeq .closeCharge).withSqc fun q => { q with charge := some 20000 }) :=
    of_outside seq (s.enterSeq_ocu rfl) (by simp) (by simp [Sqc.enter]) (by simp [Sqc.enter]) (by simp [Sqc.enter])
  unfold State.closeGate
  repeat' split
  · exact enterLockout seq _
  · exact enterLockout seq _
  · exact enterLockout seq _
  · exact enterLockout seq _
  · exact enterLockout seq _
  · exact closing.trans (fireClose (closing.outside seq))
  · exact charging
  · exact refl s

end

/-- A close capacitor ready report acts in CLOSE_CHARGE and CLOSING alone (R34, R41). -/
theorem closeReadyReport (s : State) : s.Bypasses s.closeReadyReport := by
  unfold State.closeReadyReport
  split
  · next seq => exact closeGate (by rw [seq]; decide) _
  · next seq => exact onlyIf fun _ => fireClose (by rw [seq]; decide)
  · exact refl s

theorem handReports (s : State) : s.Bypasses s.handReports := by
  have trip : s.Bypasses s.tripHanded := by
    unfold State.tripHanded
    split
    · exact of_eq (by simp) (by simp) (by simp)
    · exact refl s
  rw [State.handReports_eq]
  split
  · refine trip.trans (.trans ?_ (closeReadyReport _))
    exact of_eq rfl rfl rfl
  · exact trip

/-- The reserve state becomes CRITICAL outside TRIPPING, where it moves nothing (R34, R41). -/
theorem sqcCritical (s : State) : s.Bypasses s.sqcCritical := by
  unfold State.sqcCritical
  split
  · next seq => exact enterLockout (by rw [seq]; decide) _
  · next seq =>
    split
    · exact refl s
    · exact enterLockout (by rw [seq]; decide) _
  · exact refl s

theorem changeReserve (s : State) (new : Reserve) : s.Bypasses (s.changeReserve new) := by
  have recorded : s.Bypasses ((s.withReserve new).record { kind := .reserveChange, reserve := some new, battV := some s.btu.battV }) :=
    of_eq rfl rfl rfl
  have followed := recorded.trans (onlyIf (c := new == .critical) fun _ => sqcCritical _)
  exact followed.andKeeps (by simp [State.changeReserve, State.withReserve]) (by simp [State.changeReserve, State.withReserve])
    (by simp [State.changeReserve, State.withReserve])

theorem judgeBattery (s : State) : s.Bypasses s.judgeBattery := by
  unfold State.judgeBattery
  exact onlyIf fun _ => changeReserve _ _

/-! ### The deliveries -/

theorem deliverVoltages (s : State) (tripV closeV : Nat) (closing : Bool) : s.Bypasses (s.deliverVoltages tripV closeV closing) := by
  unfold State.deliverVoltages
  dsimp only
  exact .trans (of_eq (by simp) (by simp) (by simp)) (handReports _)

theorem deliverBattery (s : State) (v : Nat) (i temperature : Int) : s.Bypasses (s.deliverBattery v i temperature) := by
  have sent : s.Bypasses (s.withBtu fun b =>
      { b with battV := v, battI := i, temperature := temperature, vf := floatSetpoint temperature, measured := true }).sendSetpoint :=
    of_eq (by simp) (by simp) (by simp)
  exact (sent.trans (judgeBattery _)).andKeeps (by simp [State.deliverBattery]) (by simp [State.deliverBattery])
    (by simp [State.deliverBattery])

theorem sqcSource (s : State) (present : Bool) : s.Bypasses (s.sqcSource present) where
  ocu := rfl
  tgu := rfl
  shots := rfl
  trip := rfl
  outside := id
  within _ memory := by simp [State.sqcSource, memory]

/-- With no record waiting, a delivery beside the OCU's passes the sequence by. -/
theorem deliver {s : State} (empty : s.chc.queue = []) (f : MeasFields) (closing : Bool) {d : Delivery} (other : d ≠ .ocu) :
    s.Bypasses (s.deliver f closing d) := by
  cases d with
  | ocu => exact absurd rfl other
  | cdu => exact deliverVoltages s _ _ _
  | btu => exact deliverBattery s _ _ _
  | sqc => exact sqcSource s _
  | lfsr => exact of_eq (by simp [State.deliver]) (by simp [State.deliver]) (by simp [State.deliver])
  | take => simp [State.deliver, State.takeHead, empty, refl]
  | test => exact of_eq (by simp [State.deliver]) (by simp [State.deliver]) (by simp [State.deliver])

end State.Bypasses

/-- With no record waiting, a delivery leaves none waiting. -/
theorem State.deliver_empty {s : State} (empty : s.chc.queue = []) (f : MeasFields) (closing : Bool) (d : Delivery) :
    (s.deliver f closing d).chc.queue = [] := by
  by_cases take : d = .take
  · subst take
    simp [State.deliver, State.takeHead, empty]
  · rw [s.deliver_queue f closing take, empty]

/-- A property that each of some deliveries keeps, all of them keep. -/
theorem State.delivered_invariant {p : State → Prop} {f : MeasFields} {closing : Bool} {order : List Delivery}
    (keep : ∀ d ∈ order, ∀ u : State, p u → p (u.deliver f closing d)) {s : State} (h : p s) : p (s.delivered f closing order) := by
  induction order generalizing s with
  | nil => exact h
  | cons d rest ih =>
    exact ih (fun x hx => keep x (List.mem_cons_of_mem d hx)) (keep d List.mem_cons_self s h)

/-- Some deliveries beside the OCU's, with no record waiting. -/
theorem State.delivered_bypasses {s : State} (empty : s.chc.queue = []) (f : MeasFields) (closing : Bool) {order : List Delivery}
    (others : .ocu ∉ order) : s.Bypasses (s.delivered f closing order) ∧ (s.delivered f closing order).chc.queue = [] := by
  refine State.delivered_invariant (p := fun u => s.Bypasses u ∧ u.chc.queue = []) (fun d member u h => ?_) ⟨.refl s, empty⟩
  obtain ⟨passed, none⟩ := h
  exact ⟨passed.trans (.deliver none f closing fun e => others (e ▸ member)), State.deliver_empty none f closing d⟩

end Sys2Proof.Machine
end

section
/-! SUPPORT. One element through the frame step, row by row, and the inputs that the settings in force give it. -/

namespace Sys2Proof.Machine

/-! ### The rows of a step (R11, R15, R18) -/

section

variable (timed : Bool) (decay : Nat) (i : ElemInput) (e : Element)

/-- At or over pickup the element is PICKED and its accumulator rises. -/
theorem stepElement_over (over' : 256 ≤ (stepElement timed decay i e).m) :
    (stepElement timed decay i e).picked = true ∧
      (stepElement timed decay i e).acc =
        min 1048576 (e.acc + increment (curveRate i.curve (stepElement timed decay i e).m) i.dial) := by
  have level : Config.pickupLevel ≤ multiple i.current i.pickup := over'
  have drop : Config.dropoutLevel ≤ multiple i.current i.pickup := le_trans (by decide) level
  refine ⟨?_, ?_⟩
  · show pickedAfter e.picked _ = true
    unfold pickedAfter
    split <;> simpa
  · show accumulate timed decay i e.picked _ e.acc = _
    rw [accumulate, if_pos level]
    rfl

/-- In the hysteresis band a PICKED element holds. -/
theorem stepElement_band (low : 243 ≤ (stepElement timed decay i e).m) (high : (stepElement timed decay i e).m < 256)
    (was : e.picked = true) :
    (stepElement timed decay i e).picked = true ∧ (stepElement timed decay i e).acc = e.acc := by
  have under : ¬Config.pickupLevel ≤ multiple i.current i.pickup := high.not_ge
  have picked : pickedAfter e.picked (multiple i.current i.pickup) = true := by
    rw [pickedAfter, was, if_pos rfl, decide_eq_true_eq]
    exact low
  refine ⟨picked, ?_⟩
  show accumulate timed decay i e.picked _ e.acc = _
  rw [accumulate, if_neg under, if_pos picked]

/-- Under dropout, and in the band where it was not PICKED, an element resets. -/
theorem stepElement_under (under : (stepElement timed decay i e).m < 243 ∨
      ((stepElement timed decay i e).m < 256 ∧ e.picked = false)) :
    (stepElement timed decay i e).picked = false ∧
      (stepElement timed decay i e).acc = if timed = true then e.acc - decay else 0 := by
  have below : ¬Config.pickupLevel ≤ multiple i.current i.pickup := by
    rcases under with low | ⟨high, -⟩
    · exact (low.trans (by decide)).not_ge
    · exact high.not_ge
  have released : pickedAfter e.picked (multiple i.current i.pickup) = false := by
    unfold pickedAfter
    split
    · next was =>
      have low : (stepElement timed decay i e).m < 243 := by simpa [was] using under
      exact decide_eq_false low.not_ge
    · exact decide_eq_false below
  refine ⟨released, ?_⟩
  show accumulate timed decay i e.picked _ e.acc = _
  rw [accumulate, if_neg below, released, if_neg (by decide)]

theorem stepElement_run :
    (stepElement timed decay i e).run =
      if (stepElement timed decay i e).picked = true then min 65535 (e.run + 1) else 0 := rfl

theorem stepElement_peak :
    (stepElement timed decay i e).peak =
      if (stepElement timed decay i e).picked = true then (if e.picked = true then max e.peak i.current else i.current)
      else e.peak := rfl

/-- The instantaneous count, by a Q that is 0 where the test is off. -/
theorem stepElement_count {q : Nat} (inst : i.inst = if q = 0 then none else some q) :
    (stepElement timed decay i e).count =
      if q ≠ 0 ∧ q ≤ (stepElement timed decay i e).m then min 2 (e.count + 1) else 0 := by
  show countAfter i.inst _ e.count = _
  rw [inst]
  by_cases off : q = 0
  · simp [off, countAfter]
  · simp [off, countAfter]
    rfl

end

/-! ### The inputs of a step (R9) -/

/-- A test that is off, or whose Q is 0, is off. -/
theorem instOf_eq (on : Bool) (v : Nat) :
    instOf on v = if (if on = true then v else 0) = 0 then none else some (if on = true then v else 0) := by
  cases on with
  | false => rfl
  | true => by_cases off : v = 0 <;> simp [instOf, off]

/-- Q in force: the tag's, or the plan's where its entry has the test on. -/
theorem elemInst_eq (tag : Bool) (mode tagQ planQ : Nat) :
    (if tag then instOf true tagQ else instOf (mode == 1) planQ) =
      if (if tag = true then tagQ else if mode = 1 then planQ else 0) = 0 then none
      else some (if tag = true then tagQ else if mode = 1 then planQ else 0) := by
  cases tag <;> simp [instOf_eq]

/-- Q in force for a kind under a plan entry, 0 where the test is off (R9, R159). -/
def State.instInForce (s : State) (phase : Bool) (entry : PlanEntry) : Nat :=
  if s.tagInForce = true then s.cfg.tagInst
  else if entry.instantaneous = 1 then (if phase then s.cfg.instPh else s.cfg.instGd) else 0

/-- The settings that an element's step works with, in force for its kind. -/
structure State.InForce (s : State) (i : ElemInput) (current : Nat) (phase : Bool) (entry : PlanEntry) : Prop where
  current : i.current = current
  curve : i.curve = s.cfg.curve (if s.tagInForce = true then s.cfg.tagCurve else if phase then entry.phaseCurve else entry.groundCurve)
  dial : i.dial = if s.tagInForce = true then s.cfg.tagDial else if phase then entry.phaseDial else entry.groundDial
  inst : i.inst = if s.instInForce phase entry = 0 then none else some (s.instInForce phase entry)

theorem State.elemInputs_inForce (s : State) (f : MeasFields) {entry : PlanEntry}
    (planned : entry = s.cfg.planEntry (min (s.sqc.shots + 1) s.cfg.tripsToLockout)) :
    s.InForce (s.elemInputs f).a f.ia true entry ∧ s.InForce (s.elemInputs f).b f.ib true entry ∧
      s.InForce (s.elemInputs f).c f.ic true entry ∧ s.InForce (s.elemInputs f).g f.ig false entry := by
  subst planned
  exact ⟨⟨rfl, rfl, rfl, elemInst_eq _ _ _ _⟩, ⟨rfl, rfl, rfl, elemInst_eq _ _ _ _⟩, ⟨rfl, rfl, rfl, elemInst_eq _ _ _ _⟩,
    ⟨rfl, rfl, rfl, elemInst_eq _ _ _ _⟩⟩

/-- The settings in force are those of the configuration, the tags and s alone. -/
theorem State.InForce.of_eq {s u : State} {i : ElemInput} {current : Nat} {phase : Bool} {entry : PlanEntry}
    (h : u.InForce i current phase entry) (cfg : u.cfg = s.cfg) (tgu : u.tgu = s.tgu) : s.InForce i current phase entry := by
  have tag : u.tagInForce = s.tagInForce := by rw [State.tagInForce, State.tagInForce, tgu]
  have inst : u.instInForce phase entry = s.instInForce phase entry := by rw [State.instInForce, State.instInForce, cfg, tag]
  exact ⟨h.current, by rw [h.curve, cfg, tag], by rw [h.dial, cfg, tag], by rw [h.inst, inst]⟩

/-- An element before and after a step made with the settings in force, row by row (R9, R11, R15, R18). -/
theorem State.InForce.rows {s : State} {i : ElemInput} {current : Nat} {phase : Bool} {entry : PlanEntry}
    (h : s.InForce i current phase entry) {e e' : Element} (step : e' = stepElement s.cfg.timedReset s.cfg.decay i e)
    {table dial q : Nat}
    (hTable : table = if s.tagInForce = true then s.cfg.tagCurve else if phase then entry.phaseCurve else entry.groundCurve)
    (hDial : dial = if s.tagInForce = true then s.cfg.tagDial else if phase then entry.phaseDial else entry.groundDial)
    (hQ : q = s.instInForce phase entry) :
    (256 ≤ e'.m →
        e'.picked = true ∧ e'.acc = min 1048576 (e.acc + increment (curveRate (s.cfg.curve table) e'.m) dial)) ∧
      (243 ≤ e'.m → e'.m < 256 → e.picked = true → e'.picked = true ∧ e'.acc = e.acc) ∧
      ((e'.m < 243 ∨ (e'.m < 256 ∧ e.picked = false)) →
        e'.picked = false ∧ e'.acc = (if s.cfg.resetMode = 1 then e.acc - s.cfg.decay else 0)) ∧
      e'.run = (if e'.picked = true then min 65535 (e.run + 1) else 0) ∧
      e'.peak = (if e'.picked = true then (if e.picked = true then max e.peak current else current) else e.peak) ∧
      e'.count = (if q ≠ 0 ∧ q ≤ e'.m then min 2 (e.count + 1) else 0) := by
  have timed : (s.cfg.timedReset = true) = (s.cfg.resetMode = 1) := by rw [Settings.timedReset, beq_iff_eq]
  subst step
  rw [hTable, hDial, hQ, ← h.curve, ← h.dial, ← h.current]
  refine ⟨stepElement_over _ _ i e, stepElement_band _ _ i e, ?_, stepElement_run _ _ i e, stepElement_peak _ _ i e,
    stepElement_count _ _ i e h.inst⟩
  simpa only [timed] using stepElement_under s.cfg.timedReset s.cfg.decay i e

end Sys2Proof.Machine

/-! ### The statement -/

open Sys2Proof.Machine in
/-- Settles O19: the OCU's delivery finds the elements, s, the tags and the settings as they stood at the arrival. -/
theorem elementStep : Obligations.ElementStep := by
  intro s bits bytes order on brings good empty
  refine ⟨_, exec_goodFrame on brings good order, ?_⟩
  obtain ⟨first, -, -, before, same, elems⟩ := (s.arrival (measFields bytes)).delivered_elems (measFields bytes)
    (s.cdu.pulse == .close) (deliveryOrder_nodup order) (mem_deliveryOrder.mpr (.inr (by decide)))
  obtain ⟨passed, -⟩ := State.delivered_bypasses (s := s.arrival (measFields bytes)) empty (measFields bytes) (s.cdu.pulse == .close)
    before
  have cfg := (s.arrival (measFields bytes)).delivered_cfg (measFields bytes) (s.cdu.pulse == .close) first
  rw [elems]
  generalize (s.arrival (measFields bytes)).delivered (measFields bytes) (s.cdu.pulse == .close) first = u at same passed cfg
  have cfg : u.cfg = s.cfg := cfg
  have same : u.ocu.elems = s.ocu.elems := same
  have shots : u.sqc.shots = s.sqc.shots := passed.shots
  have tgu : u.tgu = s.tgu := passed.tgu
  intro row member e e' isE isE' current phase isCurrent isPhase entry isEntry table dial q isTable isDial isQ
  obtain ⟨a, b, c, g⟩ := u.elemInputs_inForce (measFields bytes) (entry := entry) (by rw [isEntry, cfg, shots])
  obtain ⟨i, inForce, step⟩ : ∃ i, s.InForce i current phase entry ∧ e' = stepElement s.cfg.timedReset s.cfg.decay i e := by
    rw [isCurrent, isPhase, isE', isE, ← cfg]
    rw [← same] at member
    simp only [List.mem_cons, List.not_mem_nil, or_false] at member
    rcases member with rfl | rfl | rfl | rfl
    · exact ⟨_, a.of_eq cfg tgu, rfl⟩
    · exact ⟨_, b.of_eq cfg tgu, rfl⟩
    · exact ⟨_, c.of_eq cfg tgu, rfl⟩
    · exact ⟨_, g.of_eq cfg tgu, rfl⟩
  exact inForce.rows step isTable isDial isQ

end

section
/-! SUPPORT. What a trip order comes to at the SQC, and the order that a frame step hands out. -/

namespace Sys2Proof.Machine

/-! ### A trip begun (R27, R28) -/

/-- The SQC after a trip has begun. -/
@[simp] theorem State.beginTrip_sqc (s : State) (trip : CurrentTrip) :
    (s.beginTrip trip).sqc = { s.sqc.moved .tripping none with trip := some trip, manualWindow := none } := by
  simp only [State.beginTrip, State.record_frame, State.buildTrip_frame, State.cduTripOrder_frame, State.withSqc_sqc,
    State.enterSeq_sqc]
  rfl

/-- A trip that begins leaves the OCU. -/
@[simp] theorem State.beginTrip_ocu (s : State) (trip : CurrentTrip) : (s.beginTrip trip).ocu = s.ocu := by
  simp [State.beginTrip, s.enterSeq_ocu (new := .tripping) rfl]

/-- Whether the SQC takes a trip order in its present state (R27). -/
def Sqc.takes (q : Sqc) : Bool := q.seq == .ready || q.seq == .resetTiming || (q.seq == .closing && q.closeBegun)

/-- Whether a trip order is a lockout trip in the present state (R28). -/
def State.takesLockout (s : State) : Bool := s.sqc.seq == .lockout && s.position == .closed

/-- s as a trip order taken leaves it (R27, R28). -/
def State.shotsTaken (s : State) : Nat := if s.sqc.takes then min s.cfg.tripsToLockout (s.sqc.shots + 1) else s.sqc.shots

/-- The current trip that a trip order taken makes (R26 to R28). -/
def State.tripOf (s : State) (o : TripOrder) : CurrentTrip where
  cause := o.cause
  elements := o.elements
  peak := o.peak
  number := s.shotsTaken
  finalReason := if s.sqc.takes then s.finality s.shotsTaken else s.sqc.reason

/-- The station with s raised by a trip order taken, just before its trip begins. -/
def State.raised (s : State) : State := s.withSqc fun q => { q with shots := s.shotsTaken }

theorem State.sqcTripOrder_taken {s : State} (takes : s.sqc.takes = true) (o : TripOrder) :
    s.sqcTripOrder o = s.raised.beginTrip (s.tripOf o) := by
  have taken : s.sqcTripOrder o = s.takeTrip o := by
    simp only [Sqc.takes, Bool.or_eq_true, Bool.and_eq_true, beq_iff_eq] at takes
    rcases takes with (seq | seq) | ⟨seq, begun⟩
    · rw [State.sqcTripOrder, seq]
    · rw [State.sqcTripOrder, seq]
    · rw [State.sqcTripOrder, seq]
      exact if_pos begun
  rw [taken, State.raised, State.tripOf, State.shotsTaken, takes]
  rfl

theorem State.sqcTripOrder_lockout {s : State} (takes : s.takesLockout = true) (o : TripOrder) :
    s.sqcTripOrder o = s.raised.beginTrip (s.tripOf o) := by
  simp only [State.takesLockout, Bool.and_eq_true, beq_iff_eq] at takes
  obtain ⟨seq, closed⟩ := takes
  have none : s.sqc.takes = false := by simp [Sqc.takes, seq]
  rw [State.sqcTripOrder, seq]
  simp only [closed, beq_self_eq_true, if_true]
  rw [State.raised, State.tripOf, State.shotsTaken, none]
  rfl

/-- Elsewhere a trip order is not taken. -/
theorem State.sqcTripOrder_refused {s : State} (takes : s.sqc.takes = false) (lockout : s.takesLockout = false) (o : TripOrder) :
    s.sqcTripOrder o = s := by
  unfold Sqc.takes at takes
  unfold State.takesLockout at lockout
  unfold State.sqcTripOrder
  cases seq : s.sqc.seq with
  | ready => simp [seq] at takes
  | resetTiming => simp [seq] at takes
  | closing =>
    have begun : s.sqc.closeBegun = false := by simpa [seq] using takes
    simp [begun]
  | lockout =>
    have open' : (s.position == .closed) = false := by simpa [seq] using lockout
    simp [open']
  | tripping => rfl
  | recloseWait => rfl
  | closeCharge => rfl
  | breakerFail => rfl

/-! ### An order raised (R20, R132) -/

/-- The OCU with an order's marks set. -/
def Ocu.marked (u : Ocu) (o : TripOrder) : Ocu :=
  { u with
    orderRaised := true
    phase := { u.phase with ownOrder := u.phase.ownOrder || o.elements.covers .phase }
    ground := { u.ground with ownOrder := u.ground.ownOrder || o.elements.covers .ground } }

theorem State.raiseOrder_eq (s : State) (o : TripOrder) : s.raiseOrder o = (s.withOcu fun u => u.marked o).sqcTripOrder o := rfl

/-- An order that is taken: its marks, s and its trip. -/
theorem State.raiseOrder_taken {s : State} (takes : s.sqc.takes = true ∨ s.takesLockout = true) (o : TripOrder) :
    s.raiseOrder o = ((s.withOcu fun u => u.marked o).raised).beginTrip (s.tripOf o) := by
  rw [State.raiseOrder_eq]
  rcases takes with taken | lockout
  · exact State.sqcTripOrder_taken (s := s.withOcu fun u => u.marked o) taken o
  · exact State.sqcTripOrder_lockout (s := s.withOcu fun u => u.marked o) lockout o

/-- What an order taken leaves of the SQC and of the OCU. -/
theorem State.raiseOrder_trips {s : State} (takes : s.sqc.takes = true ∨ s.takesLockout = true) (o : TripOrder) :
    (s.raiseOrder o).sqc =
        { s.sqc.moved .tripping none with shots := s.shotsTaken, trip := some (s.tripOf o), manualWindow := none } ∧
      (s.raiseOrder o).ocu = s.ocu.marked o := by
  rw [State.raiseOrder_taken takes]
  exact ⟨State.beginTrip_sqc _ _, State.beginTrip_ocu _ _⟩

theorem State.raiseOrder_refused {s : State} (takes : s.sqc.takes = false) (lockout : s.takesLockout = false) (o : TripOrder) :
    s.raiseOrder o = s.withOcu fun u => u.marked o := by
  rw [State.raiseOrder_eq]
  exact State.sqcTripOrder_refused (s := s.withOcu fun u => u.marked o) takes lockout o

/-! ### The order of a frame step (R16, R18, R19) -/

/-- The unheld elements at F after a frame step. -/
def State.stepFull (s : State) (f : MeasFields) : ElementSet :=
  ((s.computeStep f).elems.map fun e => e.acc == Config.fullScale).zip (· && ·)
    (spread (s.ocu.unheld .phase) (s.ocu.unheld .ground))

/-- The unheld elements that a frame step finds arriving at F, a release put off counted as an arrival (R16, R17). -/
def State.stepArrived (s : State) (f : MeasFields) : ElementSet :=
  (arrives s.ocu.elems (s.computeStep f).elems (spread s.ocu.phase.releaseDue s.ocu.ground.releaseDue)).zip (· && ·)
    (spread (s.ocu.unheld .phase) (s.ocu.unheld .ground))

/-- The elements whose instantaneous count a frame step takes from 1 to 2 (R18). -/
def State.stepInst (s : State) (f : MeasFields) : ElementSet := instFired s.ocu.elems (s.computeStep f).elems

/-- The elements that a frame step's order names (R19). -/
def State.stepNamed (s : State) (f : MeasFields) : ElementSet :=
  (if (s.stepArrived f).anySet then s.stepFull f else noElements).zip (· || ·) (s.stepInst f)

/-- The order of a frame step, where it names an element (R19). -/
def State.stepOrder (s : State) (f : MeasFields) : TripOrder where
  cause := if s.tagInForce then .tagProfile else if (s.stepInst f).anySet then .inst else .time
  elements := s.stepNamed f
  peak := ((s.computeStep f).elems.map (·.peak)).maxOver (s.stepNamed f)

theorem State.computeStep_order (s : State) (f : MeasFields) :
    (s.computeStep f).order = if (s.stepNamed f).anySet then some (s.stepOrder f) else none := by rfl

theorem State.ordered_named {s : State} {f : MeasFields} (named : (s.stepNamed f).anySet = true) :
    s.ordered f = (s.noticed f).raiseOrder (s.stepOrder f) := by
  rw [State.ordered, State.computeStep_order, if_pos named]

theorem State.ordered_unnamed {s : State} {f : MeasFields} (unnamed : (s.stepNamed f).anySet = false) :
    s.ordered f = s.noticed f := by
  rw [State.ordered, State.computeStep_order, unnamed, if_neg (by decide)]

/-- A first pickup moves the SQC's memory alone, and leaves the OCU, the CDU and the tags (R12, R47). -/
theorem State.noticed_keeps (s : State) (f : MeasFields) :
    (∃ memory, (s.noticed f).sqc = { s.sqc with memory := memory }) ∧ (s.noticed f).ocu = (s.stepped f).ocu ∧
      (s.noticed f).cdu = s.cdu ∧ (s.noticed f).tgu = s.tgu ∧ (s.noticed f).mfp = s.mfp ∧ (s.noticed f).now = s.now ∧
      (s.noticed f).cfg = s.cfg ∧ (s.noticed f).btu.reserve = s.btu.reserve := by
  have reserve := (s.stepped_reaches_noticed (d := false) f).reserve rfl
  refine ⟨?_, ?_, ?_, ?_, ?_, ?_, ?_, reserve⟩
  all_goals unfold State.noticed State.firstPickup; split
  · simp only [State.abandonTest_frame, State.sqcFirstPickup, State.withSqc_sqc, State.buildPickup_frame]
    exact ⟨_, rfl⟩
  · exact ⟨_, rfl⟩
  all_goals simp [State.stepped, State.cfg]

/-- The end of an episode that finds no memory steps no sequence (R48). -/
theorem State.sqcEpisodeEnd_forgotten {s : State} (memory : s.sqc.memory = none) (run : Nat) (raised : Bool) :
    s.sqcEpisodeEnd run raised = s := by
  rw [State.sqcEpisodeEnd, memory]
  ext1
  case sqc =>
    show { s.sqc with memory := none } = s.sqc
    rw [← memory]
  all_goals rfl

/-- A frame step whose order is taken ends with the trip begun. -/
theorem State.frameStep_taken {s : State} {f : MeasFields} (named : (s.stepNamed f).anySet = true)
    (takes : (s.noticed f).sqc.takes = true ∨ (s.noticed f).takesLockout = true) :
    s.frameStep f = (s.noticed f).raiseOrder (s.stepOrder f) := by
  obtain ⟨sqc, -⟩ := State.raiseOrder_trips takes (s.stepOrder f)
  rw [State.frameStep_eq, State.ordered_named named, State.sqcEpisodeEnd_forgotten (by rw [sqc]; rfl), ite_self]

/-- The end of an episode keeps the current trip and leads to no trip, and it raises s in the closed states alone (R48). -/
theorem State.sqcEpisodeEnd_keeps (s : State) (run : Nat) (raised : Bool) :
    (s.sqcEpisodeEnd run raised).sqc.trip = s.sqc.trip ∧
      (s.sqc.seq ≠ .tripping → (s.sqcEpisodeEnd run raised).sqc.seq ≠ .tripping) ∧
      (s.sqc.seq.isClosed = false → (s.sqcEpisodeEnd run raised).sqc.shots = s.sqc.shots) ∧
      (s.sqcEpisodeEnd run raised).ocu.phase.releaseDue = s.ocu.phase.releaseDue ∧
      (s.sqcEpisodeEnd run raised).ocu.ground.releaseDue = s.ocu.ground.releaseDue := by
  have entry (u : State) : (u.enterSeq .resetTiming).ocu.phase.releaseDue = u.ocu.phase.releaseDue ∧
      (u.enterSeq .resetTiming).ocu.ground.releaseDue = u.ocu.ground.releaseDue := by
    rw [State.enterSeq_eq]
    simp [State.entering, SeqState.isClosed]
  have stepped (elements : ElementSet) : (s.stepSequence elements).sqc.trip = s.sqc.trip ∧
      (s.sqc.seq ≠ .tripping → (s.stepSequence elements).sqc.seq ≠ .tripping) ∧
      (s.stepSequence elements).ocu.phase.releaseDue = s.ocu.phase.releaseDue ∧
      (s.stepSequence elements).ocu.ground.releaseDue = s.ocu.ground.releaseDue := by
    unfold State.stepSequence State.onlyIf
    dsimp only
    split
    · simp [Sqc.enter, entry]
    · simp
  unfold State.sqcEpisodeEnd
  cases s.sqc.memory with
  | none => exact ⟨rfl, id, fun _ => rfl, rfl, rfl⟩
  | some elements =>
    obtain ⟨trip, seq, phase, ground⟩ := stepped elements
    dsimp only
    unfold State.onlyIf
    split
    · next steps =>
      refine ⟨trip, seq, fun closed => ?_, phase, ground⟩
      simp [closed] at steps
    · exact ⟨rfl, id, fun _ => rfl, rfl, rfl⟩

end Sys2Proof.Machine
end

section
/-! SUPPORT. A frame whose OCU is stepped before the other blocks take their fields: its elements, its order, and what the later deliveries
leave of both. -/

namespace Sys2Proof.Machine

/-- Bits that bring a good frame, the OCU first: its frame step and then the other deliveries. -/
theorem exec_ocuFirst {s : State} {bits : List LinkBit} {bytes : List Byte} (on : s.started = true)
    (brings : Brings s.mfp.frame bits bytes) (good : FrameIsGood bytes) (order : List Delivery) :
    ∃ later, exec (.measurementFrame bits (.ocu :: order)) s =
        .next (((s.arrival (measFields bytes)).frameStep (measFields bytes)).delivered (measFields bytes)
          (s.cdu.pulse == .close) later) ∧
      Delivery.ocu ∉ later ∧ later.Nodup ∧ (∀ d, d ≠ .ocu → d ≠ .test → d ∈ later) ∧ (.test ∈ later ↔ .test ∈ order) := by
  obtain ⟨later, first⟩ := deliveryOrder_cons .ocu order
  have nodup := deliveryOrder_nodup (.ocu :: order)
  have mem (d : Delivery) : d ∈ Delivery.ocu :: later ↔ d ∈ Delivery.ocu :: order ∨ d ≠ .test := first ▸ mem_deliveryOrder
  rw [first, List.nodup_cons] at nodup
  refine ⟨later, ?_, nodup.1, nodup.2, fun d other real => ?_, ?_⟩
  · rw [exec_goodFrame on brings good, first]
    rfl
  · simpa [other] using (mem d).mpr (.inr real)
  · simpa using mem .test

theorem State.frameStep_queue (s : State) (f : MeasFields) : (s.frameStep f).chc.queue = s.chc.queue :=
  (s.stepped_reaches_frameStep (d := false) f).queue

/-- An order's marks, whether it is taken or not. -/
theorem State.raiseOrder_ocu (s : State) (o : TripOrder) : (s.raiseOrder o).ocu = s.ocu.marked o := by
  by_cases takes : s.sqc.takes = true ∨ s.takesLockout = true
  · exact (State.raiseOrder_trips takes o).2
  · simp only [not_or, Bool.not_eq_true] at takes
    rw [State.raiseOrder_refused takes.1 takes.2]
    rfl

/-- A release test put off is used up at the frame step, whatever it raises (R17). -/
theorem State.frameStep_releaseDue (s : State) (f : MeasFields) :
    (s.frameStep f).ocu.phase.releaseDue = false ∧ (s.frameStep f).ocu.ground.releaseDue = false := by
  obtain ⟨-, ocu, -⟩ := s.noticed_keeps f
  have ordered : (s.ordered f).ocu.phase.releaseDue = false ∧ (s.ordered f).ocu.ground.releaseDue = false := by
    unfold State.ordered
    split
    · rw [State.raiseOrder_ocu, ocu]
      exact ⟨rfl, rfl⟩
    · rw [ocu]
      exact ⟨rfl, rfl⟩
  rw [State.frameStep_eq]
  split
  · obtain ⟨-, -, -, phase, ground⟩ := (s.ordered f).sqcEpisodeEnd_keeps (s.ordered f).ocu.longestRun (s.ordered f).ocu.orderRaised
    rwa [phase, ground]
  · exact ordered

/-- A frame step that names no element keeps the current trip and leads to none, and it raises s in the closed states alone. -/
theorem State.frameStep_unnamed {s : State} {f : MeasFields} (unnamed : (s.stepNamed f).anySet = false) :
    (s.frameStep f).sqc.trip = s.sqc.trip ∧ (s.sqc.seq ≠ .tripping → (s.frameStep f).sqc.seq ≠ .tripping) ∧
      (s.sqc.seq.isClosed = false → (s.frameStep f).sqc.shots = s.sqc.shots) := by
  obtain ⟨⟨memory, sqc⟩, -⟩ := s.noticed_keeps f
  rw [State.frameStep_eq, State.ordered_unnamed unnamed]
  split
  · obtain ⟨trip, seq, shots, -⟩ := (s.noticed f).sqcEpisodeEnd_keeps (s.noticed f).ocu.longestRun (s.noticed f).ocu.orderRaised
    rw [sqc] at trip seq shots
    exact ⟨trip, seq, shots⟩
  · rw [sqc]
    exact ⟨rfl, id, fun _ => rfl⟩

/-- An order that is not taken leaves the SQC as a step without an order does. -/
theorem State.frameStep_refused {s : State} {f : MeasFields} (takes : s.sqc.takes = false) (lockout : s.takesLockout = false) :
    (s.frameStep f).sqc.trip = s.sqc.trip ∧ (s.sqc.seq.isClosed = false → (s.frameStep f).sqc.shots = s.sqc.shots) := by
  obtain ⟨⟨memory, sqc⟩, -, cdu, -⟩ := s.noticed_keeps f
  have ordered : (s.ordered f).sqc = { s.sqc with memory := memory } := by
    unfold State.ordered
    split
    · rw [State.raiseOrder_refused (by rw [sqc]; exact takes)
        (by rw [State.takesLockout, State.position, sqc, cdu]; exact lockout)]
      exact sqc
    · exact sqc
  rw [State.frameStep_eq]
  split
  · obtain ⟨trip, -, shots, -⟩ := (s.ordered f).sqcEpisodeEnd_keeps (s.ordered f).ocu.longestRun (s.ordered f).ocu.orderRaised
    rw [ordered] at trip shots
    exact ⟨trip, shots⟩
  · rw [ordered]
    exact ⟨rfl, fun _ => rfl⟩

/-! ### The element sets of a step, element by element (R16, R18) -/

theorem beq_and_isNone (acc limit : Nat) (hold : Option Hold) :
    (acc == limit && hold.isNone) = decide (acc = limit ∧ hold = none) := by
  rw [Bool.eq_iff_iff]
  simp

theorem State.stepFull_eq (s : State) (f : MeasFields) :
    s.stepFull f =
      { a := decide ((s.computeStep f).elems.a.acc = 1048576 ∧ s.ocu.phase.hold = none)
        b := decide ((s.computeStep f).elems.b.acc = 1048576 ∧ s.ocu.phase.hold = none)
        c := decide ((s.computeStep f).elems.c.acc = 1048576 ∧ s.ocu.phase.hold = none)
        g := decide ((s.computeStep f).elems.g.acc = 1048576 ∧ s.ocu.ground.hold = none) } := by
  rw [← beq_and_isNone, ← beq_and_isNone, ← beq_and_isNone, ← beq_and_isNone]
  rfl

theorem State.stepInst_eq (s : State) (f : MeasFields) :
    s.stepInst f =
      { a := decide (s.ocu.elems.a.count = 1 ∧ (s.computeStep f).elems.a.count = 2)
        b := decide (s.ocu.elems.b.count = 1 ∧ (s.computeStep f).elems.b.count = 2)
        c := decide (s.ocu.elems.c.count = 1 ∧ (s.computeStep f).elems.c.count = 2)
        g := decide (s.ocu.elems.g.count = 1 ∧ (s.computeStep f).elems.g.count = 2) } := by
  simp only [Bool.decide_and]
  rfl

/-- The arrivals of a step: unheld at F, and below F before or released by a test put off. -/
theorem State.stepArrived_eq (s : State) (f : MeasFields) :
    s.stepArrived f =
      { a := (decide (s.ocu.elems.a.acc < 1048576) || s.ocu.phase.releaseDue) && (s.stepFull f).a
        b := (decide (s.ocu.elems.b.acc < 1048576) || s.ocu.phase.releaseDue) && (s.stepFull f).b
        c := (decide (s.ocu.elems.c.acc < 1048576) || s.ocu.phase.releaseDue) && (s.stepFull f).c
        g := (decide (s.ocu.elems.g.acc < 1048576) || s.ocu.ground.releaseDue) && (s.stepFull f).g } := by
  simp only [State.stepFull, PerElem.zip, PerElem.map, ← Bool.and_assoc]
  rfl

theorem PerElem.or_noElements (e : ElementSet) : e.zip (· || ·) noElements = e := by
  simp [PerElem.zip, noElements]

theorem PerElem.anySet_noElements : noElements.anySet = false := rfl

end Sys2Proof.Machine
end

section
/-! SUPPORT. The expiry of a hold and the order that it releases, at once or at the first frame step after a freeze. -/

namespace Sys2Proof.Machine

/-- A hold whose ends-at time is now has come to it (R137). -/
theorem exec_holdExpiry {s : State} {k : Kind} {h : Hold} (on : s.started = true) (held : (s.ocu.kind k).hold = some h)
    (ends : h.endsAt = s.now) : exec (.holdExpiry k) s = .next ((s.unhold k .expiry).releaseTest k) := by
  have due : s.holdDue k = true := by
    simp [State.holdDue, held, ends, laterThan, elapsed]
  have ended := State.whenStarted_onlyIf (c := fun u => u.holdDue k) (f := fun u => u.endHold k .expiry) on due
  rw [← State.endHold_held held]
  exact congrArg Host.Outcome.next ended

theorem State.unhold_eq {s : State} {k : Kind} {h : Hold} (held : (s.ocu.kind k).hold = some h) (cause : Reason) :
    s.unhold k cause =
      { s with
        ocu := s.ocu.withKind k fun x => { x with hold := none }
        rcs := s.withRecords [holdRecord k cause h] } := by
  rw [State.unhold, held]
  rfl

/-- The order that a hold's end releases (R17). -/
def State.releaseOrder (s : State) : TripOrder where
  cause := if s.tagInForce then .tagProfile else .time
  elements := s.ocu.freeAtFull
  peak := (s.ocu.elems.map (·.peak)).maxOver s.ocu.freeAtFull

/-- A release test that finds an element of the kind at F raises the order. -/
theorem State.releaseTest_raises {s : State} {k : Kind} (live : s.mfp.stalled = false) (back : (s.ocu.heldBack k).anySet = true) :
    s.releaseTest k = s.raiseOrder s.releaseOrder := by
  rw [State.releaseTest, live, if_neg (by decide), back, State.onlyIf_true]
  rfl

theorem heldBack_of_full {e : Element} (full : e.acc = 1048576) (level : 243 ≤ e.m) :
    (e.acc == Config.fullScale && decide (Config.dropoutLevel ≤ e.m)) = true := by
  rw [full, decide_eq_true (show Config.dropoutLevel ≤ e.m from level)]
  rfl

/-- An element of the phase kind at F over dropout. -/
theorem heldBack_phase_eq_true {o : Ocu} (full : ∃ e ∈ [o.elems.a, o.elems.b, o.elems.c], e.acc = 1048576 ∧ 243 ≤ e.m) :
    (o.heldBack .phase).anySet = true := by
  obtain ⟨e, member, acc, m⟩ := full
  have back := heldBack_of_full acc m
  simp only [List.mem_cons, List.not_mem_nil, or_false] at member
  simp only [Ocu.heldBack, PerElem.map, PerElem.zip, PerElem.anySet, kindElements, Bool.and_true, Bool.or_eq_true]
  rcases member with rfl | rfl | rfl
  · exact .inl (.inl (.inl back))
  · exact .inl (.inl (.inr back))
  · exact .inl (.inr back)

theorem heldBack_ground_eq_true {o : Ocu} (full : o.elems.g.acc = 1048576) (level : 243 ≤ o.elems.g.m) :
    (o.heldBack .ground).anySet = true := by
  simp [Ocu.heldBack, PerElem.map, PerElem.zip, PerElem.anySet, kindElements, heldBack_of_full full level]

/-- The unheld elements at F. -/
theorem Ocu.freeAtFull_eq (o : Ocu) :
    o.freeAtFull =
      { a := decide (o.elems.a.acc = 1048576 ∧ o.phase.hold = none)
        b := decide (o.elems.b.acc = 1048576 ∧ o.phase.hold = none)
        c := decide (o.elems.c.acc = 1048576 ∧ o.phase.hold = none)
        g := decide (o.elems.g.acc = 1048576 ∧ o.ground.hold = none) } := by
  rw [← beq_and_isNone, ← beq_and_isNone, ← beq_and_isNone, ← beq_and_isNone]
  rfl

theorem decide_full_of_unheld (acc : Nat) : decide (acc = 1048576) = decide (acc = 1048576 ∧ (none : Option Hold) = none) := by
  rw [Bool.eq_iff_iff]
  simp

/-- The unheld elements at F once the phase hold has ended. -/
theorem State.unhold_free_phase (s : State) (cause : Reason) :
    (s.unhold .phase cause).ocu.freeAtFull =
      { a := decide (s.ocu.elems.a.acc = 1048576)
        b := decide (s.ocu.elems.b.acc = 1048576)
        c := decide (s.ocu.elems.c.acc = 1048576)
        g := decide (s.ocu.elems.g.acc = 1048576 ∧ s.ocu.ground.hold = none) } := by
  rw [Ocu.freeAtFull_eq, decide_full_of_unheld s.ocu.elems.a.acc, decide_full_of_unheld s.ocu.elems.b.acc,
    decide_full_of_unheld s.ocu.elems.c.acc]
  rfl

/-- The unheld elements at F once the ground hold has ended. -/
theorem State.unhold_free_ground (s : State) (cause : Reason) :
    (s.unhold .ground cause).ocu.freeAtFull =
      { a := decide (s.ocu.elems.a.acc = 1048576 ∧ s.ocu.phase.hold = none)
        b := decide (s.ocu.elems.b.acc = 1048576 ∧ s.ocu.phase.hold = none)
        c := decide (s.ocu.elems.c.acc = 1048576 ∧ s.ocu.phase.hold = none)
        g := decide (s.ocu.elems.g.acc = 1048576) } := by
  rw [Ocu.freeAtFull_eq, decide_full_of_unheld s.ocu.elems.g.acc]
  rfl

theorem Sqc.takes_of_closed {q : Sqc} (closed : q.seq = .ready ∨ q.seq = .resetTiming) : q.takes = true := by
  rcases closed with seq | seq <;> simp [Sqc.takes, seq]

/-- An order raised in a closed state with s below N: its trip and its marks. -/
theorem State.raiseOrder_closed {s : State} (closed : s.sqc.seq = .ready ∨ s.sqc.seq = .resetTiming)
    (below : s.sqc.shots < s.cfg.tripsToLockout) (o : TripOrder) :
    (s.raiseOrder o).sqc.seq = .tripping ∧ (s.raiseOrder o).sqc.shots = s.sqc.shots + 1 ∧
      (∃ trip, (s.raiseOrder o).sqc.trip = some trip ∧ trip.number = s.sqc.shots + 1 ∧ trip.cause = o.cause ∧
        trip.elements = o.elements) ∧
      (s.raiseOrder o).ocu = s.ocu.marked o := by
  have takes := Sqc.takes_of_closed closed
  have shots : s.shotsTaken = s.sqc.shots + 1 := by
    rw [State.shotsTaken, takes, if_pos rfl]
    exact Nat.min_eq_right below
  obtain ⟨sqc, ocu⟩ := State.raiseOrder_trips (.inl takes) o
  rw [sqc]
  exact ⟨rfl, shots, ⟨_, rfl, shots, rfl, rfl⟩, ocu⟩

/-! ### A release test put off to a frame step (R17, R21) -/

variable {s : State} {f : MeasFields}

/-- With the counts at 0 a frame step names the elements that have arrived alone. -/
theorem State.stepNamed_uncounted (counts : ∀ e ∈ s.ocu.elems.toList, e.count = 0) :
    s.stepInst f = noElements ∧ s.stepNamed f = if (s.stepArrived f).anySet then s.stepFull f else noElements := by
  have inst : s.stepInst f = noElements := by
    have a := counts s.ocu.elems.a (by simp [PerElem.toList])
    have b := counts s.ocu.elems.b (by simp [PerElem.toList])
    have c := counts s.ocu.elems.c (by simp [PerElem.toList])
    have g := counts s.ocu.elems.g (by simp [PerElem.toList])
    rw [State.stepInst_eq, a, b, c, g]
    rfl
  exact ⟨inst, by rw [State.stepNamed, inst, PerElem.or_noElements]⟩

/-- A kind's release put off meets an unheld element of the kind at F after the step. -/
def State.releases (s : State) (full : ElementSet) : Prop :=
  (s.ocu.phase.releaseDue = true ∧ (full.a = true ∨ full.b = true ∨ full.c = true)) ∨
    (s.ocu.ground.releaseDue = true ∧ full.g = true)

/-- A release test put off counts as an arrival. -/
theorem State.stepArrived_released (released : s.releases (s.stepFull f)) :
    (s.stepArrived f).anySet = true ∧ (s.stepFull f).anySet = true := by
  rw [State.stepArrived_eq]
  rcases released with ⟨due, a | b | c⟩ | ⟨due, g⟩
  · simp [PerElem.anySet, due, a]
  · simp [PerElem.anySet, due, b]
  · simp [PerElem.anySet, due, c]
  · simp [PerElem.anySet, due, g]

/-- A frame step that names an element in a closed state with s below N: its trip, its marks, and no memory. -/
theorem State.frameStep_closed (named : (s.stepNamed f).anySet = true) (closed : s.sqc.seq = .ready ∨ s.sqc.seq = .resetTiming)
    (below : s.sqc.shots < s.cfg.tripsToLockout) :
    (s.frameStep f).sqc.memory = none ∧ (s.frameStep f).sqc.seq = .tripping ∧ (s.frameStep f).sqc.shots = s.sqc.shots + 1 ∧
      (∃ trip, (s.frameStep f).sqc.trip = some trip ∧ trip.number = s.sqc.shots + 1 ∧ trip.cause = (s.stepOrder f).cause ∧
        trip.elements = s.stepNamed f) ∧
      (s.frameStep f).ocu = ((s.stepped f).ocu).marked (s.stepOrder f) := by
  obtain ⟨⟨memory, sqc⟩, ocu, -, -, -, -, cfg, -⟩ := s.noticed_keeps f
  have closed' : (s.noticed f).sqc.seq = .ready ∨ (s.noticed f).sqc.seq = .resetTiming := by rw [sqc]; exact closed
  have taken := State.raiseOrder_closed closed' (by rw [sqc, cfg]; exact below) (s.stepOrder f)
  have forgets := (State.raiseOrder_trips (.inl (Sqc.takes_of_closed closed')) (s.stepOrder f)).1
  rw [State.frameStep_taken named (.inl (Sqc.takes_of_closed closed'))]
  rw [ocu, sqc] at taken
  exact ⟨by rw [forgets]; rfl, taken⟩

end Sys2Proof.Machine

/-! ### The statement -/

open Sys2Proof.Machine in
/-- Settles O35: the expiry by what the release test finds, and the test put off by what its frame step arrives at. -/
theorem holdsEnd : Obligations.HoldsEnd := by
  refine ⟨fun s h on ends => ⟨fun held ended isEnded => ?_, fun held ended isEnded => ?_⟩,
    fun s h on held ends live full closed below => ?_, fun s h on held ends live full level closed below => ?_,
    fun s bits bytes order on brings good empty counts closed below => ?_⟩
  · subst isEnded
    have unheld := State.unhold_eq (k := .phase) held .expiry
    refine ⟨fun stalled => ?_, fun live under => ?_⟩
    · rw [exec_holdExpiry (k := .phase) on held ends, State.releaseTest_stalled (s := s.unhold .phase .expiry) stalled, unheld]
      rfl
    · rw [exec_holdExpiry (k := .phase) on held ends, State.releaseTest_idle (s := s.unhold .phase .expiry) live
        (by rw [State.unhold_heldBack]; exact heldBack_phase_eq_false under), unheld]
      rfl
  · subst isEnded
    have unheld := State.unhold_eq (k := .ground) held .expiry
    refine ⟨fun stalled => ?_, fun live under => ?_⟩
    · rw [exec_holdExpiry (k := .ground) on held ends, State.releaseTest_stalled (s := s.unhold .ground .expiry) stalled, unheld]
      rfl
    · rw [exec_holdExpiry (k := .ground) on held ends, State.releaseTest_idle (s := s.unhold .ground .expiry) live
        (by rw [State.unhold_heldBack]; exact heldBack_ground_eq_false under), unheld]
      rfl
  · refine ⟨_, exec_holdExpiry (k := .phase) on held ends, ?_⟩
    rw [State.releaseTest_raises (s := s.unhold .phase .expiry) live
      (by rw [State.unhold_heldBack]; exact heldBack_phase_eq_true full)]
    obtain ⟨seq, shots, ⟨trip, current, number, cause, elements⟩, ocu⟩ := State.raiseOrder_closed
      (s := s.unhold .phase .expiry) closed below (s.unhold .phase .expiry).releaseOrder
    have free := s.unhold_free_phase .expiry
    have named : ((s.unhold .phase .expiry).ocu.freeAtFull).covers .phase = true := by
      obtain ⟨e, member, acc, -⟩ := full
      simp only [List.mem_cons, List.not_mem_nil, or_false] at member
      rw [free]
      rcases member with rfl | rfl | rfl <;> simp [PerElem.covers, acc]
    rw [ocu]
    refine ⟨rfl, rfl, rfl, rfl, ?_, seq, shots, trip, current, number, cause, elements.trans free⟩
    show (_ || _) = true
    rw [show (s.unhold .phase .expiry).releaseOrder.elements.covers .phase = true from named, Bool.or_true]
  · refine ⟨_, exec_holdExpiry (k := .ground) on held ends, ?_⟩
    rw [State.releaseTest_raises (s := s.unhold .ground .expiry) live
      (by rw [State.unhold_heldBack]; exact heldBack_ground_eq_true full level)]
    obtain ⟨seq, shots, ⟨trip, current, number, cause, elements⟩, ocu⟩ := State.raiseOrder_closed
      (s := s.unhold .ground .expiry) closed below (s.unhold .ground .expiry).releaseOrder
    have free := s.unhold_free_ground .expiry
    have named : ((s.unhold .ground .expiry).ocu.freeAtFull).covers .ground = true := by
      rw [free]
      simp [PerElem.covers, full]
    rw [ocu]
    refine ⟨rfl, rfl, rfl, rfl, ?_, seq, shots, trip, current, number, cause, elements.trans (free.trans (by rw [full]; rfl))⟩
    show (_ || _) = true
    rw [show (s.unhold .ground .expiry).releaseOrder.elements.covers .ground = true from named, Bool.or_true]
  · obtain ⟨later, run, others, -⟩ := exec_ocuFirst on brings good order
    refine ⟨_, run, ?_⟩
    generalize measFields bytes = f
    obtain ⟨passed, -⟩ := State.delivered_bypasses (s := (s.arrival f).frameStep f) (by rw [State.frameStep_queue]; exact empty) f
      (s.cdu.pulse == .close) others
    obtain ⟨phaseDue, groundDue⟩ := (s.arrival f).frameStep_releaseDue f
    rw [passed.ocu, State.frameStep_elems]
    refine ⟨phaseDue, groundDue, fun full isFull => ?_⟩
    obtain rfl : full = (s.arrival f).stepFull f := isFull.trans ((s.arrival f).stepFull_eq f).symm
    obtain ⟨uncounted, named⟩ := State.stepNamed_uncounted (s := s.arrival f) (f := f) counts
    refine ⟨fun released => ?_, fun nothing => ?_⟩
    · obtain ⟨arrived, some'⟩ := State.stepArrived_released (s := s.arrival f) released
      rw [arrived, if_pos rfl] at named
      obtain ⟨memory, seq, shots, ⟨trip, current, number, cause, elements⟩, ocu⟩ := State.frameStep_closed (s := s.arrival f) (f := f)
        (by rw [named]; exact some') closed below
      rw [passed.within seq memory, ocu]
      refine ⟨seq, shots, rfl, trip, current, elements.trans named, number, cause.trans ?_⟩
      rw [State.stepOrder, uncounted]
      rfl
    · have unnamed : ((s.arrival f).stepNamed f).anySet = false := by
        rw [named, nothing, show ({ a := false, b := false, c := false, g := false } : ElementSet) = noElements from rfl, ite_self]
        rfl
      exact passed.trip.trans (State.frameStep_unnamed unnamed).1

end

section
/-! SUPPORT. A running battery test abandoned by the first effect of an event, and left as it is by all the later ones. -/

namespace Sys2Proof.Machine

/-! ### A test that rests (R82) -/

/-- Effects after which the test, the AC and the time are as before them, with some new records. -/
structure State.Rests (s t : State) : Prop where
  now : t.now = s.now
  acPresent : t.btu.acPresent = s.btu.acPresent
  part : t.btu.testPart = s.btu.testPart
  records : ∃ after, t.rcs = s.withRecords after

namespace State.Rests

variable {r s t : State}

@[refl] theorem refl (s : State) : s.Rests s := ⟨rfl, rfl, rfl, [], rfl⟩

theorem trans (h : r.Rests s) (k : s.Rests t) : r.Rests t where
  now := k.now.trans h.now
  acPresent := k.acPresent.trans h.acPresent
  part := k.part.trans h.part
  records := by
    obtain ⟨first, hf⟩ := h.records
    obtain ⟨later, hl⟩ := k.records
    exact ⟨first ++ later, hl.trans (State.withRecords_append r s h.now first later hf)⟩

/-- Effects on other blocks alone, with no record. -/
theorem of_eq (now : t.now = s.now) (btu : t.btu = s.btu) (rcs : t.rcs = s.rcs) : s.Rests t :=
  ⟨now, congrArg Btu.acPresent btu, congrArg Btu.testPart btu, [], rcs⟩

/-- Hand-offs let a test rest that does not run. -/
theorem of_reaches {d : Bool} (quiet : s.quietTest) (h : s.Reaches d t) : s.Rests t :=
  ⟨h.now, h.acPresent, h.quiet quiet, h.records⟩

theorem quietTest (h : s.Rests t) (quiet : s.quietTest) : t.quietTest := quiet.of_eq h.part

end State.Rests

/-- A delivery that is not the test of the start conditions lets a test rest that does not run. -/
theorem State.deliver_rests {s : State} (quiet : s.quietTest) (f : MeasFields) (closing : Bool) {d : Delivery} (other : d ≠ .test) :
    s.Rests (s.deliver f closing d) := by
  have handOff {d : Bool} {u t : State} (h : u.Reaches d t) (first : s.Rests u) : s.Rests t :=
    first.trans (.of_reaches (first.quietTest quiet) h)
  cases d with
  | ocu => exact handOff (s.stepped_reaches_frameStep (d := false) f) (.of_eq rfl rfl rfl)
  | cdu =>
    unfold State.deliver State.deliverVoltages
    exact handOff ((State.Reaches.refl (d := false) _).refreshCharge.handReports) (.of_eq rfl rfl rfl)
  | btu =>
    unfold State.deliver State.deliverBattery
    exact handOff ((State.Reaches.refl (d := true) _).sendSetpoint.judgeBattery.watchLowVoltage.watchTaper) ⟨rfl, rfl, rfl, [], rfl⟩
  | sqc => exact .of_eq rfl rfl rfl
  | lfsr => exact handOff (State.Reaches.refl (d := true) s).advanceLfsr (.refl s)
  | take => exact handOff (s.takeHead_reached (d := false)) (.of_eq rfl rfl rfl)
  | test => exact absurd rfl other

theorem State.delivered_rests {s : State} (quiet : s.quietTest) (f : MeasFields) (closing : Bool) {order : List Delivery}
    (others : Delivery.test ∉ order) : s.Rests (s.delivered f closing order) := by
  induction order generalizing s with
  | nil => exact .refl s
  | cons d rest ih =>
    rw [List.mem_cons, not_or] at others
    have first := State.deliver_rests quiet f closing (d := d) (Ne.symm others.1)
    exact first.trans (ih (first.quietTest quiet) others.2)

/-! ### A test abandoned first of all (R82, R83) -/

/-- A running test without V1 and I1 is abandoned for a cause, its record before every other (R82, R83; log 6). -/
structure State.Abandons (s : State) (cause : Reason) (t : State) : Prop where
  test : t.btu.test = .pending
  sources : t.btu.sources = s.btu.sources
  settle : t.btu.settle = none
  load : t.btu.load = none
  lastResult : t.btu.lastResult = some .abandoned
  lastResistance : t.btu.lastResistance = none
  failed : t.btu.failed = s.btu.failed
  schedule : t.btu.schedule = if s.cfg.schedule = 0 then none else some (s.cfg.schedule * 86400000)
  charger : t.btu.charger =
    if t.btu.acPresent = true then (if s.btu.resumeBoost = true then Charger.boost else Charger.float)
    else if s.btu.acPresent = true then Charger.off else s.btu.charger
  now : t.now = s.now
  records : ∃ after : List RecordBody, t.rcs =
    s.withRecords
      ({ kind := .batteryTest
         outcome := some { result := .abandoned, sources := s.btu.sources }
         reason := some cause
         v0 := s.btu.v0 } :: after)

/-- What an event's effects before the abandoned test leave for it: the test, its values and the records; the charger as it was, or
off with AC gone. -/
structure State.LeadsTo (s u : State) : Prop where
  now : u.now = s.now
  cfg : u.cfg = s.cfg
  rcs : u.rcs = s.rcs
  part : u.btu.testPart = { s.btu.testPart with charger := u.btu.charger }
  values : (u.btu.v0, u.btu.v1, u.btu.i1) = (s.btu.v0, s.btu.v1, s.btu.i1)
  charger : (u.btu.acPresent = s.btu.acPresent ∧ u.btu.charger = s.btu.charger) ∨
    (u.btu.acPresent = false ∧ s.btu.acPresent = true ∧ u.btu.charger = .off)

theorem State.LeadsTo.of_btu {s u : State} (now : u.now = s.now) (cfg : u.cfg = s.cfg) (rcs : u.rcs = s.rcs) (btu : u.btu = s.btu) :
    s.LeadsTo u :=
  ⟨now, cfg, rcs, by rw [btu]; rfl, by rw [btu], .inl (by rw [btu]; exact ⟨rfl, rfl⟩)⟩

section

variable {s : State} (running : s.btu.test = .settle ∨ s.btu.test = .loaded) (v1 : s.btu.v1 = none) (i1 : s.btu.i1 = none)

include running v1 i1

/-- The test abandoned, after effects that leave it and before effects that let it rest. -/
theorem State.LeadsTo.abandons {u t : State} (leads : s.LeadsTo u) (cause : AbandonCause) (rests : (u.abandonTest cause).Rests t) :
    s.Abandons cause.reason t := by
  obtain ⟨now, cfg, rcs, part, values, charger⟩ := leads
  simp only [Btu.testPart, TestPart.mk.injEq] at part
  obtain ⟨test, sources, -, -, -, -, failed, -, -, resume⟩ := part
  simp only [Prod.mk.injEq] at values
  obtain ⟨v0, v1', i1'⟩ := values
  rw [State.abandonTest_of_running (by rwa [test])] at rests
  obtain ⟨abandoned, record, readings, -⟩ := u.handleResult_abandoned cause
  have part := rests.part.trans abandoned
  have ac : t.btu.acPresent = u.btu.acPresent := rests.acPresent.trans (congrArg Readings.acPresent readings)
  have now' := congrArg Readings.now readings
  obtain ⟨after, later⟩ := rests.records
  simp only [Btu.testPart, State.abandonedPart, TestPart.mk.injEq] at part
  obtain ⟨test, sources', settle, load, lastResult, lastResistance, failed', schedule, mode, -⟩ := part
  refine ⟨test, sources'.trans sources, settle, load, lastResult, lastResistance, failed'.trans failed, ?_, ?_,
    rests.now.trans (now'.trans now), after, ?_⟩
  · rw [schedule, cfg]
    rfl
  · rw [mode, ac, resume]
    rcases charger with ⟨same, mode⟩ | ⟨gone, was, mode⟩
    · rw [same, mode]
      split <;> simp_all
    · simp [gone, was, mode]
  · rw [later, State.withRecords_append u _ now' [u.abandonedRecord cause] after record, State.abandonedRecord, sources, v0, v1', i1',
      v1, i1, State.withRecords, rcs, now]
    rfl

/-- READY left for another state (R82): the entry abandons the test. -/
theorem State.enterSeq_abandons {u t : State} (leads : s.LeadsTo u) (seq : u.sqc.seq = .ready) {new : SeqState} (leaves : new ≠ .ready)
    (rests : (u.enterSeq new).quietTest → (u.enterSeq new).Rests t) : s.Abandons .sequence t := by
  obtain ⟨-, readings, btu, -, -, rcs, svp⟩ := u.entering_keeps new
  obtain ⟨now, cfg, rcs', part, values, charger⟩ := leads
  have leads' : s.LeadsTo (u.entering new) :=
    ⟨(congrArg Readings.now readings).trans now, by rw [State.cfg, svp]; exact cfg, rcs.trans rcs', by rw [btu]; exact part,
      by rw [btu]; exact values, by rw [btu]; exact charger⟩
  have entry := State.enterSeq_leaving seq leaves
  have pending : (u.enterSeq new).quietTest := by
    rw [entry]
    exact .inr (leads'.abandons running v1 i1 .sequence (.refl _)).test
  exact leads'.abandons running v1 i1 .sequence (entry ▸ rests pending)

theorem State.beginTrip_abandons {u : State} (leads : s.LeadsTo u) (seq : u.sqc.seq = .ready) (trip : CurrentTrip) :
    s.Abandons .sequence (u.beginTrip trip) :=
  State.enterSeq_abandons running v1 i1 leads seq (by decide) fun quiet =>
    .of_reaches (d := false) quiet ((((State.Reaches.refl _).withSqc rfl rfl).cduTripOrder.buildTrip _ _).record _)

theorem State.enterLockout_abandons {u : State} (leads : s.LeadsTo u) (seq : u.sqc.seq = .ready) (reason : LockReason) :
    s.Abandons .sequence (u.enterLockout reason) :=
  State.enterSeq_abandons running v1 i1 leads seq (by decide) fun quiet =>
    .of_reaches (d := false) quiet ((((State.Reaches.refl _).withSqc rfl rfl).record _).buildLockout _)

/-- A first pickup abandons the test before the order of its step (R12, R82). -/
theorem State.frameStep_abandons {f : MeasFields} (unpicked : ∀ e ∈ s.ocu.elems.toList, e.picked = false)
    (picks : ((s.computeStep f).elems.map (·.picked)).anySet = true) : s.Abandons .pickup (s.frameStep f) := by
  have first := (s.computeStep_first f unpicked).trans picks
  have leads : s.LeadsTo
      (((s.stepped f).buildPickup (s.computeStep f).picked (s.computeStep f).largest).sqcFirstPickup (s.computeStep f).picked) :=
    .of_btu (by simp [State.sqcFirstPickup, State.stepped]) (by simp [State.sqcFirstPickup, State.stepped, State.cfg])
      (by simp [State.sqcFirstPickup, State.stepped]) (by simp [State.sqcFirstPickup, State.stepped])
  have noticed : s.noticed f =
      (((s.stepped f).buildPickup (s.computeStep f).picked (s.computeStep f).largest).sqcFirstPickup
        (s.computeStep f).picked).abandonTest .pickup := by
    rw [State.noticed, if_pos first]
    rfl
  refine leads.abandons running v1 i1 .pickup (noticed ▸ .of_reaches (d := false) ?_ (s.noticed_reaches_frameStep f))
  rw [noticed]
  exact .inr (leads.abandons running v1 i1 .pickup (.refl _)).test

end

theorem State.Abandons.quietTest {s t : State} {cause : Reason} (h : s.Abandons cause t) : t.quietTest := .inr h.test

/-- Later effects that let the test rest. -/
theorem State.Abandons.rests {s t u : State} {cause : Reason} (h : s.Abandons cause t) (rests : t.Rests u) : s.Abandons cause u := by
  have part := rests.part
  simp only [Btu.testPart, TestPart.mk.injEq] at part
  obtain ⟨test, sources, settle, load, lastResult, lastResistance, failed, schedule, charger, -⟩ := part
  obtain ⟨first, hf⟩ := h.records
  obtain ⟨later, hl⟩ := rests.records
  exact
    { test := test.trans h.test
      sources := sources.trans h.sources
      settle := settle.trans h.settle
      load := load.trans h.load
      lastResult := lastResult.trans h.lastResult
      lastResistance := lastResistance.trans h.lastResistance
      failed := failed.trans h.failed
      schedule := schedule.trans h.schedule
      charger := by rw [charger, rests.acPresent]; exact h.charger
      now := rests.now.trans h.now
      records := ⟨first ++ later, hl.trans (State.withRecords_append s t h.now _ later hf)⟩ }

theorem State.Abandons.reaches {d : Bool} {s t u : State} {cause : Reason} (h : s.Abandons cause t) (later : t.Reaches d u) :
    s.Abandons cause u := h.rests (.of_reaches h.quietTest later)

end Sys2Proof.Machine
end

section
/-! SUPPORT. The causes that abandon a running battery test, one by one, and the test that a frame finds PENDING. -/

namespace Sys2Proof.Machine

/-! ### A first pickup (R11, R12) -/

/-- A frame whose currents bring an element to pickup (R10, R11). -/
def MeasFields.PicksUp (f : MeasFields) (cfg : Settings) : Prop :=
  ∃ c ∈ [(f.ia, cfg.pickupPh), (f.ib, cfg.pickupPh), (f.ic, cfg.pickupPh), (f.ig, cfg.pickupGd)], 256 ≤ c.1 * 256 / c.2

/-- A current at its pickup gives a multiple of 1.00. -/
theorem multiple_picks {current pickup : Nat} (over' : 256 ≤ current * 256 / pickup) : 256 ≤ multiple current pickup :=
  le_min (by decide) over'

theorem State.computeStep_picks {s : State} {f : MeasFields} (picks : f.PicksUp s.cfg) :
    ((s.computeStep f).elems.map (·.picked)).anySet = true := by
  obtain ⟨c, member, level⟩ := picks
  simp only [List.mem_cons, List.not_mem_nil, or_false] at member
  simp only [State.computeStep_elems, PerElem.map, PerElem.zip, PerElem.anySet, Bool.or_eq_true]
  rcases member with rfl | rfl | rfl | rfl
  · exact .inl (.inl (.inl (stepElement_over _ _ (s.elemInputs f).a _ (multiple_picks level)).1))
  · exact .inl (.inl (.inr (stepElement_over _ _ (s.elemInputs f).b _ (multiple_picks level)).1))
  · exact .inl (.inr (stepElement_over _ _ (s.elemInputs f).c _ (multiple_picks level)).1)
  · exact .inr (stepElement_over _ _ (s.elemInputs f).g _ (multiple_picks level)).1

/-! ### The causes (R82) -/

/-- An input that has held its level acts. -/
theorem State.whenStarted_debounce {s : State} {pin : InputPin} {level : Bool} (on : s.started = true) (held : s.Held pin level)
    (changes : s.debounced pin ≠ level) (change : State → State) :
    (s.whenStarted fun u => u.debounce pin level .held change) = change (s.endCount pin) := by
  rw [State.whenStarted_of_started _ _ on, State.debounce_held, if_pos ((State.inputHolds_iff _ _ _).mpr ⟨held, changes⟩)]

/-- A change of the charger mode keeps the values of the test. -/
theorem State.setCharger_values (s : State) (mode : Charger) :
    ((s.setCharger mode).btu.v0, (s.setCharger mode).btu.v1, (s.setCharger mode).btu.i1) = (s.btu.v0, s.btu.v1, s.btu.i1) := by
  unfold State.setCharger State.sendSetpoint State.onlyIf
  split <;> rfl

/-- The station with AC gone, the charger not off yet. -/
def State.acGone (s : State) : State :=
  (s.endCount .acp).withBtu fun b => { b with acPresent := false, taper := none, boostLimit := none }

theorem State.acGone_leadsTo {s : State} (was : s.btu.acPresent = true) : s.LeadsTo (s.acGone.setCharger .off) := by
  have mode := s.acGone.setCharger_testPart .off
  have readings := s.acGone.setCharger_readings .off
  have off : (s.acGone.setCharger .off).btu.charger = .off := congrArg TestPart.charger mode
  exact
    { now := congrArg Readings.now readings
      cfg := by simp [State.acGone, State.cfg]
      rcs := by simp [State.acGone]
      part := by rw [mode, off]; rfl
      values := s.acGone.setCharger_values .off
      charger := .inr ⟨congrArg Readings.acPresent readings, was, off⟩ }

/-- An Operator-Trip request in LISTEN acts and is answered (R172). -/
theorem exec_operatorTrip {s : State} (on : s.started = true) (listen : s.svp.service = .listen) :
    exec .operatorTrip s = .next s.resetAssembly.serveTrip :=
  congrArg Host.Outcome.next
    (State.whenStarted_onlyIf (c := fun u => u.svp.service == .listen) (f := fun u => u.resetAssembly.serve .operatorTrip) on
      (by rw [listen]; rfl))

section

variable {s : State} (running : s.btu.test = .settle ∨ s.btu.test = .loaded) (v1 : s.btu.v1 = none) (i1 : s.btu.i1 = none)

include running v1 i1

/-- A stall: the elements are frozen and the memory empty before, the enables and the take follow after (R5, R82). -/
theorem State.stall_abandons (stalled : s.mfp.stalled = false) : s.Abandons (.lock .measurement) s.stall := by
  have leads : s.LeadsTo s.frozen := .of_btu rfl rfl rfl rfl
  rw [State.stall_first stalled]
  exact ((leads.abandons running v1 i1 .measurement (.refl _)).reaches (d := false) (State.Reaches.refl _).refreshCharge).rests
    (.of_eq rfl rfl rfl)

/-- AC goes: the charger is off before, the reserve state is judged after (R69, R72, R82). -/
theorem State.acGoes_abandons (was : s.btu.acPresent = true) : s.Abandons .acLoss (s.endCount .acp).acGoes :=
  ((State.acGone_leadsTo was).abandons running v1 i1 .acLoss (.refl _)).reaches (State.Reaches.refl (d := true) _).judgeBattery

/-- The handle goes down in READY: the cause taken first is the one recorded (R82). -/
theorem State.handleGoesDown_abandons (seq : s.sqc.seq = .ready) (btuFirst : Bool) :
    s.Abandons (if btuFirst then .lock .handle else .sequence) ((s.endCount .hndl).handleGoesDown btuFirst) := by
  have leads : s.LeadsTo ((s.endCount .hndl).withTgu fun t => { t with handleDown := true }) := .of_btu rfl rfl rfl rfl
  cases btuFirst with
  | true => exact (leads.abandons running v1 i1 .handle (.refl _)).reaches (d := false) (State.Reaches.refl _).sqcHandleDown
  | false =>
    have locks : s.Abandons .sequence ((s.endCount .hndl).withTgu fun t => { t with handleDown := true }).sqcHandleDown := by
      have still : (s.sqc.seq == .tripping || s.sqc.seq == .breakerFail) = false := by rw [seq]; rfl
      have entry := State.enterLockout_abandons running v1 i1 leads seq .handle
      unfold State.sqcHandleDown
      rwa [show (((s.endCount .hndl).withTgu fun t => { t with handleDown := true }).sqc.seq == .tripping ||
        ((s.endCount .hndl).withTgu fun t => { t with handleDown := true }).sqc.seq == .breakerFail) = false from still, State.onlyIf_false]
    exact locks.reaches (d := false) ((State.Reaches.refl _).abandonTest _)

/-- An operator trip in READY begins a trip (R39, R82). -/
theorem State.operatorTrip_abandons {u : State} (leads : s.LeadsTo u) (seq : u.sqc.seq = .ready) :
    s.Abandons .sequence u.operatorTrip := by
  rw [State.operatorTrip, seq]
  exact State.beginTrip_abandons running v1 i1 leads seq _

theorem State.tripPress_abandons (seq : s.sqc.seq = .ready) {u : State} (leads : s.LeadsTo u) (same : u.sqc = s.sqc) :
    s.Abandons .sequence u.tripPress := by
  have seq' : u.sqc.seq = .ready := by rw [same, seq]
  have done : (u.operatorTripAnswer == .done) = true := by rw [State.operatorTripAnswer, seq']; rfl
  rw [State.tripPress, done, if_pos rfl]
  exact State.operatorTrip_abandons running v1 i1 leads seq'

/-- An open without a pulse in READY locks out, and trip confirmed follows (R42, R82). -/
theorem State.opened_abandons (seq : s.sqc.seq = .ready) (request : s.cdu.tripRequest = .none) (clearFirst : Bool) :
    s.Abandons .sequence (s.opened.changeToOpen clearFirst) := by
  have leads : s.LeadsTo s.opened := .of_btu rfl rfl rfl rfl
  have locks : s.Abandons .sequence s.opened.openWithoutPulse := by
    rw [State.openWithoutPulse, show s.opened.sqc.seq = .ready from seq]
    exact State.enterLockout_abandons running v1 i1 leads seq _
  have confirmed : s.Abandons .sequence (s.opened.openWithoutPulse.tripConfirmed clearFirst) := by
    unfold State.tripConfirmed
    split
    · have cleared : s.Abandons .sequence s.opened.openWithoutPulse.clearElements := locks.rests (.of_eq rfl rfl rfl)
      exact cleared.reaches (d := false) ((State.Reaches.refl _).endHolds _)
    · exact (locks.reaches (d := false) ((State.Reaches.refl _).endHolds _)).rests (.of_eq rfl rfl rfl)
  rw [State.opened_unpulsed request, State.onlyIf]
  split
  · exact confirmed
  · exact locks

end

/-! ### A frame's first pickup (R12, R78, R82; log 7) -/

/-- The arrival of a frame touches nothing of the test but its moment. -/
theorem State.Abandons.of_arrival {s t : State} {f : MeasFields} {cause : Reason} (h : (s.arrival f).Abandons cause t) :
    s.Abandons cause t :=
  ⟨h.test, h.sources, h.settle, h.load, h.lastResult, h.lastResistance, h.failed, h.schedule, h.charger, h.now, h.records⟩

/-- A PENDING test found by the test of the start conditions at the arrival of a frame (R78, R79). -/
theorem State.testAtArrival_starts {s : State} (pending : s.btu.test = .pending) (conditions : s.testConditions = true) :
    s.testAtArrival = (s.withBtu fun b => { b with testMoment := false }).startTest := by
  rw [State.testAtArrival, pending, conditions]
  rfl

/-- A test just started: it settles, with no value taken. -/
theorem State.startTest_settles (s : State) :
    s.startTest.btu.test = .settle ∧ s.startTest.btu.sources = s.btu.sources ∧ s.startTest.btu.v0 = none ∧
      s.startTest.btu.v1 = none ∧ s.startTest.btu.i1 = none := by
  unfold State.startTest State.setCharger State.sendSetpoint State.onlyIf
  split <;> exact ⟨rfl, rfl, rfl, rfl, rfl⟩

/-- With an element PICKED no test starts. -/
theorem State.testAtArrival_picked {s : State} (picked : s.anyPicked = true) : s.Rests s.testAtArrival := by
  have blocked : (s.btu.test == .pending && s.testConditions) = false := by
    simp [State.testConditions, picked]
  rw [State.testAtArrival, blocked]
  exact ⟨rfl, rfl, rfl, [], rfl⟩

section

variable {s : State} {bits : List LinkBit} {bytes : List Byte} {order : List Delivery} (on : s.started = true)
  (brings : Brings s.mfp.frame bits bytes) (good : FrameIsGood bytes)
  (picks : (measFields bytes).PicksUp s.cfg)

include on brings good picks

/-- A frame whose first pickup finds a test running. -/
theorem exec_pickup_abandons (others : Delivery.test ∉ order) (unpicked : ∀ e ∈ s.ocu.elems.toList, e.picked = false)
    (running : s.btu.test = .settle ∨ s.btu.test = .loaded) (v1 : s.btu.v1 = none)
    (i1 : s.btu.i1 = none) :
    ∃ t, exec (.measurementFrame bits (.ocu :: order)) s = .next t ∧ s.Abandons .pickup t := by
  obtain ⟨later, run, -, -, -, rest⟩ := exec_ocuFirst on brings good order
  have abandons := State.frameStep_abandons (s := s.arrival (measFields bytes)) running v1 i1 unpicked
    (State.computeStep_picks (s := s.arrival (measFields bytes)) picks)
  exact ⟨_, run, abandons.of_arrival.rests (State.delivered_rests abandons.quietTest _ _ (mt rest.mp others))⟩

/-- A frame that starts the test and whose first pickup then abandons it. -/
theorem exec_test_then_pickup (unpicked : ∀ e ∈ s.ocu.elems.toList, e.picked = false) (pending : s.btu.test = .pending)
    (conditions : s.testConditions = true) :
    ∃ t, exec (.measurementFrame bits (.test :: .ocu :: order)) s = .next t ∧ t.btu.test = .pending ∧
      t.btu.sources = s.btu.sources ∧ t.btu.lastResult = some .abandoned ∧ t.btu.settle = none ∧
      ∃ after : List RecordBody, t.rcs =
        s.withRecords
          ({ kind := .batteryTest
             outcome := some { result := .abandoned, sources := s.btu.sources }
             reason := some .pickup } :: after) := by
  obtain ⟨later, first⟩ := deliveryOrder_cons_cons (d := .test) (e := .ocu) (by decide) order
  have nodup := deliveryOrder_nodup (.test :: .ocu :: order)
  rw [first, List.nodup_cons, List.mem_cons, not_or] at nodup
  obtain ⟨⟨-, rest⟩, -⟩ := nodup
  have starts := State.testAtArrival_starts (s := s.arrival (measFields bytes)) pending conditions
  obtain ⟨settle, sources, v0, v1, i1⟩ :=
    ((s.arrival (measFields bytes)).withBtu fun b => { b with testMoment := false }).startTest_settles
  rw [← starts] at settle sources v0 v1 i1
  have elems : (s.arrival (measFields bytes)).testAtArrival.ocu.elems = s.ocu.elems := by rw [starts]; simp [State.startTest]; rfl
  have cfg : (s.arrival (measFields bytes)).testAtArrival.cfg = s.cfg := by rw [starts]; simp [State.startTest, State.cfg]; rfl
  have rcs : (s.arrival (measFields bytes)).testAtArrival.rcs = s.rcs := by rw [starts]; simp [State.startTest]; rfl
  have now : (s.arrival (measFields bytes)).testAtArrival.now = s.now := by rw [starts]; simp [State.startTest]; rfl
  have abandons := State.frameStep_abandons (s := (s.arrival (measFields bytes)).testAtArrival) (.inl settle) v1 i1
    (by rw [elems]; exact unpicked) (State.computeStep_picks (by rw [cfg]; exact picks))
  have after := abandons.rests (State.delivered_rests abandons.quietTest (measFields bytes) (s.cdu.pulse == .close) rest)
  refine ⟨_, (exec_goodFrame on brings good _).trans (by rw [first]; rfl), after.test, after.sources.trans sources, after.lastResult,
    after.settle, ?_⟩
  obtain ⟨more, records⟩ := after.records
  exact ⟨more, by rw [records, sources, v0, State.withRecords, rcs, now]; rfl⟩

/-- A frame whose first pickup comes before the test of the start conditions, which then finds an element PICKED. -/
theorem exec_pickup_then_test (pending : s.btu.test = .pending) :
    ∃ t, exec (.measurementFrame bits (.ocu :: .test :: order)) s = .next t ∧ t.btu.testPart = s.btu.testPart := by
  obtain ⟨later, first⟩ := deliveryOrder_cons_cons (d := .ocu) (e := .test) (by decide) order
  have nodup := deliveryOrder_nodup (.ocu :: .test :: order)
  rw [first, List.nodup_cons, List.nodup_cons] at nodup
  obtain ⟨-, rest, -⟩ := nodup
  have quiet : (s.arrival (measFields bytes)).quietTest := .inr pending
  have stepped := State.deliver_rests quiet (measFields bytes) (s.cdu.pulse == .close) (d := .ocu) (by decide)
  have picked : ((s.arrival (measFields bytes)).frameStep (measFields bytes)).anyPicked = true := by
    rw [State.anyPicked, State.frameStep_elems]
    exact State.computeStep_picks (s := s.arrival (measFields bytes)) picks
  have tested := stepped.trans (State.testAtArrival_picked picked)
  have all := tested.trans (State.delivered_rests (tested.quietTest quiet) (measFields bytes) (s.cdu.pulse == .close) rest)
  exact ⟨_, (exec_goodFrame on brings good _).trans (by rw [first]; rfl), all.part⟩

end

end Sys2Proof.Machine

/-! ### The statement -/

open Sys2Proof.Machine in
/-- Settles O42: no step leaves the test unsound; each cause abandons it first; a PENDING one is begun and abandoned by one frame, or
stays, as the BTU and the OCU come. -/
theorem runningTestIsAbandoned : Obligations.RunningTestIsAbandoned := by
  refine ⟨fun s t sound run => (step_preserves run).test sound, fun s on running v1 i1 c cause causes => ?_,
    fun s bits bytes order on brings good others picks pending ac reserve seq unpicked tripReady closeReady pulse => ⟨?_, ?_⟩⟩
  · have of_next {u : State} (run : exec c s = .next u) (abandons : s.Abandons cause u) : ∃ t, exec c s = .next t ∧ s.Abandons cause t :=
      ⟨u, run, abandons⟩
    obtain ⟨t, run, test, sources, settle, load, lastResult, lastResistance, failed, schedule, charger, -, records⟩ :
        ∃ t, exec c s = .next t ∧ s.Abandons cause t := by
      rcases causes with ⟨rfl, due, stalled, rfl⟩ | ⟨rfl, was, held, rfl⟩ | ⟨rfl, up, held, seq, rfl⟩ | ⟨rfl, up, held, seq, rfl⟩ |
        ⟨rfl, up, held, seq, rfl⟩ | ⟨rfl, listen, seq, rfl⟩ |
        ⟨⟨clearFirst, rfl⟩, held, closedMade, openMade, lastClosed, request, seq, rfl⟩ |
        ⟨bits, bytes, order, rfl, brings, good, others, unpicked, rfl, picks⟩
      · exact of_next (exec_stalled on due) (State.stall_abandons running v1 i1 stalled)
      · exact of_next (congrArg Host.Outcome.next (State.whenStarted_debounce on held (by simp [State.debounced, was]) _))
          (State.acGoes_abandons running v1 i1 was)
      · exact of_next (congrArg Host.Outcome.next (State.whenStarted_debounce on held (by simp [State.debounced, up]) _))
          (State.handleGoesDown_abandons running v1 i1 seq true)
      · exact of_next (congrArg Host.Outcome.next (State.whenStarted_debounce on held (by simp [State.debounced, up]) _))
          (State.handleGoesDown_abandons running v1 i1 seq false)
      · exact of_next (congrArg Host.Outcome.next (State.whenStarted_debounce on held (by simp [State.debounced, up]) _))
          (State.tripPress_abandons running v1 i1 seq (.of_btu rfl rfl rfl rfl) rfl)
      · exact of_next (exec_operatorTrip on listen)
          ((State.operatorTrip_abandons running v1 i1 (u := s.resetAssembly) (.of_btu rfl rfl rfl rfl) seq).reaches (d := false)
            ((State.Reaches.refl _).respond _ _ _))
      · exact of_next (exec_opens on closedMade openMade lastClosed held clearFirst)
          (State.opened_abandons running v1 i1 seq request clearFirst)
      · exact exec_pickup_abandons on brings good picks others unpicked running v1 i1
    exact ⟨t, run, test, sources, settle, load, lastResult, lastResistance, failed, schedule, charger, records⟩
  · refine exec_test_then_pickup on brings good picks unpicked pending ?_
    rw [forall_unpicked_iff] at unpicked
    simp [State.testConditions, State.anyPicked, State.noPulse, ac, reserve, seq, unpicked, tripReady, closeReady, pulse]
  · obtain ⟨t, run, part⟩ := exec_pickup_then_test on brings good picks pending
    simp only [Btu.testPart, TestPart.mk.injEq] at part
    obtain ⟨test, sources, settle, -, lastResult, -⟩ := part
    exact ⟨t, run, test.trans pending, sources, lastResult, settle⟩

end

section
/-! SUPPORT. What follows a trip that begins: its pulse or its wait, its records and its report. -/

namespace Sys2Proof.Machine

/-! ### The trip order at the CDU (R55, R61) -/

/-- What the CDU holds of the trip request, its pulse and its capacitor, with the close request (3.4). -/
structure TripPart where
  request : TripRequest
  pulse : Pulse
  pulseTimer : Timer
  window : Timer
  wait : Timer
  spent : Bool
  ready : Bool
  owed : Bool
  withdrawn : Bool
  closeRequest : Bool

def Cdu.tripPart (c : Cdu) : TripPart where
  request := c.tripRequest
  pulse := c.pulse
  pulseTimer := c.pulseTimer
  window := c.tripWindow
  wait := c.tripWait
  spent := c.tripSpent
  ready := c.tripReady
  owed := c.tripOwed
  withdrawn := c.withdrawn
  closeRequest := c.closeRequest

/-- A trip pulse begun from a ready capacitor (R50, R54). -/
def firstPulse (width : Nat) (closeRequest : Bool) : TripPart where
  request := .first
  pulse := .trip
  pulseTimer := some width
  window := some 100
  wait := none
  spent := true
  ready := false
  owed := false
  withdrawn := false
  closeRequest := closeRequest

@[simp] theorem State.refreshCharge_tripPart (s : State) : s.refreshCharge.cdu.tripPart = s.cdu.tripPart := rfl

/-- Pre-emption ends a close pulse with its request and writes its record (R61). -/
theorem State.preempt_part (s : State) :
    s.preempt.cdu.tripPart =
        (if s.cdu.pulse = .close then
          { s.cdu.tripPart with closeRequest := false, owed := false, pulse := .none, pulseTimer := none }
        else s.cdu.tripPart) ∧
      s.preempt.rcs =
        s.withRecords (if s.cdu.pulse = .close then [{ kind := .tripFree, shots := some s.sqc.shots }] else []) := by
  unfold State.preempt State.onlyIf
  by_cases close : s.cdu.pulse = .close
  · rw [close]
    exact ⟨rfl, rfl⟩
  · rw [show (s.cdu.pulse == Pulse.close) = false by simpa using close, if_neg close, if_neg close]
    exact ⟨rfl, rfl⟩

/-- With no trip pulse in progress, a pre-emption leaves none at all, and no request of the trip. -/
theorem State.preempt_idle {s : State} (pulse : s.cdu.pulse ≠ .trip) (owed : s.cdu.tripOwed = false) :
    s.preempt.cdu.tripRequest = s.cdu.tripRequest ∧ s.preempt.cdu.tripReady = s.cdu.tripReady ∧ s.preempt.cdu.pulse = .none ∧
      s.preempt.cdu.tripOwed = false ∧
      s.preempt.cdu.closeRequest = (s.cdu.closeRequest && decide (s.cdu.pulse ≠ Pulse.close)) ∧
      s.preempt.cdu.tripSpent = s.cdu.tripSpent := by
  obtain ⟨part, -⟩ := s.preempt_part
  simp only [Cdu.tripPart] at part
  cases own : s.cdu.pulse with
  | trip => exact absurd own pulse
  | close => simp_all
  | none => simp_all

/-- The request of a trip order that finds the trip capacitor not ready (R55). -/
def waitingTrip (spent closeRequest : Bool) (timer window : Timer) : TripPart where
  request := .wait
  pulse := .none
  pulseTimer := timer
  window := window
  wait := some 2000
  spent := spent
  ready := false
  owed := false
  withdrawn := false
  closeRequest := closeRequest

/-- What a new trip order leaves of the CDU: the pulse of a ready capacitor, or the request that waits (R55). -/
theorem State.cduTripOrder_part {s : State} (request : s.cdu.tripRequest = .none) (pulse : s.cdu.pulse ≠ .trip)
    (owed : s.cdu.tripOwed = false) :
    (s.cdu.tripReady = true →
      s.cduTripOrder.cdu.tripPart = firstPulse s.cfg.tripWidth (s.cdu.closeRequest && decide (s.cdu.pulse ≠ Pulse.close))) ∧
    (s.cdu.tripReady = false →
      ∃ timer window, s.cduTripOrder.cdu.tripPart =
        waitingTrip s.cdu.tripSpent (s.cdu.closeRequest && decide (s.cdu.pulse ≠ Pulse.close)) timer window) := by
  obtain ⟨sameRequest, ready, idle, unowed, closing, spent⟩ := State.preempt_idle pulse owed
  have cfg : s.preempt.cfg = s.cfg := by simp [State.cfg]
  rw [request] at sameRequest
  refine ⟨fun isReady => ?_, fun isNot => ⟨s.preempt.cdu.pulseTimer, s.preempt.cdu.tripWindow, ?_⟩⟩
  · rw [isReady] at ready
    simp only [State.cduTripOrder, sameRequest, State.withCdu, ready, if_true]
    rw [← closing, ← cfg]
    rfl
  · rw [isNot] at ready
    simp only [State.cduTripOrder, sameRequest, State.withCdu, ready, Bool.false_eq_true, if_false]
    simp only [Cdu.tripPart, waitingTrip, idle, unowed, closing, spent]

/-- A trip order writes the pre-emption's record alone. -/
theorem State.cduTripOrder_rcs (s : State) :
    s.cduTripOrder.rcs =
      s.withRecords (if s.cdu.pulse = .close then [{ kind := .tripFree, shots := some s.sqc.shots }] else []) := by
  rw [← s.preempt_part.2]
  unfold State.cduTripOrder
  dsimp only
  repeat' split
  all_goals simp

/-! ### A trip begun (R27, R115, R164) -/

/-- The entry to TRIPPING leaves the CDU. -/
theorem State.enterSeq_tripping_cdu (s : State) : (s.enterSeq .tripping).cdu = s.cdu := by
  rw [State.enterSeq_eq, s.entering_plain rfl rfl]
  simp

theorem State.enterSeq_tripping {s : State} (quiet : s.quietTest) : s.enterSeq .tripping = s.withSqc fun q => q.enter .tripping := by
  rw [State.enterSeq_of_quiet quiet, s.entering_plain rfl rfl]

/-- The SQC in TRIPPING with its trip, before the order goes to the CDU. -/
def State.tripping (s : State) (trip : CurrentTrip) : State :=
  (s.enterSeq .tripping).withSqc fun q => { q with trip := some trip, manualWindow := none }

theorem State.beginTrip_cdu (s : State) (trip : CurrentTrip) : (s.beginTrip trip).cdu = (s.tripping trip).cduTripOrder.cdu := by
  simp [State.beginTrip, State.tripping]

/-- With no test to abandon a trip that begins writes the pre-emption's record and its own. -/
theorem State.beginTrip_rcs {s : State} (quiet : s.quietTest) (trip : CurrentTrip) :
    (s.beginTrip trip).rcs =
      s.withRecords
        ((if s.cdu.pulse = .close then [{ kind := .tripFree, shots := some s.sqc.shots }] else []) ++
          [tripRecord trip s.sqc.shots]) := by
  have ordered := (s.tripping trip).cduTripOrder_rcs
  have entry := State.enterSeq_tripping quiet
  have same : (s.tripping trip).withRecords = s.withRecords := by
    rw [State.tripping, entry]
    rfl
  have shots : (s.tripping trip).sqc.shots = s.sqc.shots := by
    rw [State.tripping, entry]
    rfl
  rw [same, shots, show (s.tripping trip).cdu.pulse = s.cdu.pulse from congrArg Cdu.pulse s.enterSeq_tripping_cdu] at ordered
  have built : ((s.tripping trip).cduTripOrder.buildTrip trip false).rcs = _ := .trans (by simp) ordered
  exact State.withRecords_append s _ (by simp) _ [tripRecord trip s.sqc.shots] built

/-- A trip that begins builds its TRIP report (R27, R115). -/
theorem State.beginTrip_reports {s : State} (quiet : s.quietTest) {trip : CurrentTrip} (cause : trip.cause ≠ .operator) :
    Reports s (s.beginTrip trip) [(.trip, tripPayload trip false s.ocu.longestRun)] := by
  have entry := State.enterSeq_tripping quiet
  have payload : tripPayload trip false s.ocu.longestRun =
      beBytes 1 trip.cause.code ++ beBytes 1 trip.elements.code ++ beBytes 2 trip.peak ++ beBytes 1 trip.number ++
        beBytes 1 (bit 0 trip.finalReason.isSome + bit 1 false) ++ beBytes 1 ((trip.finalReason.map LockReason.code).getD 0) ++
        beBytes 2 (if trip.cause == .operator then 0 else (s.tripping trip).cduTripOrder.ocu.longestRun) := by
    have run : (if trip.cause == .operator then 0 else (s.tripping trip).cduTripOrder.ocu.longestRun) = s.ocu.longestRun := by
      rw [show (trip.cause == .operator) = false by simpa using cause, if_neg (by decide)]
      simp [State.tripping, entry]
    rw [run]
    rfl
  rw [payload]
  exact ((s.tripping trip).cduTripOrder.buildReport_reports (by decide) _).of_parts
    (by simp [State.tripping, entry, State.cfg]) rfl

end Sys2Proof.Machine
end

section
/-! SUPPORT. The deliveries that find a trip begun: what they leave of the trip request and its pulse, of the records and of the reports. -/

namespace Sys2Proof.Machine

/-- TRIPPING with no memory and no record waiting: every delivery beside the OCU's passes the sequence by. -/
structure State.Trips (s : State) : Prop where
  seq : s.sqc.seq = .tripping
  memory : s.sqc.memory = none
  queue : s.chc.queue = []

theorem State.Trips.deliver {s : State} (h : s.Trips) (f : MeasFields) (closing : Bool) {d : Delivery} (other : d ≠ .ocu) :
    (s.deliver f closing d).Trips := by
  have sqc := (State.Bypasses.deliver h.queue f closing other).within h.seq h.memory
  exact ⟨by rw [sqc]; exact h.seq, by rw [sqc]; exact h.memory, State.deliver_empty h.queue f closing d⟩

/-! ### The hand-offs of the voltages (R50) -/

/-- A close capacitor ready report finds nothing to do in TRIPPING. -/
theorem State.closeReadyReport_tripping {s : State} (seq : s.sqc.seq = .tripping) : s.closeReadyReport = s := by
  rw [State.closeReadyReport, seq]

/-- The trip's ready report touches the CDU alone in TRIPPING. -/
theorem State.tripHanded_frame (s : State) :
    s.tripHanded.sqc = s.sqc ∧ s.tripHanded.rcs = s.rcs ∧ s.tripHanded.pru = s.pru ∧ s.tripHanded.chc = s.chc ∧
      s.tripHanded.btu = s.btu := by
  unfold State.tripHanded
  split <;> simp

/-- The ready reports handed in TRIPPING: the trip's own alone acts. -/
theorem State.handReports_tripping {s : State} (seq : s.sqc.seq = .tripping) :
    s.handReports.cdu.tripPart = s.tripHanded.cdu.tripPart ∧ s.handReports.rcs = s.rcs ∧ s.handReports.pru = s.pru ∧
      s.handReports.chc = s.chc ∧ s.handReports.btu = s.btu := by
  obtain ⟨sqc, rcs, pru, chc, btu⟩ := s.tripHanded_frame
  rw [State.handReports_eq]
  split
  · rw [State.closeReadyReport_tripping (by rw [State.withCdu_sqc, sqc, seq])]
    exact ⟨rfl, rcs, pru, chc, btu⟩
  · exact ⟨rfl, rcs, pru, chc, btu⟩

/-- No report is handed that is not owed. -/
theorem State.tripHanded_unowed {s : State} (unowed : s.cdu.tripOwed = false) : s.tripHanded = s := by
  rw [State.tripHanded, unowed, Bool.false_and, if_neg (by decide)]

/-- A waiting request is served by the report of its capacitor. -/
theorem State.tripHanded_wait {s : State} (owed : s.cdu.tripOwed = true) (idle : s.cdu.pulse = .none) (request : s.cdu.tripRequest = .wait)
    (withdrawn : s.cdu.withdrawn = false) :
    s.tripHanded.cdu.tripPart = firstPulse s.cfg.tripWidth s.cdu.closeRequest := by
  have hands : (s.cdu.tripOwed && s.noPulse) = true := by simp [owed, State.noPulse, idle]
  have serves : (s.withCdu fun c => { c with tripOwed := false }).tripReadyReport =
      (s.withCdu fun c => { c with tripOwed := false }).beginTripPulse .first := by
    rw [State.tripReadyReport, State.withCdu_cdu, request]
  have begun : ((s.withCdu fun c => { c with tripOwed := false }).beginTripPulse .first).cdu.tripPart =
      { firstPulse s.cfg.tripWidth s.cdu.closeRequest with withdrawn := s.cdu.withdrawn } := rfl
  rw [State.tripHanded, if_pos hands, serves, begun, withdrawn]
  rfl

/-! ### The voltages (R50) -/

/-- The CDU with the voltages of a frame read and its readiness judged, before any report is handed (R50). -/
def State.voltagesRead (s : State) (tripV closeV : Nat) (closing : Bool) : State :=
  (s.withCdu fun c =>
    { c with
      tripV := tripV
      closeV := closeV
      tripSpent := s.cdu.tripSpent && s.cdu.tripWindow.isSome
      closeSpent := s.cdu.closeSpent && (closing || s.cdu.pulse == .close)
      tripReady := decide (240 ≤ tripV) && !(s.cdu.tripSpent && s.cdu.tripWindow.isSome)
      closeReady := decide (closeReadyLevel ≤ closeV) && !(s.cdu.closeSpent && (closing || s.cdu.pulse == .close))
      tripOwed := (decide (240 ≤ tripV) && !(s.cdu.tripSpent && s.cdu.tripWindow.isSome)) && (c.tripOwed || !c.tripReady)
      closeOwed := (decide (closeReadyLevel ≤ closeV) && !(s.cdu.closeSpent && (closing || s.cdu.pulse == .close))) &&
        (c.closeOwed || !c.closeReady) }).refreshCharge

theorem State.deliverVoltages_eq (s : State) (tripV closeV : Nat) (closing : Bool) :
    s.deliverVoltages tripV closeV closing = (s.voltagesRead tripV closeV closing).handReports := rfl

theorem State.voltagesRead_part (s : State) (tripV closeV : Nat) (closing : Bool) :
    (s.voltagesRead tripV closeV closing).cdu.tripPart =
      { s.cdu.tripPart with
        spent := s.cdu.tripSpent && s.cdu.tripWindow.isSome
        ready := decide (240 ≤ tripV) && !(s.cdu.tripSpent && s.cdu.tripWindow.isSome)
        owed := (decide (240 ≤ tripV) && !(s.cdu.tripSpent && s.cdu.tripWindow.isSome)) && (s.cdu.tripOwed || !s.cdu.tripReady) } :=
  rfl

section

variable {s : State} {closeRequest : Bool} (seq : s.sqc.seq = .tripping) (tripV closeV : Nat) (closing : Bool)

include seq

/-- A pulse that has begun is left by the voltages: its capacitor stays spent while the window runs. -/
theorem State.deliverVoltages_pulsing {width : Nat} (begun : s.cdu.tripPart = firstPulse width closeRequest) :
    (s.deliverVoltages tripV closeV closing).cdu.tripPart = firstPulse width closeRequest := by
  have read := s.voltagesRead_part tripV closeV closing
  rw [State.deliverVoltages_eq, (State.handReports_tripping (s := s.voltagesRead tripV closeV closing) seq).1]
  simp only [Cdu.tripPart, firstPulse, TripPart.mk.injEq] at begun
  obtain ⟨request, pulse, timer, window, wait, spent, ready, owed, withdrawn, close⟩ := begun
  have same : (s.voltagesRead tripV closeV closing).cdu.tripPart = firstPulse width closeRequest := by
    rw [read]
    simp [Cdu.tripPart, firstPulse, request, pulse, timer, window, wait, spent, owed, withdrawn, close]
  rw [State.tripHanded_unowed (congrArg TripPart.owed same), same]

/-- A request that waits is served where the voltages find its capacitor ready, and waits on where they do not. -/
theorem State.deliverVoltages_waiting {spent : Bool} {timer window : Timer}
    (waits : s.cdu.tripPart = waitingTrip spent closeRequest timer window) :
    (s.deliverVoltages tripV closeV closing).cdu.tripPart =
      if 240 ≤ tripV ∧ (spent && window.isSome) = false then firstPulse s.cfg.tripWidth closeRequest
      else waitingTrip (spent && window.isSome) closeRequest timer window := by
  have read := s.voltagesRead_part tripV closeV closing
  have cfg : (s.voltagesRead tripV closeV closing).cfg = s.cfg := rfl
  rw [State.deliverVoltages_eq, (State.handReports_tripping (s := s.voltagesRead tripV closeV closing) seq).1]
  simp only [Cdu.tripPart, waitingTrip, TripPart.mk.injEq] at waits
  obtain ⟨request, pulse, timer', window', wait, spent', ready, owed, withdrawn, close⟩ := waits
  rw [spent', window', owed, ready] at read
  split
  · next serves =>
    have owes : (s.voltagesRead tripV closeV closing).cdu.tripOwed = true :=
      (congrArg TripPart.owed read).trans (by simp [serves])
    rw [State.tripHanded_wait owes pulse request withdrawn, cfg, ← close]
    rfl
  · next lasts =>
    have unready : (decide (240 ≤ tripV) && !(spent && window.isSome)) = false := by
      rw [not_and, Bool.not_eq_false] at lasts
      by_cases level : 240 ≤ tripV
      · rw [lasts level, Bool.not_true, Bool.and_false]
      · rw [decide_eq_false level, Bool.false_and]
    rw [unready] at read
    rw [State.tripHanded_unowed (congrArg TripPart.owed read), read]
    simp [Cdu.tripPart, waitingTrip, request, pulse, timer', window', wait, withdrawn, close]

end

/-! ### The other deliveries (R67, R122) -/

/-- The SQC finds nothing to do with CRITICAL in TRIPPING. -/
theorem State.sqcCritical_tripping {s : State} (seq : s.sqc.seq = .tripping) : s.sqcCritical = s := by
  rw [State.sqcCritical, seq]

theorem State.changeReserve_tripPart {s : State} (seq : s.sqc.seq = .tripping) (new : Reserve) :
    (s.changeReserve new).cdu.tripPart = s.cdu.tripPart := by
  have unmoved (c : Bool) (u : State) (seq : u.sqc.seq = .tripping) : u.onlyIf c State.sqcCritical = u := by
    cases c with
    | false => rfl
    | true => exact State.sqcCritical_tripping seq
  rw [State.changeReserve, unmoved _ _ (by simpa using seq)]
  simp only [State.settleTransmitter_frame, State.followReserve_frame]
  rfl

theorem State.judgeBattery_tripPart {s : State} (seq : s.sqc.seq = .tripping) : s.judgeBattery.cdu.tripPart = s.cdu.tripPart := by
  unfold State.judgeBattery State.onlyIf
  dsimp only
  split
  · exact State.changeReserve_tripPart seq _
  · rfl

/-- A delivery beside the OCU's and the CDU's leaves the trip request and its pulse. -/
theorem State.Trips.deliver_tripPart {s : State} (h : s.Trips) (f : MeasFields) (closing : Bool) {d : Delivery} (ocu : d ≠ .ocu)
    (cdu : d ≠ .cdu) : (s.deliver f closing d).cdu.tripPart = s.cdu.tripPart := by
  cases d with
  | ocu => exact absurd rfl ocu
  | cdu => exact absurd rfl cdu
  | btu =>
    simp only [State.deliver, State.deliverBattery, State.watchTaper_frame, State.watchLowVoltage_frame]
    rw [State.judgeBattery_tripPart (by simpa using h.seq)]
    simp
  | sqc => rfl
  | lfsr => rfl
  | take => simp [State.deliver, State.takeHead, h.queue]
  | test => simp [State.deliver]

/-- The deliveries in TRIPPING, seen from the CDU: its own finds the request and the pulse as they were, and they stay as it leaves them. -/
theorem State.Trips.delivered_tripPart {s : State} (h : s.Trips) (f : MeasFields) (closing : Bool) {order : List Delivery}
    (nodup : order.Nodup) (others : .ocu ∉ order) (member : .cdu ∈ order) :
    ∃ u : State, u.sqc.seq = .tripping ∧ u.cfg = s.cfg ∧ u.cdu.tripPart = s.cdu.tripPart ∧
      (s.delivered f closing order).cdu.tripPart = (u.deliverVoltages f.tripV f.closeV closing).cdu.tripPart := by
  have passes {part : List Delivery} (ocu : .ocu ∉ part) (cdu : .cdu ∉ part) {u : State} (h : u.Trips) :
      (u.delivered f closing part).Trips ∧ (u.delivered f closing part).cdu.tripPart = u.cdu.tripPart :=
    State.delivered_invariant (p := fun v => v.Trips ∧ v.cdu.tripPart = u.cdu.tripPart)
      (fun d member v hv => ⟨hv.1.deliver f closing fun e => ocu (e ▸ member),
        (hv.1.deliver_tripPart f closing (fun e => ocu (e ▸ member)) fun e => cdu (e ▸ member)).trans hv.2⟩) ⟨h, rfl⟩
  obtain ⟨first, later, rfl⟩ := List.append_of_mem member
  obtain ⟨-, ends, apart⟩ := List.nodup_append.mp nodup
  have notLater : .cdu ∉ later := (List.nodup_cons.mp ends).1
  have notFirst : .cdu ∉ first := fun h => apart _ h _ List.mem_cons_self rfl
  simp only [List.mem_append, List.mem_cons, not_or] at others
  obtain ⟨ocuFirst, -, ocuLater⟩ := others
  obtain ⟨trips, before⟩ := passes ocuFirst notFirst h
  obtain ⟨-, after⟩ := passes ocuLater notLater (trips.deliver f closing (d := .cdu) (by decide))
  exact ⟨_, trips.seq, State.delivered_cfg _ _ _ _, before, by rw [State.delivered_append, State.delivered_cons]; exact after⟩

/-! ### With no test running, AC present and NORMAL -/

/-- No test runs, AC is present and the reserve state NORMAL. -/
structure State.Calm (s : State) : Prop where
  quiet : s.quietTest
  acPresent : s.btu.acPresent = true
  reserve : s.btu.reserve = .normal

/-- A calm delivery in TRIPPING writes no record, builds no report, and moves of the channel the LFSR alone. -/
structure State.StaysCalm (s t : State) : Prop where
  calm : t.Calm
  rcs : t.rcs = s.rcs
  pru : t.pru = s.pru
  chc : t.chc = { s.chc with lfsr := t.chc.lfsr }

/-- With AC present a NORMAL reserve state stays (R72). -/
theorem State.Calm.judgeBattery {s : State} (calm : s.Calm) : s.judgeBattery = s := by
  have stays : (judgeReserve s.btu.acPresent s.btu.reserve s.btu.battV != s.btu.reserve) = false := by
    rw [calm.acPresent, calm.reserve]
    rfl
  rw [State.judgeBattery, stays, Bool.and_false, State.onlyIf_false]

/-- Effects on none of the BTU, the records and the reports. -/
theorem State.StaysCalm.of_eq {s t : State} (calm : s.Calm) (btu : t.btu = s.btu) (rcs : t.rcs = s.rcs) (pru : t.pru = s.pru)
    (chc : t.chc = s.chc) : s.StaysCalm t :=
  ⟨⟨by rw [State.quietTest, btu]; exact calm.quiet, by rw [btu]; exact calm.acPresent, by rw [btu]; exact calm.reserve⟩, rcs, pru,
    by rw [chc]⟩

theorem State.StaysCalm.trans {r s t : State} (h : r.StaysCalm s) (k : s.StaysCalm t) : r.StaysCalm t :=
  ⟨k.calm, k.rcs.trans h.rcs, k.pru.trans h.pru, by rw [k.chc, h.chc]⟩

theorem State.deliverBattery_calm {s : State} (calm : s.Calm) (v : Nat) (i temperature : Int) :
    s.StaysCalm (s.deliverBattery v i temperature) := by
  have sent : s.StaysCalm (s.withBtu fun b =>
      { b with battV := v, battI := i, temperature := temperature, vf := floatSetpoint temperature, measured := true }).sendSetpoint := by
    unfold State.sendSetpoint State.onlyIf
    split
    · exact ⟨⟨calm.quiet, calm.acPresent, calm.reserve⟩, rfl, rfl, rfl⟩
    · exact ⟨⟨calm.quiet, calm.acPresent, calm.reserve⟩, rfl, rfl, rfl⟩
  have watched {u : State} (calm : u.Calm) : u.StaysCalm u.watchLowVoltage.watchTaper := by
    unfold State.watchTaper State.onlyIf
    split
    · exact ⟨⟨calm.quiet, calm.acPresent, calm.reserve⟩, rfl, rfl, rfl⟩
    · exact ⟨⟨calm.quiet, calm.acPresent, calm.reserve⟩, rfl, rfl, rfl⟩
  rw [State.deliverBattery, sent.calm.judgeBattery]
  exact sent.trans (watched sent.calm)

/-- Outside READY no test starts. -/
theorem State.testAtArrival_elsewhere {s : State} (seq : s.sqc.seq ≠ .ready) :
    s.testAtArrival = s.withBtu fun b => { b with testMoment := false } := by
  have blocked : (s.btu.test == .pending && s.testConditions) = false := by simp [State.testConditions, seq]
  rw [State.testAtArrival, blocked]
  rfl

theorem State.Calm.deliver {s : State} (calm : s.Calm) (h : s.Trips) (f : MeasFields) (closing : Bool) {d : Delivery} (ocu : d ≠ .ocu) :
    s.StaysCalm (s.deliver f closing d) := by
  cases d with
  | ocu => exact absurd rfl ocu
  | cdu =>
    obtain ⟨-, rcs, pru, chc, btu⟩ := State.handReports_tripping (s := s.voltagesRead f.tripV f.closeV closing) h.seq
    exact .of_eq calm btu rcs pru chc
  | btu => exact State.deliverBattery_calm calm _ _ _
  | sqc => exact .of_eq calm rfl rfl rfl rfl
  | lfsr => exact ⟨⟨calm.quiet, calm.acPresent, calm.reserve⟩, rfl, rfl, rfl⟩
  | take =>
    rw [State.deliver, State.takeHead, h.queue]
    exact .of_eq calm rfl rfl rfl rfl
  | test =>
    rw [State.deliver, State.testAtArrival_elsewhere (by rw [h.seq]; decide)]
    exact ⟨⟨calm.quiet, calm.acPresent, calm.reserve⟩, rfl, rfl, rfl⟩

theorem State.Calm.delivered {s : State} (calm : s.Calm) (h : s.Trips) (f : MeasFields) (closing : Bool) {order : List Delivery}
    (others : .ocu ∉ order) : s.StaysCalm (s.delivered f closing order) :=
  (State.delivered_invariant (p := fun u => u.Trips ∧ s.StaysCalm u)
    (fun _ member _ hu => ⟨hu.1.deliver f closing fun e => others (e ▸ member),
      hu.2.trans (hu.2.calm.deliver hu.1 f closing fun e => others (e ▸ member))⟩) ⟨h, .of_eq calm rfl rfl rfl rfl⟩).2

end Sys2Proof.Machine
end

section
/-! SUPPORT. The order of a frame step read from the elements, and the trip that it comes to where it is taken. -/

namespace Sys2Proof.Machine

/-! ### The order, element by element (R16, R18, R19) -/

section

variable {s : State} {f : MeasFields}

/-- With no release test put off, the elements that have arrived are those at F that were below it. -/
theorem State.stepArrived_anySet (phase : s.ocu.phase.releaseDue = false) (ground : s.ocu.ground.releaseDue = false) :
    (s.stepArrived f).anySet = true ↔
      ((s.stepFull f).a = true ∧ s.ocu.elems.a.acc < 1048576) ∨ ((s.stepFull f).b = true ∧ s.ocu.elems.b.acc < 1048576) ∨
        ((s.stepFull f).c = true ∧ s.ocu.elems.c.acc < 1048576) ∨ ((s.stepFull f).g = true ∧ s.ocu.elems.g.acc < 1048576) := by
  rw [State.stepArrived_eq, phase, ground]
  simp [PerElem.anySet, and_comm, or_assoc]

/-- The elements that an order names, from the elements at F and the instantaneous counts. -/
theorem State.stepNamed_eq {timed : ElementSet} (phase : s.ocu.phase.releaseDue = false) (ground : s.ocu.ground.releaseDue = false)
    (isTimed : timed =
      (if ((s.stepFull f).a = true ∧ s.ocu.elems.a.acc < 1048576) ∨ ((s.stepFull f).b = true ∧ s.ocu.elems.b.acc < 1048576) ∨
          ((s.stepFull f).c = true ∧ s.ocu.elems.c.acc < 1048576) ∨ ((s.stepFull f).g = true ∧ s.ocu.elems.g.acc < 1048576)
        then s.stepFull f else noElements)) :
    s.stepNamed f =
      { a := timed.a || (s.stepInst f).a
        b := timed.b || (s.stepInst f).b
        c := timed.c || (s.stepInst f).c
        g := timed.g || (s.stepInst f).g } := by
  have same : timed = if (s.stepArrived f).anySet then s.stepFull f else noElements := by
    rw [isTimed]
    exact if_congr (State.stepArrived_anySet phase ground).symm rfl rfl
  rw [State.stepNamed, ← same]
  rfl

theorem PerElem.anySet_iff {e : ElementSet} : e.anySet = true ↔ e ≠ noElements := by
  obtain ⟨a, b, c, g⟩ := e
  cases a <;> cases b <;> cases c <;> cases g <;> decide

/-- The largest of the values of the elements named. -/
theorem PerElem.maxOver_eq (e : PerElem Nat) (which : ElementSet) :
    e.maxOver which =
      max (max (if which.a = true then e.a else 0) (if which.b = true then e.b else 0))
        (max (if which.c = true then e.c else 0) (if which.g = true then e.g else 0)) := by
  simp only [PerElem.maxOver, PerElem.zip, PerElem.toList, List.foldl_cons, List.foldl_nil, Nat.zero_max, max_assoc]

/-! ### What a first pickup leaves of the order's trip (R12, R26) -/

/-- The finality of a trip, its conditions one after another (R26). -/
theorem State.finality_eq (s : State) (shots : Nat) :
    s.finality shots =
      if s.tagInForce = true then some .tagged
      else if s.btu.reserve = .critical then some .battery
      else if s.mfp.lost = true then some .measurement
      else if s.sqc.startHold ≠ none then some .startHold
      else if s.sqc.manualWindow ≠ none then some .manualClose
      else if shots = s.cfg.tripsToLockout then some .shots
      else none := by
  simp only [State.finality, State.startHoldOn, beq_iff_eq, Option.isSome_iff_ne_none]

/-- A first pickup leaves what decides on an order and its trip. -/
theorem State.noticed_takes (s : State) (f : MeasFields) (o : TripOrder) :
    (s.noticed f).sqc.takes = s.sqc.takes ∧ (s.noticed f).takesLockout = s.takesLockout ∧
      (s.noticed f).shotsTaken = s.shotsTaken ∧ (s.noticed f).tripOf o = s.tripOf o := by
  obtain ⟨⟨memory, sqc⟩, -, cdu, tgu, mfp, -, cfg, reserve⟩ := s.noticed_keeps f
  have takes : (s.noticed f).sqc.takes = s.sqc.takes := by rw [sqc]; rfl
  have shots : (s.noticed f).shotsTaken = s.shotsTaken := by rw [State.shotsTaken, takes, cfg, sqc]; rfl
  have final : (s.noticed f).finality s.shotsTaken = s.finality s.shotsTaken := by
    rw [State.finality_eq, State.finality_eq, State.tagInForce, State.tagInForce, tgu, reserve, mfp, sqc, cfg]
  refine ⟨takes, ?_, shots, ?_⟩
  · rw [State.takesLockout, State.position, sqc, cdu]
    rfl
  · rw [State.tripOf, takes, shots, final, sqc]
    rfl

/-- With no test running a first pickup writes no record. -/
theorem State.noticed_rcs (quiet : s.quietTest) : (s.noticed f).rcs = s.rcs := by
  unfold State.noticed
  split
  · rw [State.firstPickup, State.abandonTest_of_quiet (by simpa [State.quietTest, State.sqcFirstPickup, State.stepped] using quiet)]
    simp [State.sqcFirstPickup, State.stepped]
  · rfl

/-- With an element PICKED before there is no first pickup. -/
theorem State.noticed_picked (picked : ∃ e ∈ s.ocu.elems.toList, e.picked = true) : s.noticed f = s.stepped f := by
  have was : (s.ocu.elems.map (·.picked)).anySet = true := by
    by_contra none
    rw [Bool.not_eq_true, ← forall_unpicked_iff] at none
    obtain ⟨e, member, isPicked⟩ := picked
    rw [none e member] at isPicked
    exact absurd isPicked (by decide)
  have first : (s.computeStep f).first = false := by
    simp only [State.computeStep, was, Bool.not_true, Bool.false_and]
  rw [State.noticed, first, if_neg (by decide)]

/-! ### An order taken (R26 to R28) -/

/-- The station with the order's marks set and s raised, its trip not begun. -/
def State.orderTaken (s : State) (f : MeasFields) : State :=
  ((s.noticed f).withOcu fun u => u.marked (s.stepOrder f)).raised

variable (named : (s.stepNamed f).anySet = true) (takes : s.sqc.takes = true ∨ s.takesLockout = true)

include named takes

theorem State.frameStep_begins : s.frameStep f = (s.orderTaken f).beginTrip (s.tripOf (s.stepOrder f)) := by
  obtain ⟨taken, lockout, -, trip⟩ := s.noticed_takes f (s.stepOrder f)
  have takes' : (s.noticed f).sqc.takes = true ∨ (s.noticed f).takesLockout = true := by rwa [taken, lockout]
  rw [State.frameStep_taken named takes', State.raiseOrder_taken takes', trip]
  rfl

/-- The SQC and the OCU after an order taken. -/
theorem State.frameStep_trips :
    (s.frameStep f).sqc =
        { s.sqc.moved .tripping none with
          shots := s.shotsTaken, trip := some (s.tripOf (s.stepOrder f)), manualWindow := none } ∧
      (s.frameStep f).ocu = (s.stepped f).ocu.marked (s.stepOrder f) := by
  obtain ⟨taken, lockout, shots, trip⟩ := s.noticed_takes f (s.stepOrder f)
  obtain ⟨⟨memory, sqc⟩, ocu, -⟩ := s.noticed_keeps f
  have takes' : (s.noticed f).sqc.takes = true ∨ (s.noticed f).takesLockout = true := by rwa [taken, lockout]
  obtain ⟨sqc', ocu'⟩ := State.raiseOrder_trips takes' (s.stepOrder f)
  rw [State.frameStep_taken named takes', sqc', ocu', shots, trip, ocu, sqc]
  exact ⟨rfl, rfl⟩

theorem State.frameStep_inTripping (queue : s.chc.queue = []) : (s.frameStep f).Trips := by
  obtain ⟨sqc, -⟩ := State.frameStep_trips named takes
  exact ⟨by rw [sqc]; rfl, by rw [sqc]; rfl, by rw [State.frameStep_queue, queue]⟩

/-- The trip request and its pulse after an order taken that finds neither (R55, R61). -/
theorem State.frameStep_tripPart (request : s.cdu.tripRequest = .none) (pulse : s.cdu.pulse ≠ .trip) (owed : s.cdu.tripOwed = false) :
    (s.cdu.tripReady = true →
      (s.frameStep f).cdu.tripPart = firstPulse s.cfg.tripWidth (s.cdu.closeRequest && decide (s.cdu.pulse ≠ Pulse.close))) ∧
    (s.cdu.tripReady = false →
      ∃ timer window, (s.frameStep f).cdu.tripPart =
        waitingTrip s.cdu.tripSpent (s.cdu.closeRequest && decide (s.cdu.pulse ≠ Pulse.close)) timer window) := by
  obtain ⟨-, -, cdu, -, -, -, cfg, -⟩ := s.noticed_keeps f
  have ordered : ((s.orderTaken f).tripping (s.tripOf (s.stepOrder f))).cdu = s.cdu :=
    ((s.orderTaken f).enterSeq_tripping_cdu).trans cdu
  have ordered' : ((s.orderTaken f).tripping (s.tripOf (s.stepOrder f))).cfg = s.cfg := by
    refine .trans ?_ cfg
    simp [State.tripping, State.orderTaken, State.raised, State.cfg]
  rw [State.frameStep_begins named takes, State.beginTrip_cdu, ← ordered']
  rw [← ordered] at request pulse owed ⊢
  exact State.cduTripOrder_part request pulse owed

/-- The records of an order taken with no test running (R61, R164; log 6). -/
theorem State.frameStep_tripRecords (quiet : s.quietTest) :
    (s.frameStep f).rcs =
      s.withRecords
        ((if s.cdu.pulse = .close then [{ kind := .tripFree, shots := some s.shotsTaken }] else []) ++
          [tripRecord (s.tripOf (s.stepOrder f)) s.shotsTaken]) := by
  obtain ⟨-, -, shots, -⟩ := s.noticed_takes f (s.stepOrder f)
  obtain ⟨-, -, cdu, -, -, now, -⟩ := s.noticed_keeps f
  have quiet' : (s.orderTaken f).quietTest := (s.stepped_reaches_noticed (d := false) f).quietTest quiet
  have raised : (s.orderTaken f).sqc.shots = s.shotsTaken := shots
  have same (bodies : List RecordBody) : (s.orderTaken f).withRecords bodies = s.withRecords bodies :=
    State.withRecords_append s (s.orderTaken f) now [] bodies (State.noticed_rcs quiet)
  rw [State.frameStep_begins named takes, State.beginTrip_rcs quiet', same, raised,
    show (s.orderTaken f).cdu.pulse = s.cdu.pulse from congrArg Cdu.pulse cdu]

/-- The TRIP report of an order taken with no test running and no first pickup (R115). -/
theorem State.frameStep_tripReport (quiet : s.quietTest) (picked : ∃ e ∈ s.ocu.elems.toList, e.picked = true) :
    Reports s (s.frameStep f) [(.trip, tripPayload (s.tripOf (s.stepOrder f)) false (s.frameStep f).ocu.longestRun)] := by
  have quiet' : (s.orderTaken f).quietTest := (s.stepped_reaches_noticed (d := false) f).quietTest quiet
  have cause : (s.tripOf (s.stepOrder f)).cause ≠ .operator := by
    show (if s.tagInForce then TripCause.tagProfile else if (s.stepInst f).anySet then .inst else .time) ≠ .operator
    split
    · decide
    · split <;> decide
  have run : (s.frameStep f).ocu.longestRun = (s.orderTaken f).ocu.longestRun := by
    rw [(State.frameStep_trips named takes).2, State.orderTaken, State.noticed_picked picked]
    rfl
  rw [run, State.frameStep_begins named takes]
  refine (State.beginTrip_reports quiet' cause).of_parts ?_ rfl
  rw [State.orderTaken, State.noticed_picked picked]
  rfl

end

/-- Reports built, seen after a later move of the LFSR. -/
theorem Reports.withLfsr {s t t' : State} {reports : List (ReportKind × List Byte)} (h : Reports s t reports) (pru : t'.pru = t.pru)
    (chc : t'.chc = { t.chc with lfsr := t'.chc.lfsr }) :
    Reports (s.withChc fun c => { c with lfsr := t'.chc.lfsr }) t' reports := by
  obtain ⟨counted, unset, fits, full⟩ := h
  refine ⟨pru.trans counted, fun id => ?_, fun id room => ?_, fun r one id room => ?_⟩
  · rw [chc, unset id]
    rfl
  · rw [chc, fits id room]
    rfl
  · rw [chc, full r one id room]
    rfl

end Sys2Proof.Machine
end

section
/-! SUPPORT. A whole frame whose OCU raises an order: the frame step first, then the deliveries that find the trip begun. -/

namespace Sys2Proof.Machine

section

variable {s : State} {f : MeasFields} {closing : Bool} {later : List Delivery} (named : (s.stepNamed f).anySet = true)
  (takes : s.sqc.takes = true ∨ s.takesLockout = true) (queue : s.chc.queue = []) (others : Delivery.ocu ∉ later)

include named takes queue others

/-- The SQC and the OCU after the frame: the trip stands, the order's marks are set. -/
theorem State.frame_trips :
    ∃ source, ((s.frameStep f).delivered f closing later).sqc =
        { s.sqc.moved .tripping none with
          shots := s.shotsTaken, trip := some (s.tripOf (s.stepOrder f)), manualWindow := none, sourcePresent := source } ∧
      ((s.frameStep f).delivered f closing later).ocu = (s.stepped f).ocu.marked (s.stepOrder f) := by
  obtain ⟨sqc, ocu⟩ := State.frameStep_trips named takes
  have trips := State.frameStep_inTripping named takes queue
  obtain ⟨passed, -⟩ := State.delivered_bypasses trips.queue f closing others
  refine ⟨((s.frameStep f).delivered f closing later).sqc.sourcePresent, ?_, passed.ocu.trans ocu⟩
  exact (passed.within trips.seq trips.memory).trans (by rw [sqc])

/-- The trip request and its pulse after the frame (R50, R55, R61). -/
theorem State.frame_tripPart (nodup : later.Nodup) (member : Delivery.cdu ∈ later) (request : s.cdu.tripRequest = .none)
    (pulse : s.cdu.pulse ≠ .trip) (owed : s.cdu.tripOwed = false) {closeRequest : Bool}
    (close : closeRequest = (s.cdu.closeRequest && decide (s.cdu.pulse ≠ Pulse.close))) :
    (s.cdu.tripReady = true →
      ((s.frameStep f).delivered f closing later).cdu.tripPart = firstPulse s.cfg.tripWidth closeRequest) ∧
    (s.cdu.tripReady = false →
      ∃ timer window, ((s.frameStep f).delivered f closing later).cdu.tripPart =
        if 240 ≤ f.tripV ∧ (s.cdu.tripSpent && window.isSome) = false then firstPulse s.cfg.tripWidth closeRequest
        else waitingTrip (s.cdu.tripSpent && window.isSome) closeRequest timer window) := by
  obtain ⟨u, seq, cfg, before, after⟩ :=
    (State.frameStep_inTripping named takes queue).delivered_tripPart f closing nodup others member
  obtain ⟨ready, unready⟩ := State.frameStep_tripPart named takes request pulse owed
  have cfg : u.cfg = s.cfg := cfg.trans (by simp [State.cfg])
  rw [after]
  refine ⟨fun isReady => ?_, fun isNot => ?_⟩
  · rw [ready isReady, ← close] at before
    exact State.deliverVoltages_pulsing seq _ _ _ before
  · obtain ⟨timer, window, waits⟩ := unready isNot
    rw [waits, ← close] at before
    exact ⟨timer, window, by rw [State.deliverVoltages_waiting seq _ _ _ before, cfg]⟩

/-- The records and the report of the frame, with no test running, AC present and NORMAL. -/
theorem State.frame_calm (calm : s.Calm) :
    ((s.frameStep f).delivered f closing later).rcs =
        s.withRecords
          ((if s.cdu.pulse = .close then [{ kind := .tripFree, shots := some s.shotsTaken }] else []) ++
            [tripRecord (s.tripOf (s.stepOrder f)) s.shotsTaken]) ∧
      ((∃ e ∈ s.ocu.elems.toList, e.picked = true) →
        Reports (s.withChc fun c => { c with lfsr := ((s.frameStep f).delivered f closing later).chc.lfsr })
          ((s.frameStep f).delivered f closing later)
          [(.trip, tripPayload (s.tripOf (s.stepOrder f)) false ((s.frameStep f).delivered f closing later).ocu.longestRun)]) := by
  have trips := State.frameStep_inTripping named takes queue
  have reached := s.stepped_reaches_frameStep (d := false) f
  have calm' : (s.frameStep f).Calm :=
    ⟨reached.quietTest calm.quiet, reached.acPresent.trans calm.acPresent, (reached.reserve rfl).trans calm.reserve⟩
  obtain ⟨-, rcs, pru, chc⟩ := calm'.delivered trips f closing others
  obtain ⟨passed, -⟩ := State.delivered_bypasses trips.queue f closing others
  refine ⟨rcs.trans (State.frameStep_tripRecords named takes calm.quiet), fun picked => ?_⟩
  rw [passed.ocu]
  exact (State.frameStep_tripReport named takes calm.quiet picked).withLfsr pru chc

end

/-! ### The CDU with a trip pulse begun, and with a request that waits (R54, R55) -/

theorem Cdu.firstPulse_fields {c : Cdu} {width : Nat} {closeRequest : Bool} (part : c.tripPart = firstPulse width closeRequest) :
    (c.closeRequest = closeRequest ∧ c.withdrawn = false) ∧ c.pulse = .trip ∧ c.pulseTimer = some width ∧ c.tripWindow = some 100 ∧
      c.tripRequest = .first ∧ c.tripWait = none ∧ c.tripSpent = true ∧ c.tripReady = false := by
  simp only [Cdu.tripPart, firstPulse, TripPart.mk.injEq] at part
  obtain ⟨request, pulse, timer, window, wait, spent, ready, -, withdrawn, close⟩ := part
  exact ⟨⟨close, withdrawn⟩, pulse, timer, window, request, wait, spent, ready⟩

theorem Cdu.waitingTrip_fields {c : Cdu} {spent closeRequest : Bool} {timer window : Timer}
    (part : c.tripPart = waitingTrip spent closeRequest timer window) :
    (c.closeRequest = closeRequest ∧ c.withdrawn = false) ∧ c.pulse = .none ∧ c.tripRequest = .wait ∧ c.tripWait = some 2000 := by
  simp only [Cdu.tripPart, waitingTrip, TripPart.mk.injEq] at part
  obtain ⟨request, pulse, -, -, wait, -, -, -, withdrawn, close⟩ := part
  exact ⟨⟨close, withdrawn⟩, pulse, request, wait⟩

/-! ### The order and its trip as the statement reads them -/

/-- The states that take an order (R27). -/
theorem Sqc.takes_eq (q : Sqc) :
    q.takes = (decide (q.seq = .ready) || decide (q.seq = .resetTiming) || (decide (q.seq = .closing) && q.closeBegun)) := by
  rfl

/-- A closed state takes every order. -/
theorem Sqc.not_closed_of_refuses {q : Sqc} (refuses : q.takes = false) : q.seq.isClosed = false := by
  rw [Sqc.takes_eq] at refuses
  cases seq : q.seq <;> simp_all [SeqState.isClosed]

/-- The state that takes a lockout trip: LOCKOUT with the breaker Closed (R28). -/
theorem State.takesLockout_eq (s : State) :
    s.takesLockout = (decide (s.sqc.seq = .lockout) && s.cdu.closedMade && !s.cdu.openMade) := by
  have closed : (s.position == .closed) = (s.cdu.closedMade && !s.cdu.openMade) := by
    rw [State.position]
    cases s.cdu.closedMade <;> cases s.cdu.openMade <;> rfl
  rw [State.takesLockout, closed, Bool.and_assoc]
  rfl

/-- The trip of a frame step's order, field by field (R19, R26 to R28). -/
theorem State.tripOf_stepOrder (s : State) (f : MeasFields) :
    s.tripOf (s.stepOrder f) =
      { cause :=
          if s.tagInForce = true then .tagProfile
          else if s.stepInst f = { a := false, b := false, c := false, g := false } then .time else .inst
        elements := s.stepNamed f
        peak :=
          max
            (max (if (s.stepNamed f).a = true then (s.computeStep f).elems.a.peak else 0)
              (if (s.stepNamed f).b = true then (s.computeStep f).elems.b.peak else 0))
            (max (if (s.stepNamed f).c = true then (s.computeStep f).elems.c.peak else 0)
              (if (s.stepNamed f).g = true then (s.computeStep f).elems.g.peak else 0))
        number := if s.sqc.takes = true then min s.cfg.tripsToLockout (s.sqc.shots + 1) else s.sqc.shots
        finalReason :=
          if s.sqc.takes = false then s.sqc.reason
          else if s.tagInForce = true then some .tagged
          else if s.btu.reserve = .critical then some .battery
          else if s.mfp.lost = true then some .measurement
          else if s.sqc.startHold ≠ none then some .startHold
          else if s.sqc.manualWindow ≠ none then some .manualClose
          else if min s.cfg.tripsToLockout (s.sqc.shots + 1) = s.cfg.tripsToLockout then some .shots
          else none } := by
  have cause : (s.stepOrder f).cause =
      if s.tagInForce = true then .tagProfile
      else if s.stepInst f = { a := false, b := false, c := false, g := false } then .time else .inst := by
    by_cases inst : s.stepInst f = noElements
    · rw [State.stepOrder, inst]
      rfl
    · rw [State.stepOrder, PerElem.anySet_iff.mpr inst,
        if_neg (show ¬s.stepInst f = { a := false, b := false, c := false, g := false } from inst)]
      rfl
  have peak := PerElem.maxOver_eq ((s.computeStep f).elems.map Element.peak) (s.stepNamed f)
  rw [State.tripOf, cause, show (s.stepOrder f).peak = _ from peak]
  cases takes : s.sqc.takes with
  | true =>
    rw [State.shotsTaken, takes, State.finality_eq]
    rfl
  | false =>
    rw [State.shotsTaken, takes]
    rfl

end Sys2Proof.Machine

/-! ### The statement -/

open Sys2Proof.Machine in
/-- Settles O20: the frame step by whether it names an element and whether its order is taken, and the deliveries after it. -/
theorem ordersOfAFrameStep : Obligations.OrdersOfAFrameStep := by
  intro s bits bytes order on brings good queue phaseDue groundDue
  obtain ⟨later, run, others, nodup, all, -⟩ := exec_ocuFirst on brings good order
  refine ⟨_, run, ?_⟩
  have member : Sys2Proof.Delivery.cdu ∈ later := all .cdu (by decide) (by decide)
  generalize measFields bytes = f
  obtain ⟨passed, -⟩ := State.delivered_bypasses (s := (s.arrival f).frameStep f) (by rw [State.frameStep_queue]; exact queue) f
    (s.cdu.pulse == .close) others
  have elems : (((s.arrival f).frameStep f).delivered f (s.cdu.pulse == .close) later).ocu.elems = ((s.arrival f).computeStep f).elems := by
    rw [passed.ocu, State.frameStep_elems]
  rw [elems]
  intro full timed inst named isFull isTimed isInst isNamed taken lockoutTrip trip isTaken isLockout isTrip
  obtain rfl : full = (s.arrival f).stepFull f := isFull.trans ((s.arrival f).stepFull_eq f).symm
  obtain rfl : inst = (s.arrival f).stepInst f := isInst.trans ((s.arrival f).stepInst_eq f).symm
  obtain rfl : named = (s.arrival f).stepNamed f :=
    isNamed.trans (State.stepNamed_eq (s := s.arrival f) (f := f) phaseDue groundDue isTimed).symm
  have isTaken : taken = (s.arrival f).sqc.takes := isTaken.trans (Sqc.takes_eq _).symm
  have isLockout : lockoutTrip = (s.arrival f).takesLockout := isLockout.trans (State.takesLockout_eq _).symm
  have isTrip : trip = (s.arrival f).tripOf ((s.arrival f).stepOrder f) := by
    rw [isTrip, isTaken]
    exact ((s.arrival f).tripOf_stepOrder f).symm
  have number : trip.number = (s.arrival f).shotsTaken := by rw [isTrip]; rfl
  refine ⟨fun nothing => ?_, fun untaken noLockout => ?_, fun something takes => ?_⟩
  · have unnamed : ((s.arrival f).stepNamed f).anySet = false := by rw [nothing]; rfl
    obtain ⟨sameTrip, seq, -⟩ := State.frameStep_unnamed unnamed
    exact ⟨passed.trip.trans sameTrip, fun elsewhere => passed.outside (seq elsewhere)⟩
  · rw [isTaken] at untaken
    rw [isLockout] at noLockout
    obtain ⟨sameTrip, shots⟩ := State.frameStep_refused (f := f) untaken noLockout
    refine ⟨passed.shots.trans (shots (Sqc.not_closed_of_refuses untaken)), passed.trip.trans sameTrip⟩
  · have named := PerElem.anySet_iff.mpr something
    rw [isTaken, isLockout] at takes
    obtain ⟨source, sqc, ocu⟩ := State.frame_trips (closing := s.cdu.pulse == .close) named takes queue others
    have current : (((s.arrival f).frameStep f).delivered f (s.cdu.pulse == .close) later).sqc.trip = some trip := by
      rw [sqc, isTrip]
    refine ⟨by rw [sqc]; rfl, by rw [sqc, number], current, by rw [sqc]; rfl, by rw [sqc], by rw [sqc]; rfl, by rw [sqc]; rfl,
      by rw [ocu]; rfl, by rw [ocu, Bool.or_assoc, Bool.or_assoc, ← Bool.or_assoc ((s.arrival f).stepNamed f).a]; rfl, by rw [ocu]; rfl,
      fun request pulse owed => ?_, fun quiet ac reserve => ?_⟩
    · obtain ⟨ready, unready⟩ := State.frame_tripPart (s := s.arrival f) (closing := s.cdu.pulse == .close) named takes queue others
        nodup member request pulse owed rfl
      cases isReady : s.cdu.tripReady with
      | true =>
        obtain ⟨⟨close, withdrawn⟩, begun⟩ := Cdu.firstPulse_fields (ready isReady)
        exact ⟨close, withdrawn, fun _ => begun, nofun⟩
      | false =>
        obtain ⟨timer, window, part⟩ := unready isReady
        split at part
        · next serves =>
          obtain ⟨⟨close, withdrawn⟩, begun⟩ := Cdu.firstPulse_fields part
          exact ⟨close, withdrawn, fun _ => begun, fun _ low => absurd low serves.1.not_gt⟩
        · next lasts =>
          obtain ⟨⟨close, withdrawn⟩, waits⟩ := Cdu.waitingTrip_fields part
          refine ⟨close, withdrawn, fun serves => ?_, fun _ _ => waits⟩
          obtain ⟨unspent, level⟩ := serves.resolve_left (by decide)
          exact absurd ⟨level, by rw [show (s.arrival f).cdu.tripSpent = false from unspent, Bool.false_and]⟩ lasts
    · obtain ⟨records, report⟩ := State.frame_calm (closing := s.cdu.pulse == .close) named takes queue others
        (State.Calm.mk (s := s.arrival f) quiet ac reserve)
      rw [number, isTrip]
      exact ⟨records, report⟩

end

section
/-! SUPPORT. What every operation leaves of the sequence's soundness, of a close pulse in progress and of the operations count: a
relation between the state before and the state after, with one lemma for each operation that touches the SQC or the CDU. -/

namespace Sys2Proof.Machine

/-! ### A sound sequence, state by state (2.1) -/

/-- s counts trips below N (R27, R32). -/
def Sqc.Counts (q : Sqc) (limit : Nat) : Prop := 1 ≤ q.shots ∧ q.shots < limit

/-- What stands in each sequence state: s, the current trip, the lockout reason and the timers (2.1, R25, R27, R32, R34, R37). -/
def Sqc.Stands (q : Sqc) (limit : Nat) : Prop :=
  match q.seq with
  | .ready => q.shots = 0 ∧ q.reason = none ∧ q.reclose = none ∧ q.charge = none ∧ q.reset = none
  | .resetTiming => q.Counts limit ∧ q.reason = none ∧ q.reclose = none ∧ q.charge = none
  | .tripping =>
    (∃ t, q.trip = some t ∧ (t.finalReason = none → q.Counts limit)) ∧ q.reason = none ∧ q.reclose = none ∧
      q.charge = none ∧ q.reset = none
  | .recloseWait => q.Counts limit ∧ q.reason = none ∧ q.charge = none ∧ q.reset = none
  | .closeCharge => q.Counts limit ∧ q.reason = none ∧ q.reclose = none ∧ q.reset = none
  | .closing => (q.closeKind = .automatic → q.Counts limit) ∧ q.reason = none ∧ q.reclose = none ∧ q.reset = none
  | .lockout => q.reason.isSome = true ∧ q.reclose = none ∧ q.charge = none ∧ q.reset = none
  | .breakerFail => q.reason.isSome = true ∧ q.reclose = none ∧ q.charge = none ∧ q.reset = none

/-- The SQC is sound under a limit N. -/
def Sqc.Sound (q : Sqc) (limit : Nat) : Prop := 1 ≤ limit ∧ q.shots ≤ limit ∧ q.Stands limit

/-- A sound sequence, read state by state. -/
theorem State.sequenceSound_iff (s : State) : s.SequenceSound ↔ s.sqc.Sound s.svp.settings.tripsToLockout := by
  constructor
  · rintro ⟨limit, shots, ready, counting, tripping, reason, reclose, charge, reset⟩
    refine ⟨limit, shots, ?_⟩
    unfold Sqc.Stands Sqc.Counts
    split <;> simp_all [State.cfg, Option.isSome_iff_ne_none]
  · rintro ⟨limit, shots, stands⟩
    unfold Sqc.Stands Sqc.Counts at stands
    split at stands <;> constructor <;> simp_all [State.cfg]

/-! ### The relation -/

/-- A close pulse that the SQC has ordered in CLOSING, as it stands while no station time passes (R33, R41, R54, R60). -/
structure State.ClosePulse (s : State) : Prop where
  begun : s.sqc.closeBegun = true
  seq : s.sqc.seq = .closing
  spent : s.cdu.closeSpent = true
  unready : s.cdu.closeReady = false
  window : s.cdu.closeWindow = some 200
  timer : s.cdu.pulseTimer = some s.svp.settings.closeWidth

/-- What the laws read of the CDU: the pulse, the close capacitor and its window, and the operations count. -/
def Cdu.closeView (c : Cdu) : Pulse × Bool × Bool × Timer × Timer × Word32 × Bool :=
  (c.pulse, c.closeSpent, c.closeReady, c.closeWindow, c.pulseTimer, c.operations, c.lastClosed)

/-- An operation that begins no close pulse: it keeps a sound sequence sound, counts no operation and leaves the close kind and
start hold. `keeps` tells whether a close pulse in progress in CLOSING stands as it stood too, unless it was ended. -/
structure State.Carries (keeps : Bool) (s t : State) : Prop where
  settings : t.svp.settings = s.svp.settings
  kind : t.sqc.closeKind = s.sqc.closeKind
  startHold : t.sqc.startHold = s.sqc.startHold
  operations : t.cdu.operations = s.cdu.operations
  lastClosed : t.cdu.lastClosed = s.cdu.lastClosed
  sequence : s.SequenceSound → t.SequenceSound
  pulse : t.cdu.pulse = .close → s.cdu.pulse = .close
  held : keeps = true → t.cdu.pulse = .close → s.ClosePulse → t.ClosePulse

/-- The parts of a state that the laws read. -/
def State.lawView (s : State) : Sqc × Cdu × Settings := (s.sqc, s.cdu, s.svp.settings)

theorem State.SequenceSound.of_sqc {s t : State} (h : s.SequenceSound) (sqc : t.sqc = s.sqc)
    (settings : t.svp.settings = s.svp.settings) : t.SequenceSound := by
  rw [State.sequenceSound_iff] at h ⊢
  rwa [sqc, settings]

theorem State.not_closePulse {s : State} (seq : s.sqc.seq ≠ .closing) : ¬s.ClosePulse := fun c => seq c.seq

namespace State.Carries

variable {d : Bool} {r s t : State}

@[refl] theorem refl (s : State) : s.Carries d s := ⟨rfl, rfl, rfl, rfl, rfl, id, id, fun _ _ => id⟩

theorem trans (h : r.Carries d s) (k : s.Carries d t) : r.Carries d t where
  settings := k.settings.trans h.settings
  kind := k.kind.trans h.kind
  startHold := k.startHold.trans h.startHold
  operations := k.operations.trans h.operations
  lastClosed := k.lastClosed.trans h.lastClosed
  sequence := k.sequence ∘ h.sequence
  pulse := h.pulse ∘ k.pulse
  held hd hp hc := k.held hd hp (h.held hd (k.pulse hp) hc)

/-- An operation beside the SQC. -/
theorem of_cdu (sqc : t.sqc = s.sqc) (settings : t.svp.settings = s.svp.settings)
    (view : t.cdu.closeView = s.cdu.closeView) : s.Carries d t := by
  simp only [Cdu.closeView, Prod.mk.injEq] at view
  obtain ⟨pulse, spent, ready, window, timer, operations, lastClosed⟩ := view
  refine ⟨settings, by rw [sqc], by rw [sqc], operations, lastClosed, fun h => h.of_sqc sqc settings, by rw [pulse]; exact id,
    fun _ _ c => ?_⟩
  exact ⟨by rw [sqc, c.begun], by rw [sqc, c.seq], by rw [spent, c.spent], by rw [ready, c.unready], by rw [window, c.window],
    by rw [timer, settings, c.timer]⟩

/-- An operation beside the SQC and the CDU. -/
theorem of_view (view : t.lawView = s.lawView) : s.Carries d t := by
  simp only [State.lawView, Prod.mk.injEq] at view
  obtain ⟨sqc, cdu, settings⟩ := view
  exact of_cdu sqc settings (by rw [cdu])

/-- A further operation beside the SQC and the CDU. -/
theorem keep (h : r.Carries d s) (view : t.lawView = s.lawView) : r.Carries d t := h.trans (of_view view)

/-- An earlier operation beside the SQC and the CDU. -/
theorem before (k : s.Carries d t) (view : s.lawView = r.lawView) : r.Carries d t := (of_view view).trans k

/-- An operation that ends with no close pulse in progress. -/
theorem of_unclosed (settings : t.svp.settings = s.svp.settings)
    (kind : (t.sqc.closeKind, t.sqc.startHold) = (s.sqc.closeKind, s.sqc.startHold))
    (counted : (t.cdu.operations, t.cdu.lastClosed) = (s.cdu.operations, s.cdu.lastClosed))
    (sequence : s.SequenceSound → t.SequenceSound) (pulse : t.cdu.pulse ≠ .close) : s.Carries d t := by
  simp only [Prod.mk.injEq] at kind counted
  exact ⟨settings, kind.1, kind.2, counted.1, counted.2, sequence, fun h => absurd h pulse, fun _ h => absurd h pulse⟩

/-- An operation of the SQC that leaves the pulse alone. -/
theorem of_sqc (settings : t.svp.settings = s.svp.settings)
    (kind : (t.sqc.closeKind, t.sqc.startHold) = (s.sqc.closeKind, s.sqc.startHold))
    (view : t.cdu.closeView = s.cdu.closeView) (sequence : s.SequenceSound → t.SequenceSound)
    (stays : d = true → s.sqc.closeBegun = true → s.sqc.seq = .closing → t.sqc.closeBegun = true ∧ t.sqc.seq = .closing) :
    s.Carries d t := by
  simp only [Cdu.closeView, Prod.mk.injEq] at kind view
  obtain ⟨pulse, spent, ready, window, timer, operations, lastClosed⟩ := view
  refine ⟨settings, kind.1, kind.2, operations, lastClosed, sequence, by rw [pulse]; exact id, fun hd _ c => ?_⟩
  obtain ⟨begun, seq⟩ := stays hd c.begun c.seq
  exact ⟨begun, seq, by rw [spent, c.spent], by rw [ready, c.unready], by rw [window, c.window], by rw [timer, settings, c.timer]⟩

theorem onlyIf {c : Bool} {f : State → State} (hf : c = true → s.Carries d (f s)) : s.Carries d (s.onlyIf c f) := by
  cases c with
  | false => exact refl s
  | true => exact hf rfl

theorem withCdu {f : Cdu → Cdu} (view : (f s.cdu).closeView = s.cdu.closeView) : s.Carries d (s.withCdu f) :=
  of_cdu rfl rfl view

variable (s)

/-! ### The coils (R50 to R61) -/

theorem refreshCharge : s.Carries d s.refreshCharge := of_cdu rfl rfl rfl

theorem endTripRequest : s.Carries d s.endTripRequest := withCdu rfl

theorem withdrawTrip : s.Carries d s.withdrawTrip := by
  unfold State.withdrawTrip
  split
  · exact refl s
  · exact endTripRequest s
  · exact endTripRequest s
  · exact withCdu rfl

theorem endPulse : s.Carries d s.endPulse := of_unclosed rfl rfl rfl (fun h => h.of_sqc rfl rfl) nofun

theorem beginTripPulse (request : TripRequest) : s.Carries d (s.beginTripPulse request) :=
  of_unclosed rfl rfl rfl (fun h => h.of_sqc rfl rfl) nofun

theorem preempt : s.Carries d s.preempt :=
  onlyIf fun _ => of_unclosed rfl rfl rfl (fun h => h.of_sqc rfl rfl) nofun

end State.Carries

/-- No close pulse outlasts pre-emption (R61). -/
theorem State.preempt_pulse (s : State) : s.preempt.cdu.pulse ≠ .close := by
  unfold State.preempt State.onlyIf
  split
  · nofun
  · next other => simpa using other

theorem State.cduTripOrder_pulse (s : State) : s.cduTripOrder.cdu.pulse ≠ .close := by
  have freed := s.preempt_pulse
  unfold State.cduTripOrder
  simp only
  repeat' split
  · nofun
  · exact freed
  · exact freed
  · exact freed

namespace State.Carries

variable {d : Bool} (s : State)

theorem cduTripOrder : s.Carries d s.cduTripOrder := by
  have freed : s.Carries d s.preempt := preempt s
  unfold State.cduTripOrder
  simp only
  repeat' split
  · exact (freed.trans (withCdu rfl)).trans (beginTripPulse _ _)
  · exact (freed.trans (withCdu rfl)).trans (withCdu rfl)
  · exact freed.trans (withCdu rfl)
  · exact freed.trans (withCdu rfl)

theorem cduAttemptOrder : s.Carries d s.cduAttemptOrder := onlyIf fun _ => beginTripPulse s _

end State.Carries

/-! ### Entries to a sequence state -/

/-- An entry leaves the pulse, the close capacitor and the operations count as they stand. -/
theorem State.enterSeq_closeView (s : State) (new : SeqState) : (s.enterSeq new).cdu.closeView = s.cdu.closeView := by
  rw [State.enterSeq_eq, State.onlyIf_cdu, (State.abandonTest_frame _ _).2.2.2.2.1, ite_self]
  unfold State.entering
  cases new.isClosed <;> cases new.clearsBar <;> rfl

/-- An entry to LOCKOUT keeps a sound sequence sound (R38). -/
theorem State.SequenceSound.lockout {s t : State} (h : s.SequenceSound) (settings : t.svp.settings = s.svp.settings)
    {reason : LockReason} {window : Timer}
    (sqc : t.sqc = { s.sqc.moved .lockout (some reason) with manualWindow := window, stepped := false }) : t.SequenceSound := by
  rw [State.sequenceSound_iff] at h ⊢
  obtain ⟨limit, shots, -⟩ := h
  rw [sqc, settings]
  exact ⟨limit, shots, rfl, rfl, rfl, rfl⟩

/-- A trip begun leaves a sound sequence where it is final or s counts below N (R27, R28, R39). -/
theorem State.beginTrip_sound {s : State} {trip : CurrentTrip} (limit : 1 ≤ s.svp.settings.tripsToLockout)
    (shots : s.sqc.shots ≤ s.svp.settings.tripsToLockout)
    (counts : trip.finalReason = none → s.sqc.Counts s.svp.settings.tripsToLockout) : (s.beginTrip trip).SequenceSound := by
  rw [State.sequenceSound_iff, State.beginTrip_sqc, (State.beginTrip_frame _ _).2.2.2.1]
  exact ⟨limit, shots, ⟨trip, rfl, counts⟩, rfl, rfl, rfl, rfl⟩

theorem State.beginTrip_pulse (s : State) (trip : CurrentTrip) : (s.beginTrip trip).cdu.pulse ≠ .close := by
  rw [State.beginTrip_cdu]
  exact State.cduTripOrder_pulse _

theorem State.beginTrip_counted (s : State) (trip : CurrentTrip) :
    ((s.beginTrip trip).cdu.operations, (s.beginTrip trip).cdu.lastClosed) = (s.cdu.operations, s.cdu.lastClosed) := by
  have ordered := State.Carries.cduTripOrder (d := false) (s.tripping trip)
  have entered := s.enterSeq_closeView .tripping
  simp only [Cdu.closeView, Prod.mk.injEq] at entered
  rw [State.beginTrip_cdu, ordered.operations, ordered.lastClosed]
  exact Prod.ext entered.2.2.2.2.2.1 entered.2.2.2.2.2.2

namespace State.Carries

variable {d : Bool} (s : State)

/-- An entry to LOCKOUT, but for one that ends CLOSING under its own close pulse (R38). -/
theorem enterLockout (free : d = true → s.sqc.closeBegun = true → s.sqc.seq ≠ .closing) (reason : LockReason) :
    s.Carries d (s.enterLockout reason) := by
  refine of_sqc (by simp) (by simp [Sqc.moved]) ?_ (fun h => h.lockout (by simp) (State.enterLockout_sqc s reason))
    fun hd begun seq => absurd seq (free hd begun)
  have entered := s.enterSeq_closeView .lockout
  simpa [State.enterLockout] using entered

theorem enterLockout_elsewhere (seq : s.sqc.seq ≠ .closing) (reason : LockReason) : s.Carries d (s.enterLockout reason) :=
  enterLockout s (fun _ _ => seq) reason

theorem enterLockout_unkept (reason : LockReason) : s.Carries false (s.enterLockout reason) :=
  enterLockout s (fun keeps => by cases keeps) reason

/-- A trip begun; s may have been raised for it (R27, R28, R39). -/
theorem beginTrip {u : State} (settings : u.svp.settings = s.svp.settings) (cdu : u.cdu = s.cdu) {shots : Nat}
    (sqc : u.sqc = { s.sqc with shots := shots }) {trip : CurrentTrip}
    (below : s.SequenceSound → shots ≤ s.svp.settings.tripsToLockout ∧
      (trip.finalReason = none → 1 ≤ shots ∧ shots < s.svp.settings.tripsToLockout)) :
    s.Carries d (u.beginTrip trip) := by
  refine of_unclosed (by simp [settings]) (by simp [sqc, Sqc.moved]) (by rw [State.beginTrip_counted, cdu]) (fun h => ?_)
    (State.beginTrip_pulse _ _)
  obtain ⟨le, counts⟩ := below h
  refine State.beginTrip_sound ?_ ?_ ?_
  · rw [settings]
    exact h.limit
  · rw [settings, sqc]
    exact le
  · rw [settings, sqc]
    exact counts

theorem operatorsTrip : s.Carries d (s.beginTrip operatorTripOf) :=
  beginTrip s rfl rfl rfl fun h => ⟨h.shots, nofun⟩

/-- A trip order taken: s counts below N where its finality leaves it open (R26, R27). -/
theorem takeTrip (o : TripOrder) : s.Carries d (s.takeTrip o) := by
  refine beginTrip s (u := s.withSqc fun q => { q with shots := min s.cfg.tripsToLockout (s.sqc.shots + 1) }) rfl rfl rfl
    fun h => ⟨Nat.min_le_left _ _, fun open_ => ?_⟩
  have limit := h.limit
  have short : min s.cfg.tripsToLockout (s.sqc.shots + 1) ≠ s.cfg.tripsToLockout := fun full => by
    have final := s.finality_eq (min s.cfg.tripsToLockout (s.sqc.shots + 1))
    rw [show s.finality _ = none from open_] at final
    simp only [full, if_true] at final
    repeat' split at final
    all_goals cases final
  change 1 ≤ min s.cfg.tripsToLockout _ ∧ min s.cfg.tripsToLockout _ < s.cfg.tripsToLockout
  omega

/-- A lockout trip is final with the reason that stands in LOCKOUT (R25, R28). -/
theorem takeLockoutTrip (seq : s.sqc.seq = .lockout) (o : TripOrder) : s.Carries d (s.takeLockoutTrip o) :=
  beginTrip s rfl rfl rfl fun h => ⟨h.shots, fun open_ => by
    have held := h.reason.mpr (.inl seq)
    rw [show s.sqc.reason = none from open_] at held
    cases held⟩

theorem sqcTripOrder (o : TripOrder) : s.Carries d (s.sqcTripOrder o) := by
  unfold State.sqcTripOrder
  split
  · exact takeTrip s o
  · exact takeTrip s o
  · split
    · exact takeTrip s o
    · exact refl s
  · next seq =>
    split
    · exact takeLockoutTrip s seq o
    · exact refl s
  all_goals exact refl s

theorem sqcTripConfirm : s.Carries d s.sqcTripConfirm := by
  unfold State.sqcTripConfirm
  split
  · next seq =>
    have left : s.sqc.seq ≠ .closing := by simp [seq]
    split
    · exact enterLockout_elsewhere s left _
    · next open_ =>
      split
      · exact enterLockout_elsewhere s left _
      · refine of_sqc (by simp) (by simp [Sqc.enter]) (State.enterSeq_closeView _ _) (fun h => ?_) fun _ _ c => absurd c left
        rw [State.sequenceSound_iff] at h ⊢
        obtain ⟨limit, shots, stands⟩ := h
        simp only [Sqc.Stands, seq] at stands
        obtain ⟨⟨trip, current, counts⟩, -⟩ := stands
        rw [current] at open_
        simp only [State.withSqc_sqc, State.withSqc_svp, State.enterSeq_sqc, (State.enterSeq_frame _ _).2.2.2.2.2.1]
        exact ⟨limit, shots, counts open_, rfl, rfl, rfl⟩
  · next seq => exact enterLockout_elsewhere s (by simp [seq]) _
  · exact refl s

theorem tripFailed : s.Carries d s.tripFailed := by
  refine onlyIf fun tripping => ?_
  have left : s.sqc.seq ≠ .closing := by
    intro seq
    simp [seq] at tripping
  have moved : s.Carries d ((s.enterSeq .breakerFail).withSqc fun q => { q with reason := some .mechanism }) := by
    refine of_sqc (by simp) (by simp [Sqc.enter]) (State.enterSeq_closeView _ _) (fun h => ?_) fun _ _ c => absurd c left
    rw [State.sequenceSound_iff] at h ⊢
    obtain ⟨limit, shots, -⟩ := h
    simp only [State.withSqc_sqc, State.withSqc_svp, State.enterSeq_sqc, (State.enterSeq_frame _ _).2.2.2.2.2.1]
    exact ⟨limit, shots, rfl, rfl, rfl, rfl⟩
  refine moved.keep ?_
  cases s.sqc.trip with
  | some trip => simp [State.lawView]
  | none => simp [State.lawView]

end State.Carries

/-! ### Closes confirmed and failed, opens and closes that the SQC did not order (R35, R38, R41 to R43) -/

/-- An entry to READY with s at 0 (R37, R41, R43). -/
theorem State.SequenceSound.toReady {s t : State} (h : s.SequenceSound) (settings : t.svp.settings = s.svp.settings)
    (stepped : Bool) (window : Timer)
    (sqc : t.sqc = { s.sqc.enter .ready with shots := 0, stepped := stepped, manualWindow := window }) : t.SequenceSound := by
  rw [State.sequenceSound_iff, sqc, settings]
  exact ⟨h.limit, Nat.zero_le _, rfl, rfl, rfl, rfl, rfl⟩

namespace State.Carries

variable {d : Bool} (s : State)

theorem readyByHand (free : d = true → s.sqc.closeBegun = true → s.sqc.seq ≠ .closing) : s.Carries d s.readyByHand :=
  of_sqc (by simp) (by simp [State.readyByHand, Sqc.enter])
    (by simpa [State.readyByHand] using State.enterSeq_closeView s .ready)
    (fun h => h.toReady (by simp) false (some s.cfg.resetTime) (by simp [State.readyByHand])) fun hd begun seq => absurd seq (free hd begun)

theorem closeConfirm : s.Carries false s.closeConfirm := by
  refine onlyIf fun closing => ?_
  have seq : s.sqc.seq = .closing := by simpa using closing
  cases kind : s.sqc.closeKind with
  | operator => exact readyByHand s nofun
  | automatic =>
    simp only
    split
    · exact of_sqc (by simp) (by simp [Sqc.enter])
        (State.enterSeq_closeView (s.record { kind := .close, shots := some s.sqc.shots }) .ready)
        (fun h => h.toReady (by simp) false s.sqc.manualWindow (by simp [Sqc.enter])) nofun
    · refine of_sqc (by simp) (by simp [Sqc.enter])
        (State.enterSeq_closeView (s.record { kind := .close, shots := some s.sqc.shots }) .resetTiming) (fun h => ?_) nofun
      rw [State.sequenceSound_iff] at h ⊢
      obtain ⟨limit, shots, stands⟩ := h
      simp only [Sqc.Stands, seq] at stands
      simp only [State.withSqc_sqc, State.withSqc_svp, State.enterSeq_sqc, (State.enterSeq_frame _ _).2.2.2.2.2.1]
      exact ⟨limit, shots, stands.1 kind, rfl, rfl, rfl⟩

theorem closeFailure : s.Carries false s.closeFailure := onlyIf fun _ => enterLockout_unkept s _

theorem openWithoutPulse : s.Carries d s.openWithoutPulse := by
  unfold State.openWithoutPulse
  split
  · next seq => exact enterLockout_elsewhere s (by simp [seq]) _
  · next seq => exact enterLockout_elsewhere s (by simp [seq]) _
  · next seq => exact enterLockout_elsewhere s (by simp [seq]) _
  · exact refl s

theorem closedWithoutPulse : s.Carries false s.closedWithoutPulse := by
  refine onlyIf fun _ => ?_
  split
  · exact readyByHand s nofun
  · split
    · next _ lockout =>
      have seq : s.sqc.seq = .lockout := by simpa using lockout
      refine of_sqc rfl rfl rfl (fun h => ?_) nofun
      rw [State.sequenceSound_iff] at h ⊢
      obtain ⟨limit, shots, stands⟩ := h
      refine ⟨limit, shots, ?_⟩
      simp only [Sqc.Stands, State.withSqc_sqc, seq] at stands ⊢
      exact ⟨rfl, stands.2⟩
    · exact enterLockout_unkept s _

/-! ### Capacitor reports and operator trips (R39, R50, R55 to R59) -/

theorem tripReadyReport : s.Carries d s.tripReadyReport := by
  unfold State.tripReadyReport
  split
  · exact beginTripPulse s _
  · exact beginTripPulse s _
  · exact onlyIf fun _ => cduAttemptOrder s

theorem operatorTrip : s.Carries d s.operatorTrip := by
  unfold State.operatorTrip
  split
  · exact operatorsTrip s
  · exact operatorsTrip s
  · split
    · exact operatorsTrip s
    · next idle => exact enterLockout s (fun _ begun => absurd begun idle) _
  · split
    · exact operatorsTrip s
    · exact refl s
  · next seq =>
    refine of_sqc rfl rfl rfl (fun h => ?_) fun _ _ c => by simp [seq] at c
    rw [State.sequenceSound_iff] at h ⊢
    obtain ⟨limit, shots, stands⟩ := h
    refine ⟨limit, shots, ?_⟩
    simp only [Sqc.Stands, State.withSqc_sqc, seq] at stands ⊢
    obtain ⟨⟨trip, current, -⟩, idle⟩ := stands
    exact ⟨⟨{ trip with finalReason := some .operator }, by rw [current]; rfl, fun final => by cases final⟩, idle⟩
  · next seq => exact enterLockout_elsewhere s (by simp [seq]) _
  · next seq => exact enterLockout_elsewhere s (by simp [seq]) _
  · exact refl s

/-! ### Events from the other blocks (R34, R36, R41, R44) -/

theorem sqcTagOn : s.Carries d s.sqcTagOn := by
  unfold State.sqcTagOn
  split
  · next seq => exact enterLockout_elsewhere s (by simp [seq]) _
  · next seq => exact enterLockout_elsewhere s (by simp [seq]) _
  · split
    · exact refl s
    · next idle => exact enterLockout s (fun _ begun => absurd begun idle) _
  · exact refl s

theorem sqcMeasurementLost : s.Carries d s.sqcMeasurementLost :=
  onlyIf fun waits => enterLockout_elsewhere s (by intro seq; simp [seq] at waits) _

theorem sqcCritical : s.Carries d s.sqcCritical := by
  unfold State.sqcCritical
  split
  · next seq => exact enterLockout_elsewhere s (by simp [seq]) _
  · split
    · exact refl s
    · next idle => exact enterLockout s (fun _ begun => absurd begun idle) _
  · exact refl s

theorem sqcCloseEnergyFault : s.Carries d s.sqcCloseEnergyFault := by
  unfold State.sqcCloseEnergyFault
  split
  · next seq => exact enterLockout_elsewhere s (by simp [seq]) _
  · split
    · exact refl s
    · next idle => exact enterLockout s (fun _ begun => absurd begun idle) _
  · exact refl s

theorem sqcHandleDown : s.Carries false s.sqcHandleDown :=
  (onlyIf (f := State.withdrawTrip) fun _ => withdrawTrip s).trans (enterLockout_unkept _ _)

/-- The end of the reset time, in RESET_TIMING (R37). -/
theorem sqcResetExpiry : s.Carries false s.sqcResetExpiry := by
  have ready : s.Carries false ((s.enterSeq .ready).withSqc fun q => { q with shots := 0, stepped := false }) :=
    of_sqc (by simp) (by simp [Sqc.enter]) (State.enterSeq_closeView _ _)
      (fun h => h.toReady (by simp) false s.sqc.manualWindow (by simp [Sqc.enter])) nofun
  unfold State.sqcResetExpiry
  simp only
  split
  · exact ready.keep (by simp [State.lawView])
  · exact ready

/-! ### First pickups, the source and the sequence step (R47, R48) -/

/-- An update of the SQC beside everything that the laws read of it. -/
theorem withSqc {f : Sqc → Sqc} (seq : (f s.sqc).seq = s.sqc.seq)
    (kind : ((f s.sqc).closeKind, (f s.sqc).startHold, (f s.sqc).closeBegun) =
      (s.sqc.closeKind, s.sqc.startHold, s.sqc.closeBegun))
    (sound : ∀ n, s.sqc.Sound n → (f s.sqc).Sound n) : s.Carries d (s.withSqc f) := by
  simp only [Prod.mk.injEq] at kind
  obtain ⟨kind, hold, begun⟩ := kind
  refine of_sqc rfl (Prod.ext kind hold) rfl (fun h => ?_) fun _ b c => ⟨begun.trans b, seq.trans c⟩
  rw [State.sequenceSound_iff] at h ⊢
  exact sound _ h

theorem sqcFirstPickup (elements : ElementSet) : s.Carries d (s.sqcFirstPickup elements) :=
  withSqc s rfl rfl fun _ => id

theorem sqcSource (present : Bool) : s.Carries d (s.sqcSource present) := withSqc s rfl rfl fun _ => id

theorem forget : s.Carries d (s.withSqc fun q => { q with memory := none }) := withSqc s rfl rfl fun _ => id

theorem stepSequence {elements : ElementSet} (closed : s.sqc.seq.isClosed = true)
    (below : s.sqc.shots + 1 < s.cfg.tripsToLockout) : s.Carries d (s.stepSequence elements) := by
  have left : s.sqc.seq ≠ .closing := by
    intro seq
    simp [seq, SeqState.isClosed] at closed
  have entered := (s.withSqc fun q => { q with shots := q.shots + 1, stepped := true, stepSet := elements }).enterSeq_closeView
    .resetTiming
  refine of_sqc ?_ ?_ ?_ (fun h => ?_) fun _ _ c => absurd c left
  · simp [State.stepSequence]
  · by_cases seq : s.sqc.seq = .resetTiming <;> simp [State.stepSequence, seq, Sqc.enter]
  · by_cases seq : s.sqc.seq = .resetTiming
    · simp [State.stepSequence, seq]
    · simpa [State.stepSequence, seq] using entered
  · rw [State.sequenceSound_iff] at h ⊢
    obtain ⟨limit, shots, stands⟩ := h
    change s.sqc.shots + 1 < s.svp.settings.tripsToLockout at below
    by_cases seq : s.sqc.seq = .resetTiming
    · simp only [Sqc.Stands, seq] at stands
      simpa [State.stepSequence, seq, Sqc.Sound, Sqc.Stands, Sqc.Counts, stands.2] using ⟨limit, by omega, below⟩
    · simpa [State.stepSequence, seq, Sqc.Sound, Sqc.Stands, Sqc.Counts, Sqc.enter, SeqState.hasReason] using
        ⟨limit, by omega, below⟩

theorem sqcEpisodeEnd (longestRun : Nat) (orderRaised : Bool) : s.Carries d (s.sqcEpisodeEnd longestRun orderRaised) := by
  unfold State.sqcEpisodeEnd
  cases s.sqc.memory with
  | none => exact forget s
  | some elements =>
    refine Carries.trans (onlyIf (f := fun s => s.stepSequence elements) fun holds => ?_) (forget _)
    simp only [Bool.and_eq_true, decide_eq_true_eq] at holds
    exact stepSequence s holds.1.1.1 holds.2

end State.Carries

/-! ### Operations that may begin a close pulse (R33, R34, R41, R60) -/

/-- What a close order that begins a pulse finds and leaves: the handle up and no tag in force, and for an automatic close
measurement lost clear, start hold off and the reserve state NORMAL or RESERVE (R33, R40, R41). -/
structure State.ClosePermitted (s : State) : Prop where
  handle : s.tgu.handleDown = false
  tag : s.tagInForce = false
  automatic : s.sqc.closeKind = .automatic → s.mfp.lost = false ∧ s.sqc.startHold = none ∧ s.reserveHolds = true

/-- An operation that may begin a close pulse, and begins none but a permitted one in CLOSING. -/
structure State.MayClose (s t : State) : Prop where
  settings : t.svp.settings = s.svp.settings
  startHold : t.sqc.startHold = s.sqc.startHold
  operations : t.cdu.operations = s.cdu.operations
  lastClosed : t.cdu.lastClosed = s.cdu.lastClosed
  sequence : s.SequenceSound → t.SequenceSound
  pulse : t.cdu.pulse = .close → s.cdu.pulse = .close ∨ (t.ClosePulse ∧ t.ClosePermitted)

theorem State.Carries.mayClose {d : Bool} {s t : State} (h : s.Carries d t) : s.MayClose t :=
  ⟨h.settings, h.startHold, h.operations, h.lastClosed, h.sequence, fun p => .inl (h.pulse p)⟩

namespace State.MayClose

variable {r s t : State}

/-- An operation that begins no pulse comes before. -/
theorem after (k : s.MayClose t) (h : r.MayClose s) (calm : s.cdu.pulse = .close → r.cdu.pulse = .close) : r.MayClose t where
  settings := k.settings.trans h.settings
  startHold := k.startHold.trans h.startHold
  operations := k.operations.trans h.operations
  lastClosed := k.lastClosed.trans h.lastClosed
  sequence := k.sequence ∘ h.sequence
  pulse p := (k.pulse p).imp_left calm

theorem afterCarried {d : Bool} (k : s.MayClose t) (h : r.Carries d s) : r.MayClose t := k.after h.mayClose h.pulse

/-- An operation beside everything that the laws read comes after. -/
theorem keep (h : r.MayClose s) (view : t.lawView = s.lawView) (tgu : t.tgu = s.tgu) (mfp : t.mfp = s.mfp)
    (reserve : t.btu.reserve = s.btu.reserve) : r.MayClose t := by
  have same : s.Carries true t := .of_view view
  simp only [State.lawView, Prod.mk.injEq] at view
  obtain ⟨sqc, cdu, -⟩ := view
  refine ⟨same.settings.trans h.settings, same.startHold.trans h.startHold, same.operations.trans h.operations,
    same.lastClosed.trans h.lastClosed, same.sequence ∘ h.sequence, fun p => ?_⟩
  refine (h.pulse (by rwa [← cdu])).imp_right fun ⟨begun, permitted⟩ => ⟨same.held rfl p begun, ?_⟩
  obtain ⟨handle, tag, automatic⟩ := permitted
  exact ⟨by rw [tgu, handle], by rw [State.tagInForce, tgu]; exact tag, by
    rw [sqc, mfp, State.reserveHolds, reserve]
    exact automatic⟩

/-- A move of the SQC alone that enters a state with no close pulse begun. -/
theorem of_sqc (settings : t.svp.settings = s.svp.settings) (startHold : t.sqc.startHold = s.sqc.startHold)
    (view : t.cdu.closeView = s.cdu.closeView) (sequence : s.SequenceSound → t.SequenceSound) : s.MayClose t := by
  simp only [Cdu.closeView, Prod.mk.injEq] at view
  obtain ⟨pulse, -, -, -, -, operations, lastClosed⟩ := view
  exact ⟨settings, startHold, operations, lastClosed, sequence, fun p => .inl (pulse ▸ p)⟩

variable (s)

/-- The pulse that CLOSING orders, or the close failure that comes back (R35, R41, R60). -/
theorem fireClose (seq : s.sqc.seq = .closing) (permitted : s.ClosePermitted) : s.MayClose s.fireClose := by
  have ordered : s.MayClose (s.withSqc fun q => { q with closeBegun := true, charge := none }) := by
    refine of_sqc rfl rfl rfl fun h => ?_
    rw [State.sequenceSound_iff] at h ⊢
    obtain ⟨limit, shots, stands⟩ := h
    refine ⟨limit, shots, ?_⟩
    simp only [Sqc.Stands, State.withSqc_sqc, seq] at stands ⊢
    exact stands
  unfold State.fireClose
  simp only
  split
  · exact ⟨rfl, rfl, rfl, rfl, fun h => (ordered.sequence h).of_sqc rfl rfl,
      fun _ => .inr ⟨⟨rfl, seq, rfl, rfl, rfl, rfl⟩, permitted.handle, permitted.tag, permitted.automatic⟩⟩
  · exact (State.Carries.closeFailure _).mayClose.after ordered id

/-- An entry to CLOSING with no close begun, from a state that is not CLOSING (R33, R41). -/
theorem enterClosing {f : Sqc → Sqc} {kind : CloseKind} {charge : Timer}
    (entry : f (s.sqc.enter .closing) = { s.sqc.enter .closing with closeKind := kind, charge := charge })
    (counts : s.SequenceSound → kind = .automatic → s.sqc.Counts s.svp.settings.tripsToLockout) :
    s.MayClose ((s.enterSeq .closing).withSqc f) := by
  refine of_sqc (by simp) (by rw [State.withSqc_sqc, State.enterSeq_sqc, entry]; rfl) (State.enterSeq_closeView s .closing) fun h => ?_
  have c := counts h
  rw [State.sequenceSound_iff] at h ⊢
  obtain ⟨limit, shots, -⟩ := h
  simp only [State.withSqc_sqc, State.withSqc_svp, State.enterSeq_sqc, (State.enterSeq_frame _ _).2.2.2.2.2.1, entry]
  exact ⟨limit, shots, c, rfl, rfl, rfl⟩

/-- What permits a close is not touched by the entry to CLOSING. -/
theorem permitted_closing {kind : CloseKind} (handle : s.tgu.handleDown = false)
    (tag : s.tagInForce = false)
    (automatic : kind = .automatic → s.mfp.lost = false ∧ s.sqc.startHold = none ∧ s.reserveHolds = true) :
    ((s.enterSeq .closing).withSqc fun q => { q with closeKind := kind }).ClosePermitted := by
  have reserve : (s.enterSeq .closing).btu.reserve = s.btu.reserve :=
    ((State.Reaches.refl (d := false) s).enterSeq .closing).reserve rfl
  refine ⟨by simpa using handle, by simpa [State.tagInForce] using tag, fun auto => ?_⟩
  simpa [Sqc.enter, State.reserveHolds, reserve] using automatic auto

/-- The close gate of an automatic close, where a sound sequence counts below N (R33, R34). -/
theorem closeGate (counts : s.SequenceSound → s.sqc.Counts s.svp.settings.tripsToLockout) (wait : Bool) :
    s.MayClose (s.closeGate wait) := by
  have locks : ∀ reason, s.MayClose (s.enterLockout reason) := fun reason =>
    (State.Carries.enterLockout_unkept s reason).mayClose
  unfold State.closeGate
  split
  · exact locks _
  split
  · exact locks _
  split
  · exact locks _
  split
  · exact locks _
  split
  · exact locks _
  · next handle tag lost reserve hold =>
    have permitted := permitted_closing s (kind := .automatic) (by simpa using handle) (by simpa using tag)
      fun _ => ⟨by simpa using lost, by simpa [State.startHoldOn] using hold, by simpa using reserve⟩
    split
    · have closing := enterClosing s (f := fun q => { q with closeKind := .automatic }) (charge := none) rfl
        fun h _ => counts h
      refine (fireClose _ (by simp [Sqc.enter]) permitted).after closing fun p => ?_
      have view := State.enterSeq_closeView s .closing
      simp only [Cdu.closeView, Prod.mk.injEq] at view
      exact view.1 ▸ p
    · split
      · refine of_sqc (by simp) (by simp [Sqc.enter]) (State.enterSeq_closeView s .closeCharge) fun h => ?_
        have c := counts h
        rw [State.sequenceSound_iff] at h ⊢
        obtain ⟨limit, shots, -⟩ := h
        simp only [State.withSqc_sqc, State.withSqc_svp, State.enterSeq_sqc, (State.enterSeq_frame _ _).2.2.2.2.2.1]
        exact ⟨limit, shots, c, rfl, rfl, rfl⟩
      · exact (State.Carries.refl (d := true) s).mayClose

theorem closeReadyReport : s.MayClose s.closeReadyReport := by
  unfold State.closeReadyReport
  split
  · next seq => exact closeGate s (fun h => h.counting (by simp [seq])) false
  · next seq =>
    unfold State.onlyIf
    split
    · next waits =>
      simp only [Bool.and_eq_true, Bool.not_eq_true', beq_iff_eq] at waits
      obtain ⟨⟨⟨kind, -⟩, handle⟩, tag⟩ := waits
      exact fireClose s seq ⟨handle, tag, fun auto => by rw [kind] at auto; cases auto⟩
    · exact (State.Carries.refl (d := true) s).mayClose
  · exact (State.Carries.refl (d := true) s).mayClose

theorem carries_tripHanded : s.Carries false s.tripHanded := by
  unfold State.tripHanded
  split
  · exact (State.Carries.withCdu rfl).trans (State.Carries.tripReadyReport _)
  · exact .refl s

theorem handReports : s.MayClose s.handReports := by
  rw [State.handReports_eq]
  split
  · exact (closeReadyReport _).afterCarried ((carries_tripHanded s).trans (.withCdu rfl))
  · exact (carries_tripHanded s).mayClose

theorem voltagesRead (tripV closeV : Nat) (closing : Bool) : s.MayClose (s.voltagesRead tripV closeV closing) :=
  ⟨rfl, rfl, rfl, rfl, fun h => h.of_sqc rfl rfl, .inl⟩

theorem deliverVoltages (tripV closeV : Nat) (closing : Bool) : s.MayClose (s.deliverVoltages tripV closeV closing) := by
  rw [State.deliverVoltages_eq]
  exact (handReports _).after (voltagesRead s tripV closeV closing) id

/-- An operator close, from LOCKOUT (R40, R41). -/
theorem operatorClose : s.MayClose s.operatorClose := by
  unfold State.operatorClose State.onlyIf
  split
  · next done =>
    have taken : s.tgu.handleDown = false ∧ s.tagInForce = false := by
      unfold State.operatorCloseAnswer at done
      repeat' split at done
      all_goals simp_all
    obtain ⟨handle, tag⟩ := taken
    simp only
    split
    · have closing := enterClosing s (f := fun q => { q with closeKind := .operator }) (charge := none) rfl
        fun _ => nofun
      refine (fireClose _ (by simp [Sqc.enter])
        (permitted_closing s (kind := .operator) handle tag nofun)).after closing fun p => ?_
      have view := State.enterSeq_closeView s .closing
      simp only [Cdu.closeView, Prod.mk.injEq] at view
      exact view.1 ▸ p
    · exact enterClosing s (f := fun q => { q with closeKind := .operator, charge := some 20000 }) (kind := .operator)
        (charge := some 20000) rfl fun _ => nofun
  · exact (State.Carries.refl (d := true) s).mayClose

end State.MayClose

/-! ### The close kind of an automatic close -/

theorem State.closeFailure_kind (s : State) : s.closeFailure.sqc.closeKind = s.sqc.closeKind :=
  (State.Carries.closeFailure s).kind

theorem State.fireClose_kind (s : State) : s.fireClose.sqc.closeKind = s.sqc.closeKind := by
  unfold State.fireClose
  simp only
  split
  · rfl
  · exact State.closeFailure_kind _

/-- No ready report makes a close an operator's. -/
theorem State.closeReadyReport_kind {s : State} (auto : s.sqc.closeKind = .automatic) :
    s.closeReadyReport.sqc.closeKind = .automatic := by
  have locks : ∀ reason, (s.enterLockout reason).sqc.closeKind = .automatic := fun reason => by
    rw [(State.Carries.enterLockout_unkept s reason).kind, auto]
  unfold State.closeReadyReport
  split
  · unfold State.closeGate
    repeat' split
    · exact locks _
    · exact locks _
    · exact locks _
    · exact locks _
    · exact locks _
    · rw [State.fireClose_kind]
      rfl
    · next wait => cases wait
    · exact auto
  · rw [State.onlyIf_sqc]
    split
    · rw [State.fireClose_kind, auto]
    · exact auto
  · exact auto

theorem State.deliverVoltages_kind {s : State} (auto : s.sqc.closeKind = .automatic) (tripV closeV : Nat) (closing : Bool) :
    (s.deliverVoltages tripV closeV closing).sqc.closeKind = .automatic := by
  have handed : (s.voltagesRead tripV closeV closing).tripHanded.sqc.closeKind = .automatic :=
    (State.MayClose.carries_tripHanded _).kind.trans auto
  rw [State.deliverVoltages_eq, State.handReports_eq]
  split
  · exact State.closeReadyReport_kind handed
  · exact handed

/-! ### Orders, holds and the frame step (R12, R16 to R22, R132 to R140) -/

namespace State.Carries

variable {d : Bool} (s : State)

theorem raiseOrder (o : TripOrder) : s.Carries d (s.raiseOrder o) :=
  before (sqcTripOrder (s.withOcu fun u => u.marked o) o) rfl

theorem releaseTest (k : Kind) : s.Carries d (s.releaseTest k) := by
  unfold State.releaseTest
  split
  · exact of_view rfl
  · exact onlyIf fun _ => raiseOrder s _

theorem endHold (k : Kind) (cause : Reason) : s.Carries d (s.endHold k cause) := by
  unfold State.endHold
  split
  · exact refl s
  · exact before (releaseTest _ k) rfl

theorem endHolds (cause : Reason) : s.Carries d (s.endHolds cause) := (endHold s .phase cause).trans (endHold _ .ground cause)

theorem partnerPickup (k : Kind) (sender position : Nat) (arrival : Word32) :
    s.Carries d (s.partnerPickup k sender position arrival) := by
  unfold State.partnerPickup
  simp only
  repeat' split
  · exact refl s
  · exact onlyIf fun _ => of_view rfl
  · exact of_view rfl

theorem partnerPickups (sender position : Nat) (elements : ElementSet) (arrival : Word32) :
    s.Carries d (s.partnerPickups sender position elements arrival) := by
  unfold State.partnerPickups
  exact (onlyIf (f := fun s => s.partnerPickup .phase sender position arrival) fun _ => partnerPickup s _ _ _ _).trans
    (onlyIf (f := fun s => s.partnerPickup .ground sender position arrival) fun _ => partnerPickup _ _ _ _ _)

theorem partnerEnd (k : Kind) (sender : Nat) (cause : Reason) : s.Carries d (s.partnerEnd k sender cause) := by
  unfold State.partnerEnd
  repeat' split
  · exact endHold s k cause
  · exact refl s
  · exact refl s

theorem partnerEnds (sender : Nat) (cause : Reason) : s.Carries d (s.partnerEnds sender cause) :=
  (partnerEnd s .phase sender cause).trans (partnerEnd _ .ground sender cause)

theorem clearElements : s.Carries d s.clearElements := of_view rfl

theorem tripConfirmed (clearFirst : Bool) : s.Carries d (s.tripConfirmed clearFirst) := by
  unfold State.tripConfirmed
  split
  · exact (clearElements s).trans (endHolds _ _)
  · exact (endHolds s _).trans (clearElements _)

theorem firstPickup (elements : ElementSet) (largest : Nat) : s.Carries d (s.firstPickup elements largest) := by
  have built : s.Carries d (s.buildPickup elements largest) := of_view (by simp [State.lawView])
  exact (built.trans (sqcFirstPickup _ elements)).keep (by simp [State.firstPickup, State.lawView])

theorem frameStep (f : MeasFields) : s.Carries d (s.frameStep f) := by
  have stepped : s.Carries d (s.stepped f) := of_view rfl
  have noticed : s.Carries d (s.noticed f) := by
    unfold State.noticed
    split
    · exact stepped.trans (firstPickup _ _ _)
    · exact stepped
  have ordered : s.Carries d (s.ordered f) := by
    unfold State.ordered
    split
    · exact noticed.trans (raiseOrder _ _)
    · exact noticed
  rw [State.frameStep_eq]
  split
  · exact ordered.trans (sqcEpisodeEnd _ _ _)
  · exact ordered

/-! ### The breaker and the reports of the windows and waits (R52, R55 to R64) -/

theorem changeToOpen (clearFirst : Bool) : s.Carries d (s.changeToOpen clearFirst) := by
  unfold State.changeToOpen
  split
  · exact ((endTripRequest s).trans (sqcTripConfirm _)).trans (tripConfirmed _ _)
  · exact (openWithoutPulse s).trans (onlyIf (f := fun m => m.tripConfirmed clearFirst) fun _ => tripConfirmed _ _)

theorem mechanismFailure : s.Carries d s.mechanismFailure := (endTripRequest s).trans (tripFailed _)

theorem endTripWindow : s.Carries d s.endTripWindow := by
  have ended : s.Carries d (s.withCdu fun c => { c with tripWindow := none }) := withCdu rfl
  unfold State.endTripWindow
  simp only
  repeat' split
  · exact ended
  · exact ended.trans (mechanismFailure _)
  · exact ended.trans (withCdu rfl)
  · exact ended
  · exact ended.trans (mechanismFailure _)
  · exact ended.trans (endTripRequest _)
  · exact ended

/-- The close window and its request are over; a close pulse that runs on keeps only its pulse (R60). -/
theorem withoutCloseWindow {f : Cdu → Cdu} (same : ((f s.cdu).pulse, (f s.cdu).operations, (f s.cdu).lastClosed) =
    (s.cdu.pulse, s.cdu.operations, s.cdu.lastClosed)) : s.Carries false (s.withCdu f) := by
  simp only [Prod.mk.injEq] at same
  obtain ⟨pulse, operations, lastClosed⟩ := same
  exact ⟨rfl, rfl, rfl, operations, lastClosed, fun h => h.of_sqc rfl rfl, fun p => pulse ▸ p, fun keeps => by cases keeps⟩

theorem changeToClosed : s.Carries false s.changeToClosed := by
  unfold State.changeToClosed
  split
  · exact (withoutCloseWindow s rfl).trans (closeConfirm _)
  · exact closedWithoutPulse s

theorem endCloseWindow : s.Carries false s.endCloseWindow := by
  have ended : s.Carries false (s.withCdu fun c => { c with closeWindow := none, closeRequest := false }) :=
    withoutCloseWindow s rfl
  unfold State.endCloseWindow
  simp only
  split
  · exact ended.trans (closeFailure _)
  · exact ended

theorem tripEnergyFault : s.Carries d s.tripEnergyFault := by
  refine Carries.trans ?_ (tripFailed _)
  exact (endTripRequest _).before rfl

theorem closeEnergyFault : s.Carries d s.closeEnergyFault := by
  refine Carries.trans ?_ (sqcCloseEnergyFault _)
  exact of_cdu rfl rfl rfl

theorem raisePositionFault : s.Carries d s.raisePositionFault := of_cdu rfl rfl rfl

/-! ### The battery (R67 to R82) -/

theorem changeReserve (new : Reserve) : s.Carries d (s.changeReserve new) := by
  have recorded : s.Carries d ((s.withReserve new).record
      { kind := .reserveChange, reserve := some new, battV := some s.btu.battV }) := of_view rfl
  have locked := recorded.trans (onlyIf (c := new == .critical) (f := State.sqcCritical) fun _ => sqcCritical _)
  exact (locked.trans (refreshCharge _)).keep (by simp [State.changeReserve, State.withReserve, State.lawView])

theorem judgeBattery : s.Carries d s.judgeBattery := by
  unfold State.judgeBattery
  exact onlyIf fun _ => changeReserve s _

theorem deliverBattery (v : Nat) (i temperature : Int) : s.Carries d (s.deliverBattery v i temperature) := by
  have judged := judgeBattery (d := d) ((s.withBtu fun b =>
    { b with battV := v, battI := i, temperature := temperature, vf := floatSetpoint temperature, measured := true }).sendSetpoint)
  exact (judged.before (by simp [State.lawView])).keep (by simp [State.deliverBattery, State.lawView])

theorem acReturns : s.Carries d s.acReturns := by
  unfold State.acReturns
  simp only
  split
  · exact before (judgeBattery _) (by simp [State.lawView])
  · exact before (judgeBattery _) (by simp [State.lawView])

theorem acGoes : s.Carries d s.acGoes :=
  before (judgeBattery _) (by simp [State.lawView])

theorem releaseContactor : s.Carries d s.releaseContactor := onlyIf fun _ => of_cdu rfl rfl rfl

theorem sendCopy : s.Carries d s.sendCopy :=
  before (onlyIf (s := s.countCopy.enterKeyDown) (f := State.releaseContactor) fun _ => releaseContactor _)
    (by simp [State.lawView])

/-! ### Tags, keys and the handle (R149 to R158) -/

theorem tagEvent {event : State → State} (view : (event s).lawView = s.lawView) : s.Carries d (s.tagEvent event) :=
  before (onlyIf (s := event s) (f := fun s => s.sqcTagOn.endHolds (.lock .tagged)) fun _ =>
    (sqcTagOn _).trans (endHolds _ _)) view

theorem localApply (source : TagSource) (code : Word16) (slot : Option Nat) :
    s.Carries d (s.localApply source code slot) :=
  onlyIf fun _ => tagEvent s (by simp [State.lawView])

theorem localRemoval (own other : TagSource) (code : Word16) : s.Carries d (s.localRemoval own other code) := by
  unfold State.localRemoval
  split
  · exact refl s
  · exact tagEvent s (by simp [State.lawView])

theorem peerTag (peer : Nat) (code : Word16) : s.Carries d (s.peerTag peer code) :=
  onlyIf fun _ => tagEvent s (by simp [State.lawView])

theorem peerUntag (peer : Nat) (code : Word16) : s.Carries d (s.peerUntag peer code) := by
  refine tagEvent s ?_
  split <;> simp [State.lawView]

theorem peerTagList (peer : Nat) (codes : List Word16) : s.Carries d (s.peerTagList peer codes) :=
  tagEvent s (by simp [State.lawView])

theorem tripPress : s.Carries d s.tripPress := by
  unfold State.tripPress
  split
  · exact operatorTrip s
  · exact of_view (by simp [State.lawView])

theorem tagOnPress : s.Carries d s.tagOnPress := by
  unfold State.tagOnPress
  split
  · exact refl s
  · next w _ => exact (localApply s .localPanel w.code (some w.slot)).keep (by simp [State.lawView])

theorem tagOffPress : s.Carries d s.tagOffPress := by
  unfold State.tagOffPress
  split
  · exact refl s
  · next w _ => exact (localRemoval s .localPanel .service w.code).keep (by simp [State.lawView])

theorem handleGoesDown (btuFirst : Bool) : s.Carries false (s.handleGoesDown btuFirst) := by
  have down := (sqcHandleDown (s.withTgu fun t => { t with handleDown := true })).before (r := s) rfl
  unfold State.handleGoesDown
  simp only
  split
  · exact before (sqcHandleDown _) (by simp [State.lawView])
  · exact down.keep (by simp [State.lawView])

/-! ### Records of peers (R122 to R130) -/

theorem handOff (r : RxRecord) (kind : ReportKind) : s.Carries d (s.handOff r kind) := by
  have partner : s.Carries d (s.partnerHandOff r kind) := by
    refine onlyIf fun _ => ?_
    split
    · exact partnerPickups s _ _ _ _
    · exact partnerEnds s _ _
    · exact partnerEnds s _ _
    · exact refl s
  refine onlyIf fun _ => ?_
  cases kind with
  | pickup => exact partner
  | trip => exact partner
  | clear => exact partner
  | tag => exact peerTag s _ _
  | untag => exact peerUntag s _ _
  | beacon => exact peerTagList s _ _
  | lockout => exact refl s
  | shutdown => exact refl s

theorem applyRecord (r : RxRecord) : s.Carries d (s.applyRecord r) := by
  unfold State.applyRecord
  split
  · exact of_view rfl
  · split
    · exact before (handOff _ r _) rfl
    · simp only
      split
      · exact of_view rfl
      · exact before (handOff _ r _) rfl

theorem takeHead : s.Carries d s.takeHead := by
  unfold State.takeHead
  split
  · exact refl s
  · exact before (applyRecord _ _) rfl

/-! ### The measurement link (R1 to R8) -/

theorem stall : s.Carries d s.stall := by
  cases stalled : s.mfp.stalled with
  | true =>
    rw [State.stall_again stalled]
    exact of_view rfl
  | false =>
    rw [State.stall_first stalled]
    have frozen : s.Carries d s.frozen := before (forget (((s.withMfp fun m => { m with stallTimer := none }).withMfp fun m =>
      { m with stalled := true, recovery := none }).freezeCounts)) rfl
    exact ((frozen.keep (by simp [State.lawView])).trans (refreshCharge (s.frozen.abandonTest .measurement))).keep rfl

theorem loseMeasurement : s.Carries d s.loseMeasurement := by
  cases lost : s.mfp.lost with
  | true =>
    rw [State.loseMeasurement_again lost]
    exact of_view rfl
  | false =>
    rw [State.loseMeasurement_first lost]
    exact before (sqcMeasurementLost _) rfl

end State.Carries

end Sys2Proof.Machine
end

section
/-! SUPPORT. The deliveries of a good frame as one transition of the sequence and of the close order. -/

namespace Sys2Proof.Machine

/-! ### The deliveries of a good frame (R4, R50) -/

theorem State.deliver_carries (s : State) (f : MeasFields) (closing : Bool) {x : Delivery} (other : x ≠ .cdu) :
    s.Carries true (s.deliver f closing x) := by
  cases x with
  | ocu => exact .frameStep s f
  | cdu => exact absurd rfl other
  | btu => exact .deliverBattery s _ _ _
  | sqc => exact .sqcSource s _
  | lfsr => exact .of_view rfl
  | take => exact .takeHead s
  | test => exact .of_view (by simp [State.lawView, State.deliver])

theorem State.delivered_carries (s : State) (f : MeasFields) (closing : Bool) {order : List Delivery} (others : .cdu ∉ order) :
    s.Carries true (s.delivered f closing order) :=
  State.delivered_invariant (p := fun u => s.Carries true u)
    (fun _ member u carried => carried.trans (u.deliver_carries f closing (ne_of_mem_of_not_mem member others))) (.refl s)

theorem State.deliver_tgu (s : State) (f : MeasFields) (closing : Bool) {x : Delivery} (other : x ≠ .take) :
    (s.deliver f closing x).tgu = s.tgu := by
  cases x with
  | take => exact absurd rfl other
  | _ => simp [State.deliver]

theorem State.deliver_reserve (s : State) (f : MeasFields) (closing : Bool) {x : Delivery} (other : x ≠ .btu) :
    (s.deliver f closing x).btu.reserve = s.btu.reserve := by
  cases x with
  | ocu => exact (s.stepped_reaches_frameStep f).reserve rfl
  | cdu =>
    rw [State.deliver, State.deliverVoltages_eq]
    exact (State.Reaches.refl (s.voltagesRead f.tripV f.closeV closing)).handReports.reserve rfl
  | btu => exact absurd rfl other
  | sqc => rfl
  | lfsr => rfl
  | take => exact s.takeHead_reached.reserve rfl
  | test =>
    unfold State.deliver State.testAtArrival State.onlyIf
    simp only
    split
    · exact State.setCharger_reserve _ _
    · rfl

/-- What one delivery alone changes stands, at any other delivery, either as it stood at first or as it will stand at last. -/
theorem State.delivered_first_or_last {α : Type} {part : State → α} {f : MeasFields} {closing : Bool} {x y : Delivery}
    {first later : List Delivery} (nodup : (first ++ y :: later).Nodup) (differ : y ≠ x)
    (keep : ∀ z, z ≠ x → ∀ u : State, part (u.deliver f closing z) = part u) (s : State) :
    part ((s.delivered f closing first).deliver f closing y) = part s ∨
      part (s.delivered f closing (first ++ y :: later)) = part ((s.delivered f closing first).deliver f closing y) := by
  by_cases early : x ∈ first
  · right
    have late : x ∉ later := fun member => (List.disjoint_of_nodup_append nodup) early (List.mem_cons_of_mem _ member)
    rw [State.delivered_append, State.delivered_cons]
    exact State.delivered_keeps (fun z member => keep z (ne_of_mem_of_not_mem member late)) _
  · left
    rw [keep y differ]
    exact State.delivered_keeps (fun z member => keep z (ne_of_mem_of_not_mem member early)) _

/-! ### What a command owes the laws (R33, R44, R60, R62, R65) -/

/-- A close pulse begun between two states was permitted: by the tags and the reserve state of the one or the other. -/
structure State.ClosesLawfully (s t : State) : Prop where
  begun : t.ClosePulse
  handle : s.tgu.handleDown = false ∧ t.tgu.handleDown = false
  tag : s.tagInForce = false ∨ t.tagInForce = false
  automatic : t.sqc.closeKind = .automatic →
    t.mfp.lost = false ∧ t.sqc.startHold = none ∧ (s.reserveHolds = true ∨ t.reserveHolds = true)

/-- A command, a start or none, obeys the laws of the sequence, of the close pulse and of the operations count. -/
structure State.Obeys (starts : Bool) (s t : State) : Prop where
  sequence : s.SequenceSound → t.SequenceSound
  closes : s.cdu.pulse ≠ .close → t.cdu.pulse = .close → s.ClosesLawfully t
  counts : starts = false →
    t.cdu.operations = s.cdu.operations + (if s.cdu.lastClosed = true ∧ t.cdu.lastClosed = false then 1 else 0) ∧
      t.svp.settings = s.svp.settings

theorem uncounted {before after : Bool} (same : after = before) (n : Word32) :
    n = n + (if before = true ∧ after = false then 1 else 0) := by
  subst same
  cases after <;> simp

theorem State.Carries.obeys {d starts : Bool} {s t : State} (h : s.Carries d t) : s.Obeys starts t where
  sequence := h.sequence
  closes idle closes := absurd (h.pulse closes) idle
  counts _ := ⟨by rw [h.operations]; exact uncounted h.lastClosed _, h.settings⟩

theorem State.Carries.refl_obeys {starts : Bool} (s : State) : s.Obeys starts s := (State.Carries.refl (d := true) s).obeys

/-- An operation that may close, in a command that changes neither the handle nor the tags. -/
theorem State.MayClose.obeys {starts : Bool} {s t : State} (h : s.MayClose t) (handle : t.tgu.handleDown = s.tgu.handleDown) :
    s.Obeys starts t where
  sequence := h.sequence
  closes idle closes := by
    obtain closing | ⟨begun, permitted⟩ := h.pulse closes
    · exact absurd closing idle
    · obtain ⟨up, tag, automatic⟩ := permitted
      exact ⟨begun, ⟨handle ▸ up, up⟩, .inr tag, fun auto =>
        ⟨(automatic auto).1, (automatic auto).2.1, .inr (automatic auto).2.2⟩⟩
  counts _ := ⟨by rw [h.operations]; exact uncounted h.lastClosed _, h.settings⟩

namespace State.Obeys

variable {starts : Bool} {s t : State}

theorem onlyIf {c : Bool} {f : State → State} (hf : c = true → s.Obeys starts (f s)) : s.Obeys starts (s.onlyIf c f) := by
  cases c with
  | false => exact State.Carries.refl_obeys s
  | true => exact hf rfl

theorem whenStarted {f : State → State} (hf : s.Obeys starts (f s)) : s.Obeys starts (s.whenStarted f) := by
  unfold State.whenStarted
  split
  · exact hf
  · exact State.Carries.refl_obeys s

end State.Obeys

/-- The deliveries of a frame obey the laws: the CDU's alone may begin a close pulse. -/
theorem State.delivered_obeys {starts : Bool} (s : State) (f : MeasFields) (closing : Bool) {order : List Delivery}
    (nodup : order.Nodup) : s.Obeys starts (s.delivered f closing order) := by
  by_cases member : Delivery.cdu ∈ order
  swap
  · exact (s.delivered_carries f closing member).obeys
  obtain ⟨first, later, rfl⟩ := List.append_of_mem member
  have once := List.nodup_append.mp nodup
  have others : Delivery.cdu ∉ first := fun early => once.2.2 _ early _ List.mem_cons_self rfl
  have others' : Delivery.cdu ∉ later := (List.nodup_cons.mp once.2.1).1
  have before := s.delivered_carries f closing others
  have during : (s.delivered f closing first).MayClose ((s.delivered f closing first).deliver f closing .cdu) :=
    .deliverVoltages _ f.tripV f.closeV closing
  have after := ((s.delivered f closing first).deliver f closing .cdu).delivered_carries f closing others'
  have whole : s.delivered f closing (first ++ .cdu :: later) =
      ((s.delivered f closing first).deliver f closing .cdu).delivered f closing later := State.delivered_append s f closing _ _
  have tags := State.delivered_first_or_last (part := State.tgu) (x := .take) nodup (by decide)
    (fun z other u => u.deliver_tgu f closing other) s
  have reserves := State.delivered_first_or_last (part := fun u => u.btu.reserve) (x := .btu) nodup (by decide)
    (fun z other u => u.deliver_reserve f closing other) s
  have panel : ∀ order : List Delivery, (s.delivered f closing order).tgu.handleDown = s.tgu.handleDown := fun order =>
    State.delivered_keeps (part := fun u => u.tgu.handleDown) (fun x _ u =>
      congrArg (fun p => p.2.2) (u.deliver_panel f closing x)) s
  have frames : ∀ order : List Delivery, (s.delivered f closing order).mfp = s.mfp := fun order =>
    congrArg (fun p => p.2.1) (s.delivered_frame f closing order)
  have middle := State.delivered_append s f closing first [.cdu]
  simp only [State.delivered_cons, State.delivered_nil] at middle
  rw [whole] at tags reserves ⊢
  refine ⟨after.sequence ∘ during.sequence ∘ before.sequence, fun idle closes => ?_, fun _ => ⟨?_, ?_⟩⟩
  · obtain closing' | ⟨begun, permitted⟩ := during.pulse (after.pulse closes)
    · exact absurd (before.pulse closing') idle
    have handle : s.tgu.handleDown = false := by
      rw [← panel (first ++ [.cdu]), middle]
      exact permitted.handle
    refine ⟨after.held rfl closes begun, ⟨handle, by rw [← whole, panel, handle]⟩, ?_, fun auto => ?_⟩
    · have tag := permitted.tag
      rcases tags with same | same
      · exact .inl (by rw [State.tagInForce, ← same]; exact tag)
      · exact .inr (by rw [State.tagInForce, same]; exact tag)
    · obtain ⟨lost, hold, reserve⟩ := permitted.automatic (after.kind ▸ auto)
      refine ⟨?_, after.startHold.trans hold, ?_⟩
      · rw [← whole, frames, ← frames (first ++ [.cdu]), middle]
        exact lost
      · rcases reserves with same | same
        · exact .inl (by rw [State.reserveHolds, ← same]; exact reserve)
        · exact .inr (by rw [State.reserveHolds, same]; exact reserve)
  · rw [after.operations, during.operations, before.operations]
    exact uncounted (after.lastClosed.trans (during.lastClosed.trans before.lastClosed)) _
  · rw [after.settings, during.settings, before.settings]

/-- Start hold and an automatic close kind outlast the deliveries of a frame. -/
theorem State.delivered_held {s : State} (auto : s.sqc.closeKind = .automatic) (f : MeasFields) (closing : Bool)
    (order : List Delivery) :
    (s.delivered f closing order).sqc.closeKind = .automatic ∧
      (s.delivered f closing order).sqc.startHold = s.sqc.startHold := by
  refine State.delivered_invariant (p := fun u => u.sqc.closeKind = .automatic ∧ u.sqc.startHold = s.sqc.startHold)
    (fun x _ u h => ?_) ⟨auto, rfl⟩
  by_cases cdu : x = .cdu
  · subst cdu
    exact ⟨State.deliverVoltages_kind h.1 _ _ _, (State.MayClose.deliverVoltages u _ _ _).startHold.trans h.2⟩
  · have carried := u.deliver_carries f closing cdu
    exact ⟨carried.kind.trans h.1, carried.startHold.trans h.2⟩

/-! ### Bits of the measurement link (R1 to R4) -/

/-- The state that a good frame's deliveries find (R4 to R7). -/
def State.taken (s : State) (f : MeasFields) : State :=
  (((s.withMfp fun m => m.takeGood f).withPru fun p => { p with pace := none }).withBtu fun b =>
    { b with testMoment := true }).refreshCharge

theorem State.takeGoodFrame_eq (s : State) (f : MeasFields) (order : List Delivery) :
    s.takeGoodFrame f order = (s.taken f).delivered f (s.cdu.pulse == .close) (deliveryOrder order) := rfl

theorem State.Obeys.of_same {starts : Bool} {s u t : State} (h : u.Obeys starts t) (sqc : u.sqc = s.sqc)
    (cdu : u.cdu.closeView = s.cdu.closeView) (settings : u.svp.settings = s.svp.settings) (tgu : u.tgu = s.tgu)
    (reserve : u.btu.reserve = s.btu.reserve) : s.Obeys starts t := by
  have same : s.Carries true u := .of_cdu sqc settings cdu
  have pulse : u.cdu.pulse = s.cdu.pulse := congrArg (fun v => v.1) cdu
  refine ⟨h.sequence ∘ same.sequence, fun idle closes => ?_, fun none => ?_⟩
  · obtain ⟨begun, handle, tag, automatic⟩ := h.closes (pulse ▸ idle) closes
    refine ⟨begun, tgu ▸ handle, ?_, fun auto => ?_⟩
    · rwa [State.tagInForce, tgu] at tag
    · have permitted := automatic auto
      rwa [State.reserveHolds, reserve] at permitted
  · have counts := h.counts none
    rwa [same.operations, same.lastClosed, same.settings] at counts

theorem State.takeGoodFrame_obeys {starts : Bool} (s : State) (f : MeasFields) (order : List Delivery) :
    s.Obeys starts (s.takeGoodFrame f order) := by
  rw [State.takeGoodFrame_eq]
  exact ((s.taken f).delivered_obeys f _ (deliveryOrder_nodup order)).of_same rfl rfl rfl rfl rfl

theorem State.bitsToArrival_obeys {starts : Bool} (s : State) (bits : List LinkBit) (order : List Delivery) :
    s.Obeys starts (s.bitsToArrival bits order) := by
  unfold State.bitsToArrival
  split
  · exact State.Carries.obeys (d := true) (s := s) (.of_view rfl)
  · unfold State.frameArrives
    split
    · exact ((s.sampled bits).takeGoodFrame_obeys _ _).of_same rfl rfl rfl rfl rfl
    · exact State.Carries.obeys (d := true) (s := s) (.of_view rfl)
  · exact State.Carries.refl_obeys s

theorem State.bitsToArrival_held {s : State} (auto : s.sqc.closeKind = .automatic) (bits : List LinkBit)
    (order : List Delivery) :
    (s.bitsToArrival bits order).sqc.closeKind = .automatic ∧
      (s.bitsToArrival bits order).sqc.startHold = s.sqc.startHold := by
  unfold State.bitsToArrival
  split
  · exact ⟨auto, rfl⟩
  · unfold State.frameArrives
    split
    · rw [State.takeGoodFrame_eq]
      exact State.delivered_held (s := (s.sampled bits).taken _) auto _ _ _
    · exact ⟨auto, rfl⟩
  · exact ⟨auto, rfl⟩

end Sys2Proof.Machine
end

section
/-! SUPPORT. The same for the contacts, the keys, the inputs, the port and the starts. -/

namespace Sys2Proof.Machine

/-! ### Contacts, keys and inputs (R62 to R65, R149 to R151) -/

/-- A definite change counts an operation exactly where the last definite position goes from Closed to Open (R62, R65). -/
theorem State.judgePosition_obeys {starts : Bool} (s : State) (before : Position) (clearFirst : Bool) :
    s.Obeys starts (s.judgePosition before clearFirst) := by
  unfold State.judgePosition
  split
  · exact .onlyIf fun _ => (State.Carries.withCdu (d := true) rfl).obeys
  · unfold State.onlyIf
    split
    · next was =>
      simp only [Bool.not_eq_true', State.definiteChange, if_true] at was ⊢
      have closed := State.Carries.changeToClosed ((s.withCdu fun c => { c with indeterminate := none, positionFault := false }).withCdu
        fun c => { c with lastClosed := true })
      exact ⟨fun h => closed.sequence (h.of_sqc rfl rfl), fun idle closes => absurd (closed.pulse closes) idle,
        fun _ => ⟨by rw [closed.operations]; simp [was], closed.settings⟩⟩
    · exact (State.Carries.withCdu (d := true) rfl).obeys
  · unfold State.onlyIf
    split
    · next was =>
      simp only [State.definiteChange, Bool.false_eq_true, if_false]
      have opened := State.Carries.changeToOpen (d := true) ((s.withCdu fun c => { c with indeterminate := none, positionFault := false }).withCdu
        fun c => { c with lastClosed := false, operations := c.operations + 1 }) clearFirst
      exact ⟨fun h => opened.sequence (h.of_sqc rfl rfl), fun idle closes => absurd (opened.pulse closes) idle,
        fun _ => ⟨by rw [opened.operations, opened.lastClosed]; simp [was], opened.settings⟩⟩
    · exact (State.Carries.withCdu (d := true) rfl).obeys

theorem State.setContacts_closeView (s : State) (pins : List InputPin) (made : Bool) :
    (s.setContacts pins made).cdu.closeView = s.cdu.closeView := by
  rw [State.setContacts, State.endCounts]
  rfl

theorem State.changeContact_obeys {starts : Bool} (s : State) (contact : Contact) (made clearFirst : Bool) :
    s.Obeys starts (s.changeContact contact made clearFirst) := by
  unfold State.changeContact
  exact .onlyIf fun _ => ((s.setContacts _ made).judgePosition_obeys s.position clearFirst).of_same (by simp)
    (s.setContacts_closeView _ made) (by simp) (by simp) (by simp)

/-- A debounced input: its edge moves nothing that the laws read. -/
theorem State.debounce_obeys {starts : Bool} (s : State) (pin : InputPin) (level : Bool) (moment : InputMoment)
    {change : State → State} (held : (s.endCount pin).Obeys starts (change (s.endCount pin))) :
    s.Obeys starts (s.debounce pin level moment change) := by
  cases moment with
  | edge => exact State.Carries.obeys (d := true) (.of_view (by simp [State.debounce, State.lawView]))
  | held =>
    refine .onlyIf (f := fun s => change (s.endCount pin)) fun _ => held.of_same ?_ ?_ ?_ ?_ ?_
    all_goals simp

theorem State.keyChange_obeys {starts : Bool} (s : State) (pressed : Bool) (follow : Keys → Keys) {press : State → State}
    (pressed_ : ∀ u : State, u.Obeys starts (press u)) : s.Obeys starts (s.keyChange pressed follow press) := by
  unfold State.keyChange State.onlyIf
  split
  · obtain ⟨sequence, closes, counts⟩ := pressed_ (s.withTgu fun t => { t with keys := follow t.keys })
    refine ⟨fun h => sequence (h.of_sqc rfl rfl), fun idle closing => ?_, counts⟩
    obtain ⟨begun, handle, tag, automatic⟩ := closes idle closing
    exact ⟨begun, handle, tag, automatic⟩
  · exact State.Carries.obeys (d := true) (.of_view rfl)

theorem State.closePress_obeys {starts : Bool} (s : State) : s.Obeys starts s.closePress := by
  unfold State.closePress
  split
  · exact (State.MayClose.operatorClose s).obeys (by simp)
  · exact State.Carries.obeys (d := true) (.of_view (by simp [State.lawView]))

/-! ### The service port (R170 to R172) -/

theorem State.serve_obeys {starts : Bool} (s : State) (r : Request) : s.Obeys starts (s.serve r) := by
  cases r with
  | readStatus part => exact State.Carries.obeys (d := true) (.of_view rfl)
  | readRecordsFrom n => exact State.Carries.obeys (d := true) (.of_view rfl)
  | readPeerTable => exact State.Carries.obeys (d := true) (.of_view rfl)
  | readTagTable => exact State.Carries.obeys (d := true) (.of_view rfl)
  | operatorTrip => exact ((State.Carries.operatorTrip (d := true) s).keep (t := s.serveTrip) rfl).obeys
  | operatorClose =>
    exact ((State.MayClose.operatorClose s).keep (t := s.serveClose) rfl rfl rfl rfl).obeys (by simp)
  | tagApply code =>
    refine State.Carries.obeys (d := true) (State.Carries.keep (s := s.onlyIf (s.cfg.crewSlot code).isSome fun s =>
      s.localApply .service code (s.cfg.crewSlot code)) (.onlyIf fun _ => .localApply s _ _ _) rfl)
  | tagRemove code =>
    refine State.Carries.obeys (d := true) ?_
    unfold State.serve State.serveTagRemove
    simp only
    split
    · exact (State.Carries.localRemoval s .service .localPanel code).keep rfl
    · exact .of_view rfl
  | batteryTest => exact State.Carries.obeys (d := true) (.of_view (by simp [State.serve, State.lawView]))
  | settingsRestart => exact State.Carries.obeys (d := true) (.of_view (by simp [State.serve, State.lawView]))

theorem State.resetAssembly_serve_obeys {starts : Bool} (s : State) (r : Request) :
    s.Obeys starts (s.resetAssembly.serve r) :=
  (s.resetAssembly.serve_obeys r).of_same rfl rfl rfl rfl rfl

theorem State.assemble_obeys {starts : Bool} (s : State) (rx : LineByte) : s.Obeys starts (s.assemble rx) := by
  have beside : ∀ t : State, t.lawView = s.lawView → s.Obeys starts t := fun t view =>
    State.Carries.obeys (d := true) (.of_view view)
  unfold State.assemble
  split
  · split
    · exact beside _ rfl
    · exact beside _ rfl
  · exact beside _ rfl
  · split
    · exact beside _ rfl
    · exact beside _ rfl
  · exact beside _ rfl
  · simp only
    split
    · unfold State.judgeFrame
      split
      · exact beside _ rfl
      · simp only
        split
        · exact s.resetAssembly_serve_obeys _
        · exact beside _ rfl
    · exact beside _ rfl
  · exact beside _ rfl

/-! ### The starts (R49, R179 to R181) -/

/-- A read brings settings into force whose N is 1 at the least (R177). -/
theorem settingsOf_limit (read : MemRead) : 1 ≤ (settingsOf read).tripsToLockout := by
  have ranges := (settingsOf_sound read).2.1
  simp only [rangesOk, Bool.and_eq_true, inRange, decide_eq_true_eq] at ranges
  omega

/-- The SQC set up at a start is sound (R49). -/
theorem sqcAtStart_sound {st : Settings} (limit : 1 ≤ st.tripsToLockout) (ready handleDown : Bool) :
    (sqcAtStart st ready handleDown).Sound st.tripsToLockout := by
  refine ⟨limit, Nat.zero_le _, ?_⟩
  unfold Sqc.Stands
  cases ready <;> cases handleDown <;> simp [sqcAtStart]

/-- A start that leaves no close pulse begun and a sound sequence. -/
theorem State.Obeys.of_start {s t : State} (sequence : t.SequenceSound) (pulse : t.cdu.pulse ≠ .close) : s.Obeys true t :=
  ⟨fun _ => sequence, fun _ closes => absurd closes pulse, fun none => by cases none⟩

/-- A cold start begins no close pulse: start hold is on, and no close is an operator's (R46, R179). -/
theorem State.coldStart_obeys (s : State) (settings store : MemRead) (i : InputLevels) (between : List LinkBit)
    (order : List Delivery) : s.Obeys true (s.coldStart settings store i between order) := by
  have blocks : (((s.coldBlocks settings i).recordFault (faultOf settings)).restoreTags store).lawView =
      (s.coldBlocks settings i).lawView := by simp [State.lawView]
  simp only [State.lawView, Prod.mk.injEq] at blocks
  obtain ⟨-, cdu, inForce⟩ := blocks
  generalize up : (((s.coldBlocks settings i).recordFault (faultOf settings)).restoreTags store).setUpSqc = u
  have sound : u.drawSequence.SequenceSound := by
    rw [← up]
    rw [State.sequenceSound_iff]
    have limit := settingsOf_limit settings
    rw [← show _ = settingsOf settings from inForce] at limit
    exact sqcAtStart_sound limit _ _
  have idle : u.drawSequence.cdu.pulse ≠ .close := by
    rw [← up]
    change (((s.coldBlocks settings i).recordFault (faultOf settings)).restoreTags store).cdu.pulse ≠ .close
    rw [cdu]
    nofun
  have frame := u.drawSequence.bitsToArrival_obeys (starts := false) between order
  have held := State.bitsToArrival_held (s := u.drawSequence) (by rw [← up]; rfl) between order
  have last : (s.coldStart settings store i between order).lawView = (u.drawSequence.bitsToArrival between order).lawView := by
    rw [← up]
    simp [State.lawView, State.coldStart, State.drawStarts]
  simp only [State.lawView, Prod.mk.injEq] at last
  obtain ⟨sqc', cdu', inForce'⟩ := last
  refine .of_start ((frame.sequence sound).of_sqc sqc' inForce') fun closes => ?_
  rw [cdu'] at closes
  have hold := ((frame.closes idle closes).automatic held.1).2.1
  rw [held.2, ← up] at hold
  cases hold

theorem State.followRead_obeys (s : State) (event : ReadEvent) (closedMade openMade : Bool) :
    s.Obeys true (s.followRead event closedMade openMade) := by
  cases event with
  | ready => exact State.Carries.obeys (d := true) (.of_view (by
      simp [State.lawView, State.followRead, (Svp.answerRead_frame s.svp).2.1]))
  | ended read =>
    refine .onlyIf (f := fun s => s.endRead read closedMade openMade) fun _ => ?_
    unfold State.endRead
    split
    · rw [State.applyRestart_eq s (read := read) rfl rfl]
      generalize up : s.restarted (settingsOf read) _ _ _ _ = u
      have last : (u.respond 0x40#8 .done []).freeLink.lawView = u.lawView := by simp [State.lawView]
      simp only [State.lawView, Prod.mk.injEq] at last
      obtain ⟨sqc, cdu, inForce⟩ := last
      refine .of_start (State.SequenceSound.of_sqc ?_ sqc inForce) ?_
      · rw [← up, State.sequenceSound_iff]
        exact sqcAtStart_sound (settingsOf_limit read) _ _
      · rw [cdu, ← up]
        nofun
    · exact State.Carries.obeys (d := true) (.of_view (by simp [State.lawView]))

end Sys2Proof.Machine
end

section
/-! SUPPORT. Every command and every step; then the two statements. -/

namespace Sys2Proof.Machine

/-- The charge timer stopped (R34, R41). -/
theorem State.Carries.uncharge {d : Bool} (s : State) : s.Carries d (s.withSqc fun q => { q with charge := none }) := by
  refine .withSqc s rfl rfl fun n h => ?_
  obtain ⟨limit, shots, stands⟩ := h
  refine ⟨limit, shots, ?_⟩
  unfold Sqc.Stands at stands ⊢
  cases seq : s.sqc.seq <;> simp_all [Sqc.Counts]

theorem State.agePeer_lawView (s : State) (id : Nat) (isDue : PeerEntry → Bool) (change : PeerEntry → Option PeerEntry) :
    (s.agePeer id isDue change).lawView = s.lawView := by
  unfold State.agePeer State.onlyIf
  repeat' split
  all_goals rfl

/-! ### Every command -/

/-- The commands that bring settings into force: COLD_START and SETTINGS_RESTART_APPLY (R177). -/
def bringsSettings : Instr → Bool
  | .coldStart .. => true
  | .settingsRestartApply .. => true
  | _ => false

/-- Every command answers a next state and obeys the laws. -/
theorem exec_obeys (i : Instr) (s : State) : ∃ t, exec i s = .next t ∧ s.Obeys (bringsSettings i) t := by
  have beside : ∀ {b : Bool} {t : State}, t.lawView = s.lawView → s.Obeys b t := fun view =>
    State.Carries.obeys (d := true) (.of_view view)
  have carried : ∀ {b d : Bool} {t : State}, s.Carries d t → s.Obeys b t := fun h => h.obeys
  cases i with
  | coldStart settings store inputs between order => exact ⟨_, rfl, s.coldStart_obeys _ _ _ _ _⟩
  | shortFrame bits => exact ⟨_, rfl, .whenStarted (beside (by simp [State.lawView]))⟩
  | measurementFrame bits order => exact ⟨_, rfl, .whenStarted (s.bitsToArrival_obeys _ _)⟩
  | stallPacedTake =>
    exact ⟨_, rfl, .whenStarted (.onlyIf fun _ => carried (d := true)
      ((State.Carries.takeHead (s.withPru fun p => { p with pace := some 4 })).before rfl))⟩
  | stalled => exact ⟨_, rfl, .whenStarted (.onlyIf fun _ => carried (d := true) (.stall s))⟩
  | measurementLost => exact ⟨_, rfl, .whenStarted (.onlyIf fun _ => carried (d := true) (.loseMeasurement s))⟩
  | measurementBack => exact ⟨_, rfl, .whenStarted (.onlyIf fun _ => beside rfl)⟩
  | closeChargeTimerExpiry => exact ⟨_, rfl, .whenStarted (.onlyIf fun _ => carried (d := true) (.closeEnergyFault s))⟩
  | tripPulseEnd =>
    exact ⟨_, rfl, .whenStarted (.onlyIf fun _ => ((State.MayClose.handReports s.endPulse).afterCarried
      (State.Carries.endPulse (d := true) s)).obeys (by simp))⟩
  | closePulseEnd =>
    exact ⟨_, rfl, .whenStarted (.onlyIf fun _ => ((State.MayClose.handReports s.endPulse).afterCarried
      (State.Carries.endPulse (d := true) s)).obeys (by simp))⟩
  | tripWindowEnd => exact ⟨_, rfl, .whenStarted (.onlyIf fun _ => carried (d := true) (.endTripWindow s))⟩
  | closeWindowEnd => exact ⟨_, rfl, .whenStarted (.onlyIf fun _ => carried (.endCloseWindow s))⟩
  | tripWaitExpiry => exact ⟨_, rfl, .whenStarted (.onlyIf fun _ => carried (d := true) (.tripEnergyFault s))⟩
  | retripWaitExpiry => exact ⟨_, rfl, .whenStarted (.onlyIf fun _ => carried (d := true) (.mechanismFailure s))⟩
  | contactChange contact made clearFirst moment =>
    cases moment with
    | edge => exact ⟨_, rfl, .whenStarted (beside (by simp [State.lawView]))⟩
    | held => exact ⟨_, rfl, .whenStarted (s.changeContact_obeys _ _ _)⟩
  | positionFault => exact ⟨_, rfl, .whenStarted (.onlyIf fun _ => carried (d := true) (.raisePositionFault s))⟩
  | recloseTimerExpiry =>
    refine ⟨_, rfl, .whenStarted (.onlyIf (f := fun s => s.closeGate true) fun runs => ?_)⟩
    refine (State.MayClose.closeGate s (fun h => h.counting (.inr (.inl (h.reclose ?_)))) true).obeys (by simp)
    cases timer : s.sqc.reclose with
    | none => simp [due, timer] at runs
    | some _ => rfl
  | chargeTimerExpiry =>
    exact ⟨_, rfl, .whenStarted (.onlyIf fun _ => carried (d := true)
      ((State.Carries.uncharge s).trans (.sqcCloseEnergyFault _)))⟩
  | resetTimerExpiry => exact ⟨_, rfl, .whenStarted (.onlyIf fun _ => carried (.sqcResetExpiry s))⟩
  | manualCloseWindowExpiry =>
    exact ⟨_, rfl, .whenStarted (.onlyIf fun _ => carried (d := true) (.withSqc s rfl rfl fun _ => id))⟩
  | startHoldExpiry =>
    exact ⟨_, rfl, .whenStarted (.onlyIf fun _ => ⟨fun h => by
      rw [State.sequenceSound_iff] at h ⊢
      exact h, fun idle closes => absurd closes idle, fun _ => ⟨uncounted rfl _, rfl⟩⟩)⟩
  | holdExpiry kind => exact ⟨_, rfl, .whenStarted (.onlyIf fun _ => carried (d := true) (.endHold s _ _))⟩
  | acPresentChange present moment =>
    refine ⟨_, rfl, .whenStarted (s.debounce_obeys .acp present moment ?_)⟩
    cases present with
    | true => exact (State.Carries.acReturns (d := true) _).obeys
    | false => exact (State.Carries.acGoes (d := true) _).obeys
  | lowVoltageTimerExpiry =>
    exact ⟨_, rfl, .whenStarted (.onlyIf fun _ => beside (by simp [State.lawView]))⟩
  | disconnectTimerExpiry =>
    exact ⟨_, rfl, .whenStarted (.onlyIf fun _ => carried (d := true) (.releaseContactor s))⟩
  | setpointWordSent => exact ⟨_, rfl, .whenStarted (.onlyIf fun _ => beside (by simp [State.lawView]))⟩
  | taperTimerExpiry => exact ⟨_, rfl, .whenStarted (.onlyIf fun _ => beside (by simp [State.lawView]))⟩
  | boostLimitExpiry => exact ⟨_, rfl, .whenStarted (.onlyIf fun _ => beside (by simp [State.lawView]))⟩
  | scheduleTimerExpiry => exact ⟨_, rfl, .whenStarted (.onlyIf fun _ => beside rfl)⟩
  | scheduledTestRequest => exact ⟨_, rfl, .whenStarted (.onlyIf fun _ => beside (by simp [State.lawView]))⟩
  | testStart => exact ⟨_, rfl, .whenStarted (.onlyIf fun _ => beside (by simp [State.lawView]))⟩
  | settleTimerExpiry => exact ⟨_, rfl, .whenStarted (.onlyIf fun _ => beside (by simp [State.lawView]))⟩
  | loadTimerExpiry => exact ⟨_, rfl, .whenStarted (.onlyIf fun _ => beside (by simp [State.lawView]))⟩
  | quietCountEnd => exact ⟨_, rfl, .whenStarted (.onlyIf fun _ => beside (by simp [State.lawView]))⟩
  | backoffEnd => exact ⟨_, rfl, .whenStarted (.onlyIf fun _ => beside (by simp [State.lawView]))⟩
  | radioReadySeen => exact ⟨_, rfl, .whenStarted (beside (by simp [State.lawView]))⟩
  | readyTimerExpiry => exact ⟨_, rfl, .whenStarted (.onlyIf fun _ => beside (by simp [State.lawView]))⟩
  | readyDrop sent back => exact ⟨_, rfl, .whenStarted (beside (by simp [State.lawView]))⟩
  | abortSent => exact ⟨_, rfl, .whenStarted (.onlyIf fun _ => beside (by simp [State.lawView]))⟩
  | copySent => exact ⟨_, rfl, .whenStarted (.onlyIf fun _ => carried (d := true) (.sendCopy s))⟩
  | keyDownExpiry => exact ⟨_, rfl, .whenStarted (.onlyIf fun _ => beside (by simp [State.lawView]))⟩
  | jabberExpiry => exact ⟨_, rfl, .whenStarted (.onlyIf fun _ => beside (by simp [State.lawView]))⟩
  | carrierChange present => exact ⟨_, rfl, .whenStarted (.onlyIf fun _ => beside (by simp [State.lawView]))⟩
  | radioByte rx => exact ⟨_, rfl, .whenStarted (beside (by simp [State.lawView]))⟩
  | receiveGapTimeout => exact ⟨_, rfl, .whenStarted (.onlyIf fun _ => beside rfl)⟩
  | beaconTimerExpiry => exact ⟨_, rfl, .whenStarted (.onlyIf fun _ => beside (by simp [State.lawView]))⟩
  | peerSilent id => exact ⟨_, rfl, .whenStarted (beside (s.agePeer_lawView _ _ _))⟩
  | peerRemoval id => exact ⟨_, rfl, .whenStarted (beside (s.agePeer_lawView _ _ _))⟩
  | wandAbort runs => exact ⟨_, rfl, .whenStarted (beside (by simp [State.lawView]))⟩
  | crewCodeComplete runs => exact ⟨_, rfl, .whenStarted (beside (by simp [State.lawView, State.followCode]))⟩
  | crewWindowExpiry => exact ⟨_, rfl, .whenStarted (.onlyIf fun _ => beside (by simp [State.lawView]))⟩
  | errorToneExpiry => exact ⟨_, rfl, .whenStarted (.onlyIf fun _ => beside rfl)⟩
  | toneToggle => exact ⟨_, rfl, .whenStarted (.onlyIf fun _ => beside (by simp [State.lawView]))⟩
  | tripKey pressed moment =>
    exact ⟨_, rfl, .whenStarted (s.debounce_obeys _ _ _ (State.keyChange_obeys _ _ _ fun u =>
      (State.Carries.tripPress (d := true) u).obeys))⟩
  | closeKey pressed moment =>
    exact ⟨_, rfl, .whenStarted (s.debounce_obeys _ _ _ (State.keyChange_obeys _ _ _ fun u => u.closePress_obeys))⟩
  | tagOnKey pressed moment =>
    exact ⟨_, rfl, .whenStarted (s.debounce_obeys _ _ _ (State.keyChange_obeys _ _ _ fun u =>
      (State.Carries.tagOnPress (d := true) u).obeys))⟩
  | tagOffKey pressed moment =>
    exact ⟨_, rfl, .whenStarted (s.debounce_obeys _ _ _ (State.keyChange_obeys _ _ _ fun u =>
      (State.Carries.tagOffPress (d := true) u).obeys))⟩
  | batteryTestKey pressed moment =>
    exact ⟨_, rfl, .whenStarted (s.debounce_obeys _ _ _ (State.keyChange_obeys _ _ _ fun u =>
      State.Carries.obeys (d := true) (.of_view (by simp [State.lawView]))))⟩
  | handleDown btuFirst moment =>
    exact ⟨_, rfl, .whenStarted (s.debounce_obeys _ _ _ (State.Carries.handleGoesDown _ _).obeys)⟩
  | handleUp moment =>
    exact ⟨_, rfl, .whenStarted (s.debounce_obeys _ _ _ (State.Carries.obeys (d := true) (.of_view rfl)))⟩
  | operatorTrip => exact ⟨_, rfl, .whenStarted (.onlyIf fun _ => s.resetAssembly_serve_obeys _)⟩
  | operatorClose => exact ⟨_, rfl, .whenStarted (.onlyIf fun _ => s.resetAssembly_serve_obeys _)⟩
  | tagApply code => exact ⟨_, rfl, .whenStarted (.onlyIf fun _ => s.resetAssembly_serve_obeys _)⟩
  | tagRemove code => exact ⟨_, rfl, .whenStarted (.onlyIf fun _ => s.resetAssembly_serve_obeys _)⟩
  | tagStoreWriteEnd acknowledged =>
    exact ⟨_, rfl, .whenStarted (.onlyIf fun _ => beside (by simp [State.lawView]))⟩
  | batteryTest => exact ⟨_, rfl, .whenStarted (.onlyIf fun _ => s.resetAssembly_serve_obeys _)⟩
  | readStatus part => exact ⟨_, rfl, .whenStarted (.onlyIf fun _ => s.resetAssembly_serve_obeys _)⟩
  | readRecordsFrom number => exact ⟨_, rfl, .whenStarted (.onlyIf fun _ => s.resetAssembly_serve_obeys _)⟩
  | readPeerTable => exact ⟨_, rfl, .whenStarted (.onlyIf fun _ => s.resetAssembly_serve_obeys _)⟩
  | readTagTable => exact ⟨_, rfl, .whenStarted (.onlyIf fun _ => s.resetAssembly_serve_obeys _)⟩
  | settingsRestart => exact ⟨_, rfl, .whenStarted (.onlyIf fun _ => s.resetAssembly_serve_obeys _)⟩
  | settingsRestartApply event closedMade openMade =>
    exact ⟨_, rfl, .whenStarted (.onlyIf fun _ => s.followRead_obeys _ _ _)⟩
  | badRequest code payload => exact ⟨_, rfl, .whenStarted (.onlyIf fun _ => beside rfl)⟩
  | requestDiscarded cause => exact ⟨_, rfl, .whenStarted (.onlyIf fun _ => beside rfl)⟩
  | serviceGapTimeout => exact ⟨_, rfl, .whenStarted (.onlyIf fun _ => beside rfl)⟩
  | responseSent => exact ⟨_, rfl, .whenStarted (.onlyIf fun _ => beside rfl)⟩
  | wandMark runs => exact ⟨_, rfl, .whenStarted (beside (by simp [State.lawView]))⟩
  | serviceByte rx => exact ⟨_, rfl, .whenStarted (.onlyIf fun _ => s.assemble_obeys _)⟩

/-- No step leaves a sound sequence. -/
theorem State.SequenceSound.step {s t : State} (h : s.SequenceSound) (stepped : step s = .next t) : t.SequenceSound := by
  unfold Machine.step at stepped
  split at stepped
  · next i rest _ =>
    obtain ⟨u, answer, obeys⟩ := exec_obeys i { s with pending := rest }
    rw [answer, Host.Outcome.next.injEq] at stepped
    subst stepped
    exact obeys.sequence (h.of_sqc rfl rfl)
  · rw [Host.Outcome.next.injEq] at stepped
    subst stepped
    unfold State.idle
    split
    · split
      · obtain ⟨limit, shots, ready, counting, tripping, reason, reclose, charge, reset⟩ := h
        exact ⟨limit, shots, ready, counting, tripping, reason, by simpa [State.advance, Sqc.tick, tickTimer_isSome] using reclose,
          by simpa [State.advance, Sqc.tick, tickTimer_isSome] using charge,
          by simpa [State.advance, Sqc.tick, tickTimer_isSome] using reset⟩
      · exact h.of_sqc rfl rfl
    · exact h

end Sys2Proof.Machine

/-! ### The statements -/

open Sys2Proof.Machine in
/-- Settles O6: every command obeys the laws of the sequence, and the clock runs its timers alone. -/
theorem stepKeepsTheSequenceSound : Obligations.StepKeepsTheSequenceSound := fun _ _ sound stepped => sound.step stepped

open Sys2Proof.Machine in
/-- Settles O10: a close pulse begins where a close order was permitted, and a definite change alone counts an operation. -/
theorem closePulseAndOperationsLaws : Obligations.ClosePulseAndOperationsLaws := by
  refine ⟨fun c s t answer idle closes => ?_, fun c s t answer cold restart => ?_⟩
  all_goals
    obtain ⟨u, answer', obeys⟩ := exec_obeys c s
    rw [answer, Host.Outcome.next.injEq] at answer'
    subst answer'
  · obtain ⟨begun, ⟨handle, handle'⟩, tag, automatic⟩ := obeys.closes idle closes
    exact ⟨handle, handle', tag, begun.begun, begun.seq, begun.spent, begun.unready, begun.window, begun.timer, automatic⟩
  · refine obeys.counts ?_
    cases c with
    | coldStart a b i k o => exact absurd rfl (cold a b i k o)
    | settingsRestartApply a b d => exact absurd rfl (restart a b d)
    | _ => rfl

end

section
/-! SUPPORT. The entries to a sequence state, the pulses and the close gate, each as the whole state it leaves. -/

namespace Sys2Proof.Machine

/-! ### The charge enables around a bar and a pulse (R51, R53, R54) -/

theorem State.noPulse_iff (s : State) : s.noPulse = true ↔ s.cdu.pulse = .none := by simp [State.noPulse]

/-- The reserve state that holds is one of NORMAL and RESERVE. -/
theorem State.reserveHolds_iff (s : State) : s.reserveHolds = true ↔ s.btu.reserve ≠ .critical ∧ s.btu.reserve ≠ .disconnect := by
  unfold State.reserveHolds
  cases s.btu.reserve <;> decide

/-- The permission of close charging, the bar named (R51). -/
theorem State.closeChargePermitted_barred (s : State) :
    s.closeChargePermitted = (s.closeSupply && !s.cdu.closeBarred && s.cdu.pulse != Pulse.close) := by
  unfold State.closeChargePermitted State.closeSupply State.reserveHolds
  rw [Bool.and_right_comm (_ || _), Bool.and_right_comm (_ && _) (_ != _)]

/-- A judgement of the trip enable just before another with the same permission leaves no trace. -/
theorem Cdu.charged_charged (c : Cdu) (trip close : Bool) : (c.charged trip close).charged trip false = c.charged trip false := by
  have enable : ∀ allowed low on high : Bool,
      (allowed && (low || allowed && (low || on && high) && high)) = (allowed && (low || on && high)) := by decide
  unfold Cdu.charged
  rw [enable]
  rfl

/-- A close pulse begun and the enables judged after another judgement. -/
theorem Cdu.charged_closing (c : Cdu) (trip close : Bool) (width : Nat) :
    ((c.charged trip close).closing width).charged trip false = (c.closing width).charged trip false :=
  (congrArg (fun u : Cdu => u.charged trip false) (by rfl)).trans ((c.closing width).charged_charged trip close)

/-! ### Entries (R27, R33 to R38, R53, R132) -/

/-- An entry to READY clears the own-order marks and lifts the bar, and the enables follow. -/
theorem State.enterSeq_ready (s : State) :
    s.enterSeq .ready =
      { s with
        sqc := s.sqc.moved .ready none
        ocu := s.ocu.unmarked
        cdu :=
          { s.cdu with closeBarred := false }.charged (s.tripSupply && s.cdu.pulse != Pulse.trip)
            (s.closeSupply && s.cdu.pulse != Pulse.close) } := by
  rw [State.enterSeq_eq, show (s.sqc.seq == .ready && SeqState.ready != .ready) = false by simp, State.onlyIf_false]
  have lifted : s.entering .ready =
      (({ s with sqc := s.sqc.moved .ready none, ocu := s.ocu.unmarked } : State).withCdu fun c =>
        { c with closeBarred := false }).refreshCharge := rfl
  rw [lifted, State.refreshCharge_eq, State.tripChargePermitted_eq, State.closeChargePermitted_eq _ rfl]
  rfl

/-- An entry to RESET_TIMING clears the own-order marks. -/
theorem State.entering_resetTiming (s : State) :
    s.entering .resetTiming = { s with sqc := s.sqc.moved .resetTiming none, ocu := s.ocu.unmarked } := rfl

theorem State.entering_closeCharge (s : State) : s.entering .closeCharge = { s with sqc := s.sqc.moved .closeCharge none } := rfl

/-- An entry to CLOSING lifts the bar, and the enables follow. -/
theorem State.entering_closing (s : State) :
    s.entering .closing =
      { s with
        sqc := s.sqc.moved .closing none
        cdu :=
          { s.cdu with closeBarred := false }.charged (s.tripSupply && s.cdu.pulse != Pulse.trip)
            (s.closeSupply && s.cdu.pulse != Pulse.close) } := by
  have lifted : s.entering .closing =
      ((s.withSqc fun q => q.moved .closing none).withCdu fun c => { c with closeBarred := false }).refreshCharge := rfl
  rw [lifted, State.refreshCharge_eq, State.tripChargePermitted_eq, State.closeChargePermitted_eq _ rfl]
  rfl

/-! ### Pulses (R54, R60) -/

theorem State.beginClosePulse_eq (s : State) :
    s.beginClosePulse = { s with cdu := (s.cdu.closing s.cfg.closeWidth).charged s.tripSupply false } := by
  rw [State.beginClosePulse, State.refreshCharge_eq, State.tripChargePermitted_eq, State.closeChargePermitted_barred]
  simp only [State.withCdu, Bool.and_false, bne_self_eq_false]
  rw [show (Pulse.close != Pulse.trip) = true from rfl, Bool.and_true]
  rfl

theorem State.beginTripPulse_eq (s : State) (request : TripRequest) :
    s.beginTripPulse request =
      { s with
        cdu := (s.cdu.tripping s.cfg.tripWidth request).charged false (s.closeSupply && !s.cdu.closeBarred) } := by
  rw [State.beginTripPulse, State.refreshCharge_eq, State.tripChargePermitted_eq, State.closeChargePermitted_barred]
  simp only [State.withCdu, Bool.and_false, bne_self_eq_false]
  rw [show (Pulse.trip != Pulse.close) = true from rfl, Bool.and_true]
  rfl

theorem State.endPulse_eq (s : State) :
    s.endPulse =
      { s with
        cdu := { s.cdu with pulse := .none, pulseTimer := none }.charged s.tripSupply (s.closeSupply && !s.cdu.closeBarred) } := by
  rw [State.endPulse, State.refreshCharge_eq, State.tripChargePermitted_eq, State.closeChargePermitted_barred]
  simp only [State.withCdu]
  rw [show (Pulse.none != Pulse.close) = true from rfl, show (Pulse.none != Pulse.trip) = true from rfl, Bool.and_true,
    Bool.and_true]
  rfl

/-- With no ready report owed none is handed (R50). -/
theorem State.handReports_unowed {s : State} (trip : s.cdu.tripOwed = false) (close : s.cdu.closeOwed = false) :
    s.handReports = s := by
  simp [State.handReports, trip, close]

/-! ### The close order (R33, R41, R60) -/

/-- A close order that finds the close capacitor ready and no pulse begins its pulse. -/
theorem State.fireClose_fires {s : State} (pulse : s.cdu.pulse = .none) (ready : s.cdu.closeReady = true) :
    s.fireClose =
      { s with
        sqc := { s.sqc with closeBegun := true, charge := none }
        cdu := (s.cdu.closing s.cfg.closeWidth).charged s.tripSupply false } := by
  rw [State.fireClose, if_pos (by simp [State.closeOrderFires, State.noPulse, pulse, ready]), State.beginClosePulse_eq]
  rfl

/-- An entry to CLOSING with the pulse begun at once. -/
theorem State.enterClosing_fires {s : State} (left : s.sqc.seq ≠ .ready) (pulse : s.cdu.pulse = .none)
    (ready : s.cdu.closeReady = true) (kind : CloseKind) :
    ((s.enterSeq .closing).withSqc fun q => { q with closeKind := kind }).fireClose =
      { s with
        sqc := { s.sqc.moved .closing none with closeKind := kind, closeBegun := true }
        cdu := ({ s.cdu with closeBarred := false }.closing s.cfg.closeWidth).charged s.tripSupply false } := by
  rw [State.enterSeq_elsewhere left, State.entering_closing, State.fireClose_fires (by exact pulse) (by exact ready), pulse]
  ext1
  case cdu =>
    rw [show (Pulse.none != Pulse.trip) = true from rfl, Bool.and_true]
    exact Cdu.charged_closing _ _ _ _
  all_goals rfl

end Sys2Proof.Machine
end

section
/-! SUPPORT. The events of the SQC's and the CDU's own timers, and the close gate row by row. -/

namespace Sys2Proof.Machine

/-! ### The events -/

section

variable {s : State} (on : s.started = true)

include on

theorem exec_recloseTimerExpiry (due : s.sqc.reclose = some 0) : exec .recloseTimerExpiry s = .next (s.closeGate true) :=
  congrArg Host.Outcome.next (State.whenStarted_onlyIf (c := fun u => Machine.due u.sqc.reclose) on (by simp [due]))

theorem exec_chargeTimerExpiry (due : s.sqc.charge = some 0) :
    exec .chargeTimerExpiry s = .next (s.withSqc fun q => { q with charge := none }).sqcCloseEnergyFault :=
  congrArg Host.Outcome.next (State.whenStarted_onlyIf (c := fun u => Machine.due u.sqc.charge)
    (f := fun u => (u.withSqc fun q => { q with charge := none }).sqcCloseEnergyFault) on (by simp [due]))

theorem exec_resetTimerExpiry (due : s.sqc.reset = some 0) : exec .resetTimerExpiry s = .next s.sqcResetExpiry :=
  congrArg Host.Outcome.next (State.whenStarted_onlyIf (c := fun u => Machine.due u.sqc.reset) on (by simp [due]))

theorem exec_manualCloseWindowExpiry (due : s.sqc.manualWindow = some 0) :
    exec .manualCloseWindowExpiry s = .next { s with sqc := { s.sqc with manualWindow := none } } :=
  congrArg Host.Outcome.next (State.whenStarted_onlyIf (c := fun u => Machine.due u.sqc.manualWindow) on (by simp [due]))

theorem exec_startHoldExpiry (due : s.sqc.startHold = some 0) :
    exec .startHoldExpiry s = .next { s with sqc := { s.sqc with startHold := none } } :=
  congrArg Host.Outcome.next (State.whenStarted_onlyIf (c := fun u => Machine.due u.sqc.startHold) on (by simp [due]))

theorem exec_tripPulseEnd (pulse : s.cdu.pulse = .trip) (due : s.cdu.pulseTimer = some 0) :
    exec .tripPulseEnd s = .next s.endPulse.handReports :=
  congrArg Host.Outcome.next
    (State.whenStarted_onlyIf (c := fun u => u.cdu.pulse == .trip && Machine.due u.cdu.pulseTimer) on (by simp [pulse, due]))

theorem exec_closePulseEnd (pulse : s.cdu.pulse = .close) (due : s.cdu.pulseTimer = some 0) :
    exec .closePulseEnd s = .next s.endPulse.handReports :=
  congrArg Host.Outcome.next
    (State.whenStarted_onlyIf (c := fun u => u.cdu.pulse == .close && Machine.due u.cdu.pulseTimer) on (by simp [pulse, due]))

theorem exec_tripWindowEnd (due : s.cdu.tripWindow = some 0) : exec .tripWindowEnd s = .next s.endTripWindow :=
  congrArg Host.Outcome.next (State.whenStarted_onlyIf (c := fun u => Machine.due u.cdu.tripWindow) on (by simp [due]))

theorem exec_closeWindowEnd (due : s.cdu.closeWindow = some 0) : exec .closeWindowEnd s = .next s.endCloseWindow :=
  congrArg Host.Outcome.next (State.whenStarted_onlyIf (c := fun u => Machine.due u.cdu.closeWindow) on (by simp [due]))

theorem exec_tripWaitExpiry (due : s.cdu.tripWait = some 0) : exec .tripWaitExpiry s = .next s.tripEnergyFault :=
  congrArg Host.Outcome.next (State.whenStarted_onlyIf (c := fun u => Machine.due u.cdu.tripWait) on (by simp [due]))

theorem exec_retripWaitExpiry (due : s.cdu.retripWait = some 0) : exec .retripWaitExpiry s = .next s.mechanismFailure :=
  congrArg Host.Outcome.next (State.whenStarted_onlyIf (c := fun u => Machine.due u.cdu.retripWait) on (by simp [due]))

theorem exec_closeChargeTimerExpiry (due : s.cdu.closeCharge = some 0) :
    exec .closeChargeTimerExpiry s = .next s.closeEnergyFault :=
  congrArg Host.Outcome.next (State.whenStarted_onlyIf (c := fun u => Machine.due u.cdu.closeCharge) on (by simp [due]))

theorem exec_lowVoltageTimerExpiry (due : s.btu.lowVoltage = some 0) : exec .lowVoltageTimerExpiry s = .next s.setShutdown :=
  congrArg Host.Outcome.next (State.whenStarted_onlyIf (c := fun u => Machine.due u.btu.lowVoltage) on (by simp [due]))

theorem exec_disconnectTimerExpiry (due : s.btu.disconnect = some 0) :
    exec .disconnectTimerExpiry s = .next s.releaseContactor :=
  congrArg Host.Outcome.next (State.whenStarted_onlyIf (c := fun u => Machine.due u.btu.disconnect) on (by simp [due]))

end

/-! ### The close gate (R33) -/

/-- The close gate with all its refusals passed: the pulse of a ready capacitor, or the wait for it. -/
theorem State.closeGate_passes {s : State} (handle : s.tgu.handleDown = false) (tag : s.tagInForce = false)
    (lost : s.mfp.lost = false) (holds : s.reserveHolds = true) (startHold : s.sqc.startHold = none) (wait : Bool) :
    s.closeGate wait =
      if s.closeOrderFires = true then ((s.enterSeq .closing).withSqc fun q => { q with closeKind := .automatic }).fireClose
      else if wait = true then (s.enterSeq .closeCharge).withSqc fun q => { q with charge := some 20000 }
      else s := by
  simp [State.closeGate, State.startHoldOn, handle, tag, lost, holds, startHold]

theorem State.closeOrderFires_iff (s : State) : s.closeOrderFires = true ↔ s.cdu.closeReady = true ∧ s.cdu.pulse = .none := by
  rw [State.closeOrderFires, Bool.and_eq_true, State.noPulse_iff, and_comm]

/-- Why the close gate refuses, in its order; a reserve state that does not hold refuses with BATTERY (R33; log 16). -/
def State.gateRefuses (s : State) : Option LockReason :=
  if s.tgu.handleDown = true then some .handle
  else if s.tagInForce = true then some .tagged
  else if s.mfp.lost = true then some .measurement
  else if s.reserveHolds = false then some .battery
  else if s.sqc.startHold ≠ none then some .startHold
  else none

/-- A close gate that refuses locks out. -/
theorem State.closeGate_refuses {s : State} {reason : LockReason} (refuses : s.gateRefuses = some reason) (wait : Bool) :
    s.closeGate wait = s.enterLockout reason := by
  unfold State.gateRefuses at refuses
  unfold State.closeGate State.startHoldOn
  split at refuses
  · next handle => rw [if_pos handle, Option.some.inj refuses]
  · next handle =>
    rw [if_neg handle]
    split at refuses
    · next tag => rw [if_pos tag, Option.some.inj refuses]
    · next tag =>
      rw [if_neg tag]
      split at refuses
      · next lost => rw [if_pos lost, Option.some.inj refuses]
      · next lost =>
        rw [if_neg lost]
        split at refuses
        · next reserve => rw [if_pos (by simp [reserve]), Option.some.inj refuses]
        · next reserve =>
          rw [if_neg (by simpa using reserve)]
          split at refuses
          · next hold => rw [if_pos (by simpa [Option.isSome_iff_ne_none] using hold), Option.some.inj refuses]
          · cases refuses

/-- A close gate that does not refuse. -/
theorem State.closeGate_unrefused {s : State} (refuses : s.gateRefuses = none) (wait : Bool) :
    s.closeGate wait =
      if s.closeOrderFires = true then ((s.enterSeq .closing).withSqc fun q => { q with closeKind := .automatic }).fireClose
      else if wait = true then (s.enterSeq .closeCharge).withSqc fun q => { q with charge := some 20000 }
      else s := by
  unfold State.gateRefuses at refuses
  split at refuses
  · cases refuses
  split at refuses
  · cases refuses
  split at refuses
  · cases refuses
  split at refuses
  · cases refuses
  split at refuses
  · cases refuses
  next handle tag lost holds hold =>
    exact State.closeGate_passes (by simpa using handle) (by simpa using tag) (by simpa using lost) (by simpa using holds)
      (by simpa using hold) wait

end Sys2Proof.Machine

/-! ### The statements -/

open Sys2Proof.Machine in
/-- Settles O29: the gate's refusals in their order, then the pulse of a ready capacitor or the wait for it. -/
theorem closeGate : Obligations.CloseGate := by
  intro s on seq reclose
  refine ⟨_, exec_recloseTimerExpiry on reclose, ?_⟩
  have locks (reason : LockReason) (refuses : s.gateRefuses = some reason) : LocksOut s (s.closeGate true) reason [] := by
    rw [State.closeGate_refuses refuses]
    exact State.enterLockout_locksOut (.inl (by simp [seq])) reason
  by_cases handle : s.tgu.handleDown = true
  · rw [if_pos handle]
    exact locks _ (by rw [State.gateRefuses, if_pos handle])
  by_cases tag : s.tagInForce = true
  · rw [if_neg handle, if_pos tag]
    exact locks _ (by rw [State.gateRefuses, if_neg handle, if_pos tag])
  by_cases lost : s.mfp.lost = true
  · rw [if_neg handle, if_neg tag, if_pos lost]
    exact locks _ (by rw [State.gateRefuses, if_neg handle, if_neg tag, if_pos lost])
  rw [if_neg handle, if_neg tag, if_neg lost]
  cases holds : s.reserveHolds with
  | false =>
    have battery := locks .battery (by rw [State.gateRefuses, if_neg handle, if_neg tag, if_neg lost, if_pos holds])
    by_cases critical : s.btu.reserve = .critical
    · rwa [if_pos critical]
    · have released : s.btu.reserve = .disconnect := by
        by_contra attached
        simp [(s.reserveHolds_iff).mpr ⟨critical, attached⟩] at holds
      simpa [released] using battery
  | true =>
    obtain ⟨critical, released⟩ := (s.reserveHolds_iff).mp holds
    rw [if_neg critical]
    by_cases hold : s.sqc.startHold = none
    · have passes : s.gateRefuses = none := by
        rw [State.gateRefuses, if_neg handle, if_neg tag, if_neg lost, if_neg (by simp [holds]), if_neg (by simp [hold])]
      rw [if_neg (by simp [hold]), State.closeGate_unrefused passes]
      by_cases fires : s.closeOrderFires = true
      · obtain ⟨ready, pulse⟩ := (s.closeOrderFires_iff).mp fires
        rw [if_pos fires, if_pos ⟨ready, pulse, released⟩]
        exact State.enterClosing_fires (by simp [seq]) pulse ready .automatic
      · rw [if_neg fires, if_pos rfl, if_neg fun h => fires ((s.closeOrderFires_iff).mpr ⟨h.1, h.2.1⟩), if_pos released,
          State.enterSeq_elsewhere (by simp [seq]), State.entering_closeCharge]
        rfl
    · rw [if_pos ⟨hold, released⟩]
      exact locks _ (by
        rw [State.gateRefuses, if_neg handle, if_neg tag, if_neg lost, if_neg (by simp [holds]), if_pos hold])

end

section
/-! SUPPORT. Two reports built one after the other, the failures of a trip and of a close, and the shutdown. -/

namespace Sys2Proof.Machine

/-! ### Two reports (R91, R112, R113) -/

/-- Two reports built one after the other are both handed over, in their order. -/
theorem Reports.followed {s u t : State} {first later : ReportKind × List Byte} (h : Reports s u [first])
    (k : Reports u t [later]) (cfg : u.cfg = s.cfg) : Reports s t [first, later] := by
  obtain ⟨pru, unset, room, -⟩ := h
  obtain ⟨pru', unset', room', -⟩ := k
  refine ⟨?_, fun off => ?_, fun on fits => ?_, fun r one => by simp at one⟩
  · rw [pru', pru]
    simp [add_assoc]
  · rw [unset' (by rw [cfg, off]), unset off]
  · simp only [List.length_cons, List.length_nil] at fits
    have chc := room on (by simp only [List.length_singleton]; omega)
    have queued : u.chc.queued = s.chc.queued + 1 := by
      rw [chc]
      simp only [Chc.queued, reportEntries, List.length_append, List.length_singleton]
      omega
    have chc' := room' (by rwa [cfg]) (by rw [queued, List.length_singleton]; omega)
    rw [chc', chc, pru]
    simp [reportEntries]

/-! ### A trip that fails (R30) -/

theorem State.tripFailed_elsewhere {s : State} (seq : s.sqc.seq ≠ .tripping) : s.tripFailed = s := by
  rw [State.tripFailed, show (s.sqc.seq == .tripping) = false by simpa using seq, State.onlyIf_false]

/-- An entry to BREAKER_FAIL moves the SQC alone. -/
def State.breakerFailed (s : State) : State := { s with sqc := s.sqc.moved .breakerFail (some .mechanism) }

/-- A trip that fails goes to BREAKER_FAIL with its two reports and its record. -/
theorem State.tripFailed_tripping {s : State} {trip : CurrentTrip} (seq : s.sqc.seq = .tripping) (current : s.sqc.trip = some trip) :
    s.tripFailed =
      ((s.breakerFailed.buildTrip trip true).buildLockout .mechanism).record
        { kind := .breakerFail, reason := some (.lock .mechanism), shots := some s.sqc.shots } := by
  rw [State.tripFailed, show (s.sqc.seq == .tripping) = true by simp [seq], State.onlyIf_true, current,
    State.enterSeq_elsewhere (by simp [seq]), s.entering_plain rfl rfl]
  rfl

/-- A TRIP report that is built, its run from the OCU, 0 for an operator trip (R115). -/
theorem State.buildTrip_reports (s : State) (trip : CurrentTrip) (failed : Bool) :
    Reports s (s.buildTrip trip failed)
      [(.trip, tripPayload trip failed (if trip.cause = .operator then 0 else s.ocu.longestRun))] := by
  have run : (if trip.cause = .operator then 0 else s.ocu.longestRun) =
      if (trip.cause == .operator) = true then 0 else s.ocu.longestRun := by simp only [beq_iff_eq]
  rw [run]
  exact s.buildReport_reports (by decide) _

/-- The two reports of a trip that fails. -/
theorem State.tripFailed_reports {s : State} {trip : CurrentTrip} (seq : s.sqc.seq = .tripping) (current : s.sqc.trip = some trip) :
    Reports s s.tripFailed
      [(.trip, tripPayload trip true (if trip.cause = .operator then 0 else s.ocu.longestRun)),
        (.lockout, beBytes 1 LockReason.mechanism.code ++ beBytes 1 s.sqc.shots)] := by
  have first := (s.breakerFailed.buildTrip_reports trip true).of_parts (s' := s) rfl rfl
  have later := State.buildLockout_reports (s := s.breakerFailed.buildTrip trip true) rfl rfl .mechanism
  rw [show (s.breakerFailed.buildTrip trip true).sqc.shots = s.sqc.shots by simp [State.breakerFailed, Sqc.moved]] at later
  rw [State.tripFailed_tripping seq current]
  exact (first.followed later (by simp [State.cfg, State.breakerFailed])).of_parts rfl rfl

/-- The state of a trip that fails. -/
theorem State.tripFailed_state {s : State} {trip : CurrentTrip} (seq : s.sqc.seq = .tripping) (current : s.sqc.trip = some trip) :
    s.tripFailed =
      { s with
        sqc := s.sqc.moved .breakerFail (some .mechanism)
        rcs := s.withRecords [{ kind := .breakerFail, reason := some (.lock .mechanism), shots := some s.sqc.shots }]
        pru := s.tripFailed.pru
        chc := s.tripFailed.chc } := by
  rw [State.tripFailed_tripping seq current]
  ext1
  case rcs =>
    rw [State.record_rcs]
    simp [State.withRecords, State.breakerFailed]
  all_goals simp [State.breakerFailed]

/-- The station with the trip energy fault recorded and the request ended, before the SQC takes the report (R56). -/
def State.unpowered (s : State) : State :=
  { s with
    cdu := { s.cdu with tripRequest := .none, tripWait := none, retripWait := none }
    rcs := s.withRecords [{ kind := .energyFault, reason := some .tripEnergy, battV := some s.btu.battV }] }

theorem State.tripEnergyFault_eq (s : State) : s.tripEnergyFault = s.unpowered.tripFailed :=
  congrArg State.tripFailed
    (State.ext_parts (s := (s.record _).endTripRequest) rfl rfl rfl rfl rfl rfl rfl rfl rfl (s.record_rcs _) rfl rfl rfl rfl)

/-- The records after a trip energy fault's own. -/
theorem State.unpowered_records (s : State) (later : List RecordBody) :
    s.unpowered.withRecords later =
      s.withRecords ([{ kind := .energyFault, reason := some .tripEnergy, battV := some s.btu.battV }] ++ later) :=
  State.withRecords_append s s.unpowered rfl _ later rfl

/-! ### The end of a trip window (R55, R57 to R59) -/

/-- The station with the trip window over. -/
def State.windowOver (s : State) : State := { s with cdu := { s.cdu with tripWindow := none } }

theorem State.position_opened_iff (s : State) : s.position = .opened ↔ s.cdu.openMade = true ∧ s.cdu.closedMade = false := by
  unfold State.position positionOf
  cases s.cdu.openMade <;> cases s.cdu.closedMade <;> decide

theorem State.position_closed_iff (s : State) : s.position = .closed ↔ s.cdu.closedMade = true ∧ s.cdu.openMade = false := by
  unfold State.position positionOf
  cases s.cdu.openMade <;> cases s.cdu.closedMade <;> decide

/-- A retrip, or a first trip that was withdrawn, that is not confirmed is a mechanism failure. -/
theorem State.endTripWindow_fails {s : State} (opened : s.position ≠ .opened)
    (request : s.cdu.tripRequest = .retrip ∨ (s.cdu.tripRequest = .first ∧ s.cdu.withdrawn = true)) :
    s.endTripWindow = s.windowOver.mechanismFailure := by
  have position : (s.position == .opened) = false := by simpa using opened
  rcases request with request | ⟨request, withdrawn⟩
  · rw [State.endTripWindow, request]
    simp [position, State.windowOver, State.withCdu]
  · rw [State.endTripWindow, request]
    simp [position, withdrawn, State.windowOver, State.withCdu]

/-! ### Closes that fail (R34, R35, R41, R52, R60) -/

theorem State.closeFailure_elsewhere {s : State} (seq : s.sqc.seq ≠ .closing) : s.closeFailure = s := by
  rw [State.closeFailure, show (s.sqc.seq == .closing) = false by simpa using seq, State.onlyIf_false]

theorem State.closeFailure_closing {s : State} (seq : s.sqc.seq = .closing) : s.closeFailure = s.enterLockout .closeFail := by
  rw [State.closeFailure, show (s.sqc.seq == .closing) = true by simp [seq], State.onlyIf_true]

/-- Why an order for close energy that fails locks out: CLOSE_CHARGE and a waiting operator close. -/
def Sqc.awaitsEnergy (q : Sqc) : Prop := q.seq = .closeCharge ∨ (q.seq = .closing ∧ q.closeBegun = false)

theorem State.sqcCloseEnergyFault_locks {s : State} (waits : s.sqc.awaitsEnergy) :
    LocksOut s s.sqcCloseEnergyFault .closeEnergy [] := by
  have locks : s.sqcCloseEnergyFault = s.enterLockout .closeEnergy := by
    rcases waits with seq | ⟨seq, begun⟩
    · rw [State.sqcCloseEnergyFault, seq]
    · rw [State.sqcCloseEnergyFault, seq, begun]
      rfl
  rw [locks]
  refine State.enterLockout_locksOut (.inl ?_) _
  rcases waits with seq | ⟨seq, -⟩ <;> simp [seq]

theorem State.sqcCloseEnergyFault_elsewhere {s : State} (waits : ¬s.sqc.awaitsEnergy) : s.sqcCloseEnergyFault = s := by
  simp only [Sqc.awaitsEnergy, not_or, not_and, Bool.not_eq_false] at waits
  obtain ⟨charge, begun⟩ := waits
  unfold State.sqcCloseEnergyFault
  split
  · next seq => exact absurd seq charge
  · next seq => rw [begun seq, if_pos rfl]
  · rfl

/-- A close charge attempt that has lasted its time, before the SQC takes the report: the record, and close charging barred
(R51, R52). -/
theorem State.closeEnergyFault_eq (s : State) :
    s.closeEnergyFault =
      ({ s with
          cdu := { s.cdu with closeBarred := true }.charged (s.tripSupply && s.cdu.pulse != Pulse.trip) false
          rcs := s.withRecords [{ kind := .energyFault, reason := some (.lock .closeEnergy), battV := some s.btu.battV }] } :
        State).sqcCloseEnergyFault := by
  rw [State.closeEnergyFault, State.refreshCharge_eq, State.tripChargePermitted_eq, State.closeChargePermitted_barred]
  simp only [State.withCdu, Bool.not_true, Bool.and_false, Bool.false_and]
  rfl

/-! ### The shutdown (R74, R75, R93, R120) -/

/-- The entries in service stay where some other entry leaves. -/
theorem filter_eraseP_not {α : Type} (p : α → Bool) (l : List α) : (l.eraseP fun x => !p x).filter p = l.filter p := by
  induction l with
  | nil => rfl
  | cons a rest ih => cases h : p a <;> simp [h, ih]

/-- The drop order takes every Status entry that is not in service, each a report lost, and the transmitter moves its own states
alone. -/
theorem State.dropStatus_chc (s : State) :
    s.dropStatus.chc =
      { s.chc with
        status := s.chc.status.filter (·.inService)
        reportsLost := min 255 (s.chc.reportsLost + (s.chc.status.filter (fun e => !e.inService)).length)
        tx := s.dropStatus.chc.tx
        quiet := s.dropStatus.chc.quiet
        backoff := s.dropStatus.chc.backoff
        slot := s.dropStatus.chc.slot
        lfsr := s.dropStatus.chc.lfsr } :=
  State.settleTransmitter_chc _

/-- No charging is permitted with the contactor released (R31, R51). -/
theorem State.refreshCharge_released {s : State} (released : s.btu.reserve = .disconnect) :
    s.refreshCharge = { s with cdu := { s.cdu with tcen := false, ccen := false, closeCharge := none } } := by
  rw [State.refreshCharge_eq, show s.tripChargePermitted = false by simp [State.tripChargePermitted, released],
    show s.closeChargePermitted = false by simp [State.closeChargePermitted, State.reserveHolds, released], Cdu.charged_off]

/-- The station with shutdown pending, its record written, before the report. -/
def State.shutting (s : State) : State :=
  { s with
    btu := { s.btu with lowVoltage := none, shutdownPending := true, disconnect := some 5000 }
    rcs := s.withRecords [{ kind := .shutdown, battV := some s.btu.battV }] }

theorem State.setShutdown_eq (s : State) : s.setShutdown = s.shutting.buildShutdown.dropStatus.stopBeacon := rfl

/-- The SHUTDOWN report of a shutdown. -/
theorem State.shutting_reports (s : State) :
    Reports s s.shutting.buildShutdown [(.shutdown, beBytes 2 s.btu.battV)] :=
  (s.shutting.buildReport_reports (by decide) _).of_parts rfl rfl

/-- A report built leaves the Status entries in service. -/
theorem Reports.inService {s t : State} {r : ReportKind × List Byte} (h : Reports s t [r]) :
    t.chc.status.filter (·.inService) = s.chc.status.filter (·.inService) := by
  obtain ⟨-, unset, room, full⟩ := h
  by_cases off : s.cfg.stationId = 0
  · rw [unset off]
  by_cases fits : s.chc.queued < 8
  · rw [room off (by simp only [List.length_singleton]; omega)]
  · rw [full r rfl off (by omega)]
    simp only [List.filter_reverse, filter_eraseP_not (fun e : TxEntry => e.inService), List.reverse_reverse]

end Sys2Proof.Machine

/-! ### The statements -/

open Sys2Proof.Machine in
/-- Settles O23: each of the three reports ends the request and fails the trip. -/
theorem breakerFailure : Obligations.BreakerFailure := by
  intro s trip on seq current c before cause
  rcases cause with ⟨rfl, due, request, opened, rfl⟩ | ⟨rfl, due, rfl⟩ | ⟨rfl, due, rfl⟩
  · refine ⟨_, exec_tripWindowEnd on due, ?_⟩
    rw [State.endTripWindow_fails (fun h => opened ((s.position_opened_iff).mp h)) (.inl request), if_pos rfl]
    exact ⟨(State.tripFailed_state (s := s.windowOver.endTripRequest) seq current).trans rfl,
      (State.tripFailed_reports (s := s.windowOver.endTripRequest) seq current).of_parts rfl rfl⟩
  · refine ⟨_, exec_retripWaitExpiry on due, ?_⟩
    rw [if_neg nofun]
    exact ⟨(State.tripFailed_state (s := s.endTripRequest) seq current).trans rfl,
      (State.tripFailed_reports (s := s.endTripRequest) seq current).of_parts rfl rfl⟩
  · refine ⟨_, exec_tripWaitExpiry on due, ?_⟩
    rw [if_neg nofun]
    rw [s.tripEnergyFault_eq]
    refine ⟨(State.tripFailed_state (s := s.unpowered) seq current).trans ?_,
      (State.tripFailed_reports (s := s.unpowered) seq current).of_parts rfl rfl⟩
    ext1
    case rcs => exact s.unpowered_records _
    all_goals rfl

open Sys2Proof.Machine in
/-- Settles O24: the close window's end and the close charge attempt's, by what the sequence waits for. -/
theorem closeFailures : Obligations.CloseFailures := by
  intro s on
  refine ⟨fun due => ⟨fun request => ?_, fun request seq => ?_, fun request seq => ?_⟩, ?_⟩
  · rw [exec_closeWindowEnd on due, State.endCloseWindow, request, if_neg (by decide)]
    refine congrArg Host.Outcome.next (State.ext_parts rfl rfl rfl rfl ?_ rfl rfl rfl rfl rfl rfl rfl rfl rfl)
    rw [← request]
    rfl
  · rw [exec_closeWindowEnd on due, State.endCloseWindow, request, if_pos rfl, State.closeFailure_elsewhere (by exact seq)]
    rfl
  · refine ⟨_, exec_closeWindowEnd on due, ?_⟩
    rw [State.endCloseWindow, request, if_pos rfl, State.closeFailure_closing (by exact seq)]
    exact State.enterLockout_locksOut (.inl (by simp [seq])) _
  · rintro due fault barred rfl rfl
    rw [exec_closeChargeTimerExpiry on due, s.closeEnergyFault_eq]
    refine ⟨fun charge begun => ?_, fun waits => ⟨_, rfl, ?_⟩⟩
    · rw [State.sqcCloseEnergyFault_elsewhere]
      simp only [Sqc.awaitsEnergy, not_or, not_and, Bool.not_eq_false]
      exact ⟨charge, begun⟩
    · exact (State.sqcCloseEnergyFault_locks (by exact waits)).after rfl

open Sys2Proof.Machine in
/-- Settles O39: the SHUTDOWN report before the drop order, which leaves the entries in service; and the release. -/
theorem shutdownAndDisconnect : Obligations.ShutdownAndDisconnect := by
  intro s on
  refine ⟨fun due => ⟨_, exec_lowVoltageTimerExpiry on due, ?_⟩, fun due attached => ?_⟩
  · rw [s.setShutdown_eq]
    have reports := s.shutting_reports
    have dropped := s.shutting.buildShutdown.dropStatus_chc
    have entries := reports.inService
    obtain ⟨pru, unset, room, -⟩ := reports
    refine ⟨?_, ?_, fun set fits => ?_⟩
    · ext1
      case pru =>
        rw [State.stopBeacon, State.withPru_pru, (State.dropStatus_frame _).2.2.2.2.2.2.1, pru]
        simp
      all_goals simp [State.shutting]
    · rw [← entries]
      exact congrArg Chc.status dropped
    · have queued := room set (by simp only [List.length_singleton]; omega)
      rw [queued] at dropped
      exact ⟨congrArg Chc.front dropped, congrArg Chc.reportsLost dropped⟩
  · rw [exec_disconnectTimerExpiry on due, State.releaseContactor,
      show (s.btu.reserve != .disconnect) = true by simpa using attached, State.onlyIf_true, State.refreshCharge_released rfl]
    rfl

end

section
/-! SUPPORT. The end of the reset time; a request in LISTEN, a key that has held its level, and the operator close at both. -/

namespace Sys2Proof.Machine

/-! ### The end of the reset time (R37) -/

/-- READY after a sequence: s at 0 and the stepped flag clear. -/
def State.cleared (s : State) : State :=
  { s with
    sqc := { s.sqc.moved .ready none with shots := 0, stepped := false }
    ocu := s.ocu.unmarked
    cdu :=
      { s.cdu with closeBarred := false }.charged (s.tripSupply && s.cdu.pulse != Pulse.trip)
        (s.closeSupply && s.cdu.pulse != Pulse.close) }

theorem State.sqcResetExpiry_eq (s : State) :
    s.sqcResetExpiry = if s.sqc.stepped = true then s.cleared.buildClear s.sqc.stepSet false else s.cleared := by
  rw [State.sqcResetExpiry, s.enterSeq_ready]
  rfl

/-- A report that is built shows in the PRU and the CHC alone. -/
theorem State.buildReport_state (s : State) (kind : ReportKind) (payload : List Byte) :
    s.buildReport kind payload =
      { s with pru := (s.buildReport kind payload).pru, chc := (s.buildReport kind payload).chc } := by
  ext1 <;> simp

theorem State.buildClear_state (s : State) (elements : ElementSet) (stepped : Bool) :
    s.buildClear elements stepped =
      { s with pru := (s.buildClear elements stepped).pru, chc := (s.buildClear elements stepped).chc } :=
  s.buildReport_state _ _

theorem State.buildClear_reports (s : State) (elements : ElementSet) (stepped : Bool) :
    Reports s (s.buildClear elements stepped) [(.clear, beBytes 1 elements.code ++ [if stepped = true then 1#8 else 0#8])] := by
  have payload : beBytes 1 (bit 0 stepped) = [if stepped = true then 1#8 else 0#8] := by cases stepped <;> rfl
  rw [← payload]
  exact s.buildReport_reports (by decide) _

/-! ### Requests and keys (R149, R170 to R172) -/

/-- A request in LISTEN is served. -/
theorem exec_request {s : State} (on : s.started = true) (listen : s.svp.service = .listen) (r : Request) :
    exec r.command s = .next (s.resetAssembly.serve r) := by
  have served : (s.whenStarted fun u => u.takeRequest r) = s.resetAssembly.serve r :=
    State.whenStarted_onlyIf (c := fun u => u.svp.service == .listen) (f := fun u => u.resetAssembly.serve r) on (by simp [listen])
  rw [← served]
  cases r <;> rfl

/-- An answer that goes out after effects on the other blocks. -/
theorem State.respond_eq (s : State) (code : Byte) (answer : Answer) (payload : List Byte) :
    s.respond code answer payload =
      { s with
        svp := { s.svp with service := .answering, response := responseBytes code (BitVec.ofNat 8 answer.code) payload } } := by
  rw [State.respond, responseFrame_eq]
  rfl

/-- An answer to a request that changes nothing else. -/
theorem State.answered_eq (s : State) (code : Byte) (answer : Answer) (payload : List Byte) :
    s.resetAssembly.respond code answer payload =
      { s with svp := s.svp.answered code (BitVec.ofNat 8 answer.code) payload } := by
  rw [State.respond_eq]
  rfl

/-! ### The operator close (R40, R41) -/

/-- The refusals of an operator close, in their order (R40). -/
theorem State.operatorCloseAnswer_code (s : State) :
    (if ¬ (s.sqc.seq = .lockout ∧ s.cdu.pulse = .none ∧ s.cdu.openMade = true ∧ s.cdu.closedMade = false) then some (2 : Byte)
      else if s.tgu.handleDown = true then some (4 : Byte)
      else if s.tagInForce = true then some (3 : Byte)
      else if ¬ (s.cdu.closeReady = true ∨ s.btu.reserve = .normal ∨ s.btu.reserve = .reserve) then some (5 : Byte)
      else none) =
    if s.operatorCloseAnswer = .done then none else some (BitVec.ofNat 8 s.operatorCloseAnswer.code) := by
  have states : (!(s.sqc.seq == .lockout && s.noPulse && s.position == .opened)) = true ↔
      ¬ (s.sqc.seq = .lockout ∧ s.cdu.pulse = .none ∧ s.cdu.openMade = true ∧ s.cdu.closedMade = false) := by
    rw [Bool.not_eq_true', ← Bool.not_eq_true, Bool.and_eq_true, Bool.and_eq_true, beq_iff_eq, beq_iff_eq, s.noPulse_iff,
      s.position_opened_iff, and_assoc]
  have energy : (!(s.cdu.closeReady || s.reserveHolds)) = true ↔
      ¬ (s.cdu.closeReady = true ∨ s.btu.reserve = .normal ∨ s.btu.reserve = .reserve) := by
    simp [State.reserveHolds]
  unfold State.operatorCloseAnswer
  rw [if_congr states.symm rfl rfl]
  rw [if_congr energy.symm rfl rfl]
  repeat' split
  all_goals simp_all [Answer.code]

/-- An operator close that is taken: the pulse of a ready capacitor, or 20 s of waiting for it (R41). -/
def State.closeTaken (s : State) : State :=
  { s with
    sqc :=
      { s.sqc.moved .closing none with
        closeKind := .operator
        closeBegun := s.cdu.closeReady
        charge := if s.cdu.closeReady = true then none else some 20000 }
    cdu :=
      if s.cdu.closeReady = true then
        ({ s.cdu with closeBarred := false }.closing s.cfg.closeWidth).charged s.tripSupply false
      else { s.cdu with closeBarred := false }.charged s.tripSupply s.closeSupply }

/-- A close that is taken finds LOCKOUT and no pulse (R40). -/
theorem State.operatorCloseAnswer_done {s : State} (done : s.operatorCloseAnswer = .done) :
    s.sqc.seq = .lockout ∧ s.cdu.pulse = .none := by
  have states : (!(s.sqc.seq == .lockout && s.noPulse && s.position == .opened)) = false := by
    by_contra refused
    rw [State.operatorCloseAnswer, if_pos ((Bool.not_eq_false _).mp refused)] at done
    cases done
  rw [Bool.not_eq_false', Bool.and_eq_true, Bool.and_eq_true, beq_iff_eq, s.noPulse_iff] at states
  exact states.1

theorem State.operatorClose_taken {s : State} (done : s.operatorCloseAnswer = .done) : s.operatorClose = s.closeTaken := by
  obtain ⟨seq, pulse⟩ := State.operatorCloseAnswer_done done
  rw [State.operatorClose, done, show (Answer.done == Answer.done) = true from rfl, State.onlyIf_true]
  cases ready : s.cdu.closeReady with
  | true =>
    rw [if_pos rfl]
    refine (State.enterClosing_fires (by simp [seq]) pulse ready .operator).trans ?_
    rw [State.closeTaken, ready]
    rfl
  | false =>
    rw [if_neg (by decide), State.enterSeq_elsewhere (by simp [seq]), State.entering_closing, pulse, State.closeTaken, ready,
      if_neg (by decide), if_neg (by decide), show (Pulse.none != Pulse.trip) = true from rfl, Bool.and_true,
      show (Pulse.none != Pulse.close) = true from rfl, Bool.and_true]
    rfl

theorem State.operatorClose_refused {s : State} (refused : s.operatorCloseAnswer ≠ .done) : s.operatorClose = s := by
  rw [State.operatorClose, show (s.operatorCloseAnswer == .done) = false by simpa using refused, State.onlyIf_false]

/-- The close key has held its level: its debounced state follows, and a press acts (R149). -/
def State.closeKeyed (s : State) (pressed : Bool) : State :=
  { s with inputs := s.inputs.still .closeKey, tgu := { s.tgu with keys := { s.tgu.keys with close := pressed } } }

theorem exec_closeKey {s : State} {pressed : Bool} (on : s.started = true) (was : s.tgu.keys.close ≠ pressed)
    (held : s.Held .closeKey pressed) :
    exec (.closeKey pressed) s = .next ((s.closeKeyed pressed).onlyIf pressed State.closePress) :=
  congrArg Host.Outcome.next (State.whenStarted_debounce on held was _)

end Sys2Proof.Machine

/-! ### The statements -/

open Sys2Proof.Machine in
/-- Settles O30: each timer's end, by what its expiry finds. -/
theorem sequenceTimersExpire : Obligations.SequenceTimersExpire := by
  refine ⟨fun s on => ⟨fun due waits => ⟨_, exec_chargeTimerExpiry on due, ?_⟩, ?_⟩,
    fun s on => ⟨exec_manualCloseWindowExpiry on, exec_startHoldExpiry on⟩,
    fun s on due trip close => ⟨fun pulse => ?_, fun pulse => ?_⟩⟩
  · obtain ⟨state, reports⟩ := State.sqcCloseEnergyFault_locks (s := s.withSqc fun q => { q with charge := none }) waits
    exact ⟨state.trans rfl, reports.of_parts rfl rfl⟩
  · rintro due - ready rfl
    rw [exec_resetTimerExpiry on due, s.sqcResetExpiry_eq]
    refine ⟨fun stepped => ?_, fun stepped => ?_⟩
    · rw [stepped, if_neg (by decide)]
      rfl
    · rw [stepped, if_pos rfl]
      exact ⟨_, rfl, s.cleared.buildClear_state _ _, (s.cleared.buildClear_reports _ _).of_parts rfl rfl⟩
  · rw [exec_tripPulseEnd on pulse due, s.endPulse_eq, State.handReports_unowed (by exact trip) (by exact close)]
  · rw [exec_closePulseEnd on pulse due, s.endPulse_eq, State.handReports_unowed (by exact trip) (by exact close)]

open Sys2Proof.Machine in
/-- Settles O33: the refusals in their order, and a close that is taken, at the port and at the panel. -/
theorem operatorClose : Obligations.OperatorClose := by
  rintro s on answer taken isAnswer rfl
  replace isAnswer := isAnswer.trans s.operatorCloseAnswer_code
  have reset : s.resetAssembly.operatorCloseAnswer = s.operatorCloseAnswer := rfl
  refine ⟨fun listen => ?_, fun was held => ?_, fun was held => ?_⟩
  · have served : exec .operatorClose s = .next s.resetAssembly.serveClose := exec_request on listen .operatorClose
    rw [served, State.serveClose, reset]
    refine ⟨fun code refused => ?_, fun done => ?_⟩
    · rw [refused] at isAnswer
      split at isAnswer
      · cases isAnswer
      · next refuses =>
        rw [Option.some.inj isAnswer, State.operatorClose_refused (by exact refuses), State.answered_eq]
    · rw [done] at isAnswer
      split at isAnswer
      · next takes =>
        rw [State.operatorClose_taken (by exact takes), takes, State.respond_eq]
        rfl
      · cases isAnswer
  · rw [exec_closeKey on (by simp [was]) held, State.onlyIf_true, State.closePress]
    have keyed : (s.closeKeyed true).operatorCloseAnswer = s.operatorCloseAnswer := rfl
    rw [keyed]
    refine ⟨fun refused => ?_, fun done => ?_⟩
    · split at isAnswer
      · exact absurd isAnswer refused
      · next refuses =>
        rw [if_neg (by simpa using refuses)]
        rfl
    · rw [done] at isAnswer
      split at isAnswer
      · next takes =>
        rw [if_pos (by simpa using takes), State.operatorClose_taken (by exact takes)]
        rfl
      · cases isAnswer
  · rw [exec_closeKey on (by simp [was]) held, State.onlyIf_false]
    rfl

end

section
/-! SUPPORT. The changes to Closed: the close confirm and the close that the SQC did not order (R35, R41, R43, R60, R63). -/

namespace Sys2Proof.Machine

/-- The station as a definite change to Closed has it before it is classed. -/
def State.closed (s : State) : State :=
  { s with
    inputs := s.inputs.still .posc
    cdu := { s.cdu with closedMade := true, indeterminate := none, positionFault := false, lastClosed := true } }

/-- The closed contact has held its level, the open one being released: the position goes to Closed. -/
theorem exec_closes {s : State} (on : s.started = true) (closedMade : s.cdu.closedMade = false) (openMade : s.cdu.openMade = false)
    (lastClosed : s.cdu.lastClosed = false) (held : s.Held .posc true) (clearFirst : Bool) :
    exec (.contactChange .closedContact true clearFirst) s = .next s.closed.changeToClosed := by
  refine congrArg Host.Outcome.next ((State.whenStarted_of_started _ _ on).trans ?_)
  have pins : (contactPins .closedContact).filter (fun pin => s.inputHolds pin true) = [.posc] := by
    have holds : s.inputHolds .posc true = true := (s.inputHolds_iff _ _).mpr ⟨held, by simp [State.debounced, closedMade]⟩
    simp [contactPins, holds]
  have position : (s.setContacts [.posc] true).position = .closed := by
    simp [State.setContacts, State.position, positionOf, State.endCount, openMade]
  have before : (s.setContacts [.posc] true).cdu.lastClosed = false := by
    simpa [State.setContacts, State.endCount] using lastClosed
  rw [State.changeContact, pins]
  show (s.setContacts [.posc] true).judgePosition s.position clearFirst = _
  rw [State.judgePosition, position]
  show State.onlyIf _ (!(s.setContacts [.posc] true).cdu.lastClosed) _ = _
  rw [before]
  rfl

/-- READY after a close by hand (R41, R43, R45). -/
theorem State.readyByHand_eq (s : State) :
    s.readyByHand =
      s.settled { s.sqc.moved .ready none with shots := 0, stepped := false, manualWindow := some s.cfg.resetTime }
        { kind := .close, shots := some 0 } := by
  rw [State.readyByHand, s.enterSeq_ready]
  rfl

/-! ### The close confirm (R35, R38, R41) -/

theorem State.closeConfirm_elsewhere {s : State} (seq : s.sqc.seq ≠ .closing) : s.closeConfirm = s := by
  rw [State.closeConfirm, show (s.sqc.seq == .closing) = false by simpa using seq, State.onlyIf_false]

theorem State.closeConfirm_operator {s : State} (seq : s.sqc.seq = .closing) (kind : s.sqc.closeKind = .operator) :
    s.closeConfirm = s.readyByHand := by
  rw [State.closeConfirm, show (s.sqc.seq == .closing) = true by simp [seq], State.onlyIf_true, kind]

/-- The confirm of an automatic close: RESET_TIMING, or READY under a tag, with a CLOSE record of s (R35). -/
theorem State.closeConfirm_automatic {s : State} (seq : s.sqc.seq = .closing) (kind : s.sqc.closeKind = .automatic) :
    s.closeConfirm =
      if s.tagInForce = true then
        s.settled { s.sqc.moved .ready none with shots := 0, stepped := false } { kind := .close, shots := some s.sqc.shots }
      else
        s.settled { s.sqc.moved .resetTiming none with reset := some s.cfg.resetTime }
          { kind := .close, shots := some s.sqc.shots } := by
  rw [State.closeConfirm, show (s.sqc.seq == .closing) = true by simp [seq], State.onlyIf_true, kind]
  refine if_congr Iff.rfl ?_ ?_
  · rw [State.enterSeq_ready]
    rfl
  · rw [State.enterSeq_elsewhere (by simp [seq]), State.entering_resetTiming]
    rfl

/-! ### The close that was not ordered (R43) -/

theorem State.closesUnordered_iff (s : State) :
    s.closesUnordered = true ↔
      s.sqc.seq = .lockout ∨ s.sqc.seq = .recloseWait ∨ s.sqc.seq = .closeCharge ∨
        (s.sqc.seq = .closing ∧ s.sqc.closeBegun = false) := by
  unfold State.closesUnordered
  split <;> simp_all

/-- An unordered close, by the handle and the state that it finds. -/
theorem State.closedWithoutPulse_unordered {s : State} (unordered : s.closesUnordered = true) :
    s.closedWithoutPulse =
      if s.tgu.handleDown = false then s.readyByHand
      else if s.sqc.seq = .lockout then { s with sqc := { s.sqc with reason := some .handle } }
      else s.enterLockout .handle := by
  rw [State.closedWithoutPulse, unordered, State.onlyIf_true]
  refine if_congr (by simp) rfl (if_congr (by simp) rfl rfl)

end Sys2Proof.Machine

/-! ### The statement -/

open Sys2Proof.Machine in
/-- Settles O27: the change to Closed by its class and by the state that it finds. -/
theorem changeToClosed : Obligations.ChangeToClosed := by
  intro s clearFirst on closedMade openMade lastClosed held closed isClosed
  have change := exec_closes on closedMade openMade lastClosed held clearFirst
  refine ⟨fun request => ?_, fun request states => ?_⟩
  · have confirms : s.closed.changeToClosed = closed.closeConfirm := by
      rw [State.changeToClosed, if_pos (by exact request), isClosed, if_pos request]
      rfl
    rw [change, confirms]
    have seq : closed.sqc = s.sqc := by rw [isClosed]
    have tags : closed.tagInForce = s.tagInForce := by rw [isClosed]; rfl
    have cfg : closed.cfg = s.cfg := by rw [isClosed]; rfl
    rw [← seq, ← cfg, ← tags]
    refine ⟨fun closing kind tag => ?_, fun closing kind tag => ?_, fun closing kind => ?_, fun lockout => ?_⟩
    · rw [State.closeConfirm_automatic closing kind, if_neg (by simp [tag])]
    · rw [State.closeConfirm_automatic closing kind, if_pos tag]
    · rw [State.closeConfirm_operator closing kind, State.readyByHand_eq]
    · rw [State.closeConfirm_elsewhere (by simp [lockout])]
  · have same : closed = s.closed := by simp [isClosed, State.closed, request]
    rw [change, same, State.changeToClosed, if_neg (by simpa [State.closed] using request),
      State.closedWithoutPulse_unordered (s := s.closed) ((State.closesUnordered_iff _).mpr states)]
    refine ⟨fun up => ?_, fun down seq => ⟨_, rfl, ?_⟩, fun down seq => ?_⟩
    · rw [if_pos (by exact up), State.readyByHand_eq]
      rfl
    · rw [if_neg (by simp [State.closed, down]), if_neg (by exact seq)]
      exact State.enterLockout_locksOut (.inl fun ready => by simp [State.closed] at ready; simp [ready] at states) _
    · rw [if_neg (by simp [State.closed, down]), if_pos (by exact seq)]

end

section
/-! SUPPORT. The debounced inputs, edge and held level, one by one; and the lock handle. -/

namespace Sys2Proof.Machine

/-! ### What follows a debounced state keeps every input (R62, R67, R149, R151) -/

/-- The inputs and the debounced states of one state are those of another. -/
def State.InputsAs (s t : State) : Prop := t.inputs = s.inputs ∧ t.debounced = s.debounced

namespace State.InputsAs

variable {s t u : State}

@[refl] theorem refl (s : State) : s.InputsAs s := ⟨rfl, rfl⟩

theorem trans (h : s.InputsAs t) (k : t.InputsAs u) : s.InputsAs u := ⟨k.1.trans h.1, k.2.trans h.2⟩

theorem of_readings (h : t.readings = s.readings) : s.InputsAs t := by
  refine ⟨congrArg Readings.inputs h, funext fun pin => ?_⟩
  have keys := congrArg Readings.keys h
  cases pin with
  | posc => exact congrArg Readings.closedMade h
  | poso => exact congrArg Readings.openMade h
  | acp => exact congrArg Readings.acPresent h
  | tripKey => exact congrArg Keys.trip keys
  | closeKey => exact congrArg Keys.close keys
  | tagOnKey => exact congrArg Keys.tagOn keys
  | tagOffKey => exact congrArg Keys.tagOff keys
  | batteryKey => exact congrArg Keys.battery keys
  | hndl => exact congrArg Readings.handleDown h

theorem of_reaches {d : Bool} (h : s.Reaches d t) : s.InputsAs t := of_readings h.readings

theorem onlyIf {c : Bool} {f : State → State} (h : s.InputsAs (f s)) : s.InputsAs (s.onlyIf c f) := by
  cases c
  · exact refl s
  · exact h

theorem tripConfirmed (s : State) (clearFirst : Bool) : s.InputsAs (s.tripConfirmed clearFirst) := by
  unfold State.tripConfirmed
  split
  · exact .trans (t := s.clearElements) ⟨rfl, rfl⟩ (of_reaches ((State.Reaches.refl (d := false) _).endHolds _))
  · exact (of_reaches ((State.Reaches.refl (d := false) s).endHolds _)).trans ⟨rfl, rfl⟩

theorem changeToOpen (s : State) (clearFirst : Bool) : s.InputsAs (s.changeToOpen clearFirst) := by
  have start := State.Reaches.refl (d := false) s
  unfold State.changeToOpen
  split
  · exact (of_reaches start.endTripRequest.sqcTripConfirm).trans (tripConfirmed _ _)
  · exact (of_reaches start.openWithoutPulse).trans (onlyIf (tripConfirmed _ _))

theorem definiteChange (s : State) (closed clearFirst : Bool) : s.InputsAs (s.definiteChange closed clearFirst) := by
  unfold State.definiteChange
  split
  · exact of_reaches ((State.Reaches.refl (d := false) s).withCdu rfl).changeToClosed
  · exact .trans ⟨rfl, rfl⟩ (changeToOpen _ _)

theorem judgePosition (s : State) (before : Position) (clearFirst : Bool) : s.InputsAs (s.judgePosition before clearFirst) := by
  unfold State.judgePosition
  split
  · exact onlyIf ⟨rfl, rfl⟩
  · exact .trans ⟨rfl, rfl⟩ (onlyIf (definiteChange _ _ _))
  · exact .trans ⟨rfl, rfl⟩ (onlyIf (definiteChange _ _ _))

theorem keyed {press : State → State} (pressed : Bool) (press_ : ∀ u : State, u.Reaches false (press u)) (s : State) :
    s.InputsAs (s.onlyIf pressed press) := onlyIf (of_reaches (press_ s))

theorem requestTest (s : State) (source : TestSource) : s.InputsAs (s.requestTest source) := by
  have kept : (s.requestTest source).btu.acPresent = s.btu.acPresent := by
    rw [State.requestTest, State.withBtu_btu]
    split <;> rfl
  refine ⟨rfl, funext fun pin => ?_⟩
  cases pin
  case acp => exact kept
  all_goals rfl

end State.InputsAs

/-- An input that has held a level: its count is over and its debounced state follows, what that brings still to come. -/
def State.followed (s : State) (pin : InputPin) (level : Bool) : State :=
  match pin with
  | .posc => (s.endCount .posc).withCdu fun c => { c with closedMade := level }
  | .poso => (s.endCount .poso).withCdu fun c => { c with openMade := level }
  | .acp => (s.endCount .acp).withBtu fun b => { b with acPresent := level }
  | .tripKey => (s.endCount .tripKey).withTgu fun t => { t with keys := { t.keys with trip := level } }
  | .closeKey => (s.endCount .closeKey).withTgu fun t => { t with keys := { t.keys with close := level } }
  | .tagOnKey => (s.endCount .tagOnKey).withTgu fun t => { t with keys := { t.keys with tagOn := level } }
  | .tagOffKey => (s.endCount .tagOffKey).withTgu fun t => { t with keys := { t.keys with tagOff := level } }
  | .batteryKey => (s.endCount .batteryKey).withTgu fun t => { t with keys := { t.keys with battery := level } }
  | .hndl => (s.endCount .hndl).withTgu fun t => { t with handleDown := level }

theorem State.followed_debounced (s : State) (pin : InputPin) (level : Bool) : (s.followed pin level).debounced pin = level := by
  cases pin <;> rfl

theorem State.followed_inputs (s : State) (pin : InputPin) (level : Bool) : (s.followed pin level).inputs = s.inputs.still pin := by
  cases pin <;> rfl

/-- The AC follows its level, the charger and the reserve state after it (R67, R69, R72). -/
theorem State.acFollows (s : State) (present : Bool) :
    (s.followed .acp present).InputsAs (if present = true then (s.endCount .acp).acReturns else (s.endCount .acp).acGoes) := by
  have judged (u : State) : u.InputsAs u.judgeBattery := .of_reaches (State.Reaches.refl u).judgeBattery
  have charger (u : State) (mode : Charger) : u.InputsAs (u.setCharger mode) := .of_readings (u.setCharger_readings mode)
  cases present with
  | true =>
    rw [if_pos rfl, State.acReturns]
    refine .trans ?_ (judged _)
    split
    · exact .trans ⟨rfl, rfl⟩ (charger _ _)
    · exact charger _ _
  | false =>
    rw [if_neg (by decide), State.acGoes]
    have off : (s.followed .acp false).InputsAs (s.acGone.setCharger .off) := .trans ⟨rfl, rfl⟩ (charger s.acGone .off)
    exact (off.trans (.of_reaches ((State.Reaches.refl (d := false) _).abandonTest _))).trans (judged _)

/-- The handle goes down, the test and the sequence after it (R44, R151). -/
theorem State.handleFollows (s : State) (btuFirst : Bool) :
    (s.followed .hndl true).InputsAs ((s.endCount .hndl).handleGoesDown btuFirst) := by
  have down := State.Reaches.refl (d := false) (s.followed .hndl true)
  unfold State.handleGoesDown
  dsimp only
  split
  · exact .of_reaches (down.abandonTest _).sqcHandleDown
  · exact .of_reaches (down.sqcHandleDown.abandonTest _)

/-! ### The commands of the inputs (log 11) -/

/-- A contact that has not held the level does nothing. -/
theorem State.changeContact_unheld {s : State} {contact : Contact} {pin : InputPin} {level : Bool} (order : Bool)
    (pins : contactPins contact = [pin]) (unheld : s.inputHolds pin level = false) : s.changeContact contact level order = s := by
  have none : (contactPins contact).filter (fun p => s.inputHolds p level) = [] := by simp [pins, unheld]
  rw [State.changeContact, none]
  rfl

section

variable {s : State} (on : s.started = true) (pin : InputPin) (level order : Bool)

include on

/-- An edge of an input. -/
theorem exec_edge : exec (pin.command level order .edge) s = .next (s.inputGoes pin level) := by
  cases pin
  case hndl => cases level <;> exact congrArg Host.Outcome.next (State.whenStarted_of_started _ _ on)
  all_goals exact congrArg Host.Outcome.next (State.whenStarted_of_started _ _ on)

/-- A command of an input that has not held the level does nothing. -/
theorem exec_unheld (unheld : ¬(s.Held pin level ∧ s.debounced pin ≠ level)) :
    exec (pin.command level order .held) s = .next s := by
  have holds : s.inputHolds pin level = false := by
    rw [← Bool.not_eq_true]
    exact fun h => unheld ((s.inputHolds_iff _ _).mp h)
  have debounced (change : State → State) : (s.whenStarted fun u => u.debounce pin level .held change) = s := by
    rw [State.whenStarted_of_started _ _ on, State.debounce_held, if_neg (by simp [holds])]
  cases pin with
  | posc =>
    exact congrArg Host.Outcome.next ((State.whenStarted_of_started _ _ on).trans
      (State.changeContact_unheld order (contact := .closedContact) rfl holds))
  | poso =>
    exact congrArg Host.Outcome.next ((State.whenStarted_of_started _ _ on).trans
      (State.changeContact_unheld order (contact := .openContact) rfl holds))
  | hndl => cases level <;> exact congrArg Host.Outcome.next (debounced _)
  | _ => exact congrArg Host.Outcome.next (debounced _)

/-- A command of an input that has held the level: its debounced state follows, and what that brings keeps every input. -/
theorem exec_held (held : s.Held pin level) (changes : s.debounced pin ≠ level) :
    ∃ t, exec (pin.command level order .held) s = .next t ∧ (s.followed pin level).InputsAs t := by
  have holds : s.inputHolds pin level = true := (s.inputHolds_iff _ _).mpr ⟨held, changes⟩
  have follows {change : State → State} (keeps : (s.followed pin level).InputsAs (change (s.endCount pin))) :
      ∃ t, Host.Outcome.next (s.whenStarted fun u => u.debounce pin level .held change) =
        (.next t : Host.Outcome State Fault Refusal) ∧ (s.followed pin level).InputsAs t :=
    ⟨_, congrArg Host.Outcome.next (State.whenStarted_debounce on held changes change), keeps⟩
  have start (u : State) := State.Reaches.refl (d := false) u
  cases pin with
  | posc =>
    refine ⟨_, congrArg Host.Outcome.next (State.whenStarted_of_started _ _ on), ?_⟩
    show State.InputsAs _ (s.changeContact .closedContact level order)
    rw [State.changeContact, show (contactPins .closedContact).filter (fun p => s.inputHolds p level) = [.posc] by
      simp [contactPins, holds]]
    exact .judgePosition (s.followed .posc level) _ _
  | poso =>
    refine ⟨_, congrArg Host.Outcome.next (State.whenStarted_of_started _ _ on), ?_⟩
    show State.InputsAs _ (s.changeContact .openContact level order)
    rw [State.changeContact, show (contactPins .openContact).filter (fun p => s.inputHolds p level) = [.poso] by
      simp [contactPins, holds]]
    exact .judgePosition (s.followed .poso level) _ _
  | acp => exact follows (s.acFollows level)
  | tripKey => exact follows (.keyed level (fun u => (start u).tripPress) (s.followed .tripKey level))
  | closeKey => exact follows (.keyed level (fun u => (start u).closePress) (s.followed .closeKey level))
  | tagOnKey => exact follows (.keyed level (fun u => (start u).tagOnPress) (s.followed .tagOnKey level))
  | tagOffKey => exact follows (.keyed level (fun u => (start u).tagOffPress) (s.followed .tagOffKey level))
  | batteryKey => exact follows (.onlyIf (.requestTest (s.followed .batteryKey level) _))
  | hndl =>
    cases level with
    | true => exact follows (s.handleFollows order)
    | false => exact follows (.refl _)

end

/-! ### The lock handle (R44, R58, R151) -/

/-- A trip request withdrawn: one that waits ends, one with a pulse or window goes on withdrawn (R58). -/
def Cdu.withdraws (c : Cdu) : Cdu :=
  match c.tripRequest with
  | .none => c
  | .wait => { c with tripRequest := .none, tripWait := none, retripWait := none }
  | .retripWait => { c with tripRequest := .none, tripWait := none, retripWait := none }
  | _ => { c with withdrawn := true }

theorem State.withdrawTrip_eq (s : State) : s.withdrawTrip = { s with cdu := s.cdu.withdraws } := by
  cases request : s.cdu.tripRequest <;> simp [State.withdrawTrip, Cdu.withdraws, request, State.withCdu, State.endTripRequest]

/-- The handle down at the SQC, with no test to abandon (R44). -/
theorem State.sqcHandleDown_locksOut {s : State} (quiet : s.quietTest) :
    LocksOut { s with cdu := if s.sqc.seq = .tripping ∨ s.sqc.seq = .breakerFail then s.cdu.withdraws else s.cdu }
      s.sqcHandleDown .handle [] := by
  have withdrawn : s.onlyIf (s.sqc.seq == .tripping || s.sqc.seq == .breakerFail) State.withdrawTrip =
      { s with cdu := if s.sqc.seq = .tripping ∨ s.sqc.seq = .breakerFail then s.cdu.withdraws else s.cdu } := by
    by_cases trips : s.sqc.seq = .tripping ∨ s.sqc.seq = .breakerFail
    · rw [show (s.sqc.seq == .tripping || s.sqc.seq == .breakerFail) = true by simpa using trips, State.onlyIf_true,
        s.withdrawTrip_eq, if_pos trips]
    · rw [show (s.sqc.seq == .tripping || s.sqc.seq == .breakerFail) = false by simpa using trips, State.onlyIf_false,
        if_neg trips]
  rw [State.sqcHandleDown, withdrawn]
  exact State.enterLockout_locksOut (.inr (by exact quiet)) _

/-- With no test to abandon the order of the two hand-offs is no matter (log 8). -/
theorem State.handleGoesDown_quiet {s : State} (quiet : s.quietTest) (btuFirst : Bool) :
    s.handleGoesDown btuFirst = (s.withTgu fun t => { t with handleDown := true }).sqcHandleDown := by
  unfold State.handleGoesDown
  cases btuFirst
  · exact State.abandonTest_of_quiet ((State.Reaches.refl (d := false) _).sqcHandleDown.quietTest (by exact quiet)) _
  · exact congrArg State.sqcHandleDown (State.abandonTest_of_quiet (by exact quiet) _)

end Sys2Proof.Machine

/-! ### The statement -/

open Sys2Proof.Machine in
/-- Settles O34: every input by its edge and its held level, and the handle. -/
theorem handleMoves : Obligations.HandleMoves := by
  refine ⟨fun s level order on row member => ⟨fun stands => ?_, fun changes => ?_, exec_unheld on row.1 level order,
    fun held changes => ?_⟩, fun s btuFirst on => ⟨fun up held quiet => ?_, fun down held => ?_⟩⟩
  · rw [exec_edge on, State.inputGoes, show ((s.inputs.line row.1).level != level) = false by simpa using stands,
      State.onlyIf_false]
  · have span : row.1.span = row.2 := by
      revert row
      simp [InputPin.span]
    rw [exec_edge on, State.inputGoes, show ((s.inputs.line row.1).level != level) = true by simpa using changes,
      State.onlyIf_true, span]
    simp [State.withInputs]
  · obtain ⟨t, answer, inputs, debounced⟩ := exec_held on row.1 level order held changes
    exact ⟨t, answer, by rw [debounced, s.followed_debounced], by rw [inputs, s.followed_inputs]⟩
  · have acts : exec (.handleDown btuFirst) s = .next ((s.endCount .hndl).handleGoesDown btuFirst) :=
      congrArg Host.Outcome.next (State.whenStarted_debounce on held (by simp [State.debounced, up]) _)
    rw [acts, State.handleGoesDown_quiet (by exact quiet)]
    exact ⟨_, rfl, State.sqcHandleDown_locksOut (s := (s.endCount .hndl).withTgu _) quiet⟩
  · exact congrArg Host.Outcome.next (State.whenStarted_debounce on held (by simp [State.debounced, down]) _)

end

section
/-! SUPPORT. An operator trip: the trip that it begins, the lockout and the refusal, at the panel and at the port (R39). -/

namespace Sys2Proof.Machine

/-! ### A trip begun with no request standing (R27, R54, R55, R61) -/

/-- Pre-emption ends a close pulse in progress with its window and its request, and the enables follow. -/
def State.freed (s : State) : Cdu :=
  if s.cdu.pulse = .close then
    { s.cdu with
      closeRequest := false, closeWindow := none, tripOwed := false, pulse := .none, pulseTimer := none }.charged
      s.tripSupply (s.closeSupply && !s.cdu.closeBarred)
  else s.cdu

/-- The TRIP_FREE record of a pre-emption, where there is one. -/
def State.freedRecords (s : State) : List RecordBody :=
  if s.cdu.pulse = .close then [{ kind := .tripFree, shots := some s.sqc.shots }] else []

theorem State.preempt_eq (s : State) : s.preempt = { s with cdu := s.freed, rcs := s.withRecords s.freedRecords } := by
  unfold State.freed State.freedRecords State.preempt
  by_cases close : s.cdu.pulse = .close
  · rw [show (s.cdu.pulse == .close) = true by simp [close], State.onlyIf_true, State.endPulse_eq, if_pos close, if_pos close]
    rfl
  · rw [show (s.cdu.pulse == .close) = false by simpa using close, State.onlyIf_false, if_neg close, if_neg close]
    rfl

/-- The CDU's trip request and readiness pass a pre-emption by, and so does the bar. -/
theorem State.freed_keeps (s : State) :
    s.freed.tripRequest = s.cdu.tripRequest ∧ s.freed.tripReady = s.cdu.tripReady ∧ s.freed.closeBarred = s.cdu.closeBarred := by
  unfold State.freed
  split <;> exact ⟨rfl, rfl, rfl⟩

/-- The CDU after a new trip order: the pulse of a ready trip capacitor, or the request that waits for it. -/
def State.tripOrdered (s : State) : Cdu :=
  if s.cdu.tripReady = true then
    ({ s.freed with withdrawn := false }.tripping s.cfg.tripWidth .first).charged false (s.closeSupply && !s.cdu.closeBarred)
  else { s.freed with withdrawn := false, tripRequest := .wait, tripWait := some 2000 }

theorem State.cduTripOrder_fresh {s : State} (request : s.cdu.tripRequest = .none) :
    s.cduTripOrder.cdu = s.tripOrdered := by
  obtain ⟨requested, ready, bar⟩ := s.freed_keeps
  rw [request] at requested
  unfold State.cduTripOrder State.tripOrdered
  simp only [s.preempt_eq, requested, State.withCdu, State.beginTripPulse_eq, ready]
  rw [← bar]
  split <;> rfl

/-- A trip that begins with no test running and no request standing: the whole state. -/
theorem State.beginTrip_state {s : State} (quiet : s.quietTest) (request : s.cdu.tripRequest = .none) (trip : CurrentTrip) :
    s.beginTrip trip =
      { s with
        sqc := { s.sqc.moved .tripping none with trip := some trip, manualWindow := none }
        cdu := s.tripOrdered
        rcs := s.withRecords (s.freedRecords ++ [tripRecord trip s.sqc.shots])
        pru := (s.beginTrip trip).pru
        chc := (s.beginTrip trip).chc } := by
  have entry : s.tripping trip =
      { s with sqc := { s.sqc.moved .tripping none with trip := some trip, manualWindow := none } } := by
    rw [State.tripping, State.enterSeq_tripping quiet]
    rfl
  ext1
  case sqc => exact s.beginTrip_sqc trip
  case ocu => exact s.beginTrip_ocu trip
  case cdu =>
    rw [State.beginTrip_cdu, State.cduTripOrder_fresh (by rw [entry]; exact request), entry]
    rfl
  case rcs => exact State.beginTrip_rcs quiet trip
  case btu => simp [State.beginTrip, State.enterSeq_tripping quiet]
  all_goals simp

theorem State.beginTrip_operator_reports {s : State} (quiet : s.quietTest) :
    Reports s (s.beginTrip operatorsTrip) [(.trip, tripPayload operatorsTrip false 0)] := by
  have entry := State.enterSeq_tripping quiet
  exact ((s.tripping operatorsTrip).cduTripOrder.buildTrip_reports operatorsTrip false).of_parts
    (by simp [State.tripping, entry, State.cfg]) rfl

/-! ### The operator trip by state (R39) -/

/-- The states in which an operator trip begins a trip. -/
def State.tripsByHand (s : State) : Prop :=
  s.sqc.seq = .ready ∨ s.sqc.seq = .resetTiming ∨ (s.sqc.seq = .closing ∧ s.sqc.closeBegun = true) ∨
    (s.sqc.seq = .lockout ∧ s.cdu.closedMade = true ∧ s.cdu.openMade = false)

theorem State.operatorTrip_begins {s : State} (states : s.tripsByHand) :
    s.operatorTrip = s.beginTrip operatorsTrip ∧ s.operatorTripAnswer = .done := by
  unfold State.operatorTrip State.operatorTripAnswer
  rcases states with seq | seq | ⟨seq, begun⟩ | ⟨seq, made, free⟩
  · rw [seq]
    exact ⟨rfl, rfl⟩
  · rw [seq]
    exact ⟨rfl, rfl⟩
  · rw [seq, begun]
    exact ⟨rfl, rfl⟩
  · rw [seq, (s.position_closed_iff).mpr ⟨made, free⟩]
    exact ⟨rfl, rfl⟩

theorem State.operatorTrip_locks {s : State}
    (states : s.sqc.seq = .recloseWait ∨ s.sqc.seq = .closeCharge ∨ (s.sqc.seq = .closing ∧ s.sqc.closeBegun = false)) :
    LocksOut s s.operatorTrip .operator [] ∧ s.operatorTripAnswer = .done := by
  have locks : s.operatorTrip = s.enterLockout .operator ∧ s.operatorTripAnswer = .done := by
    unfold State.operatorTrip State.operatorTripAnswer
    rcases states with seq | seq | ⟨seq, begun⟩
    · rw [seq]
      exact ⟨rfl, rfl⟩
    · rw [seq]
      exact ⟨rfl, rfl⟩
    · rw [seq, begun]
      exact ⟨rfl, rfl⟩
  obtain ⟨state, answer⟩ := locks
  rw [state]
  refine ⟨State.enterLockout_locksOut (.inl fun ready => ?_) _, answer⟩
  simp [ready] at states

theorem State.operatorTrip_refused {s : State}
    (states : s.sqc.seq = .breakerFail ∨ (s.sqc.seq = .lockout ∧ ¬(s.cdu.closedMade = true ∧ s.cdu.openMade = false))) :
    s.operatorTrip = s ∧ s.operatorTripAnswer = .refusedState := by
  unfold State.operatorTrip State.operatorTripAnswer
  rcases states with seq | ⟨seq, closed⟩
  · rw [seq]
    exact ⟨rfl, rfl⟩
  · have position : (s.position == .closed) = false := by
      rw [beq_eq_false_iff_ne]
      exact fun h => closed ((s.position_closed_iff).mp h)
    rw [seq, position]
    exact ⟨rfl, rfl⟩

/-- In TRIPPING the current trip becomes final with OPERATOR (R28, R39). -/
theorem State.operatorTrip_tripping {s : State} (seq : s.sqc.seq = .tripping) :
    s.operatorTrip =
        { s with
          sqc :=
            { s.sqc with
              trip := s.sqc.trip.map fun trip : CurrentTrip => { trip with finalReason := some LockReason.operator } } } ∧
      s.operatorTripAnswer = .done := by
  unfold State.operatorTrip State.operatorTripAnswer
  rw [seq]
  exact ⟨rfl, rfl⟩

/-! ### The key and the request (R149, R172) -/

/-- The trip key has held its level: its debounced state follows, and a press acts (R149). -/
def State.tripKeyed (s : State) (pressed : Bool) : State :=
  { s with inputs := s.inputs.still .tripKey, tgu := { s.tgu with keys := { s.tgu.keys with trip := pressed } } }

theorem exec_tripKey {s : State} {pressed : Bool} (on : s.started = true) (was : s.tgu.keys.trip ≠ pressed)
    (held : s.Held .tripKey pressed) :
    exec (.tripKey pressed) s = .next ((s.tripKeyed pressed).onlyIf pressed State.tripPress) :=
  congrArg Host.Outcome.next (State.whenStarted_debounce on held was _)

theorem State.tripPress_taken {s : State} (done : s.operatorTripAnswer = .done) : s.tripPress = s.operatorTrip := by
  rw [State.tripPress, if_pos (by simp [done])]

theorem State.tripPress_refused {s : State} (refused : s.operatorTripAnswer = .refusedState) : s.tripPress = s.startErrorTone := by
  rw [State.tripPress, if_neg (by simp [refused])]

end Sys2Proof.Machine

/-! ### The statement -/

open Sys2Proof.Machine in
/-- Settles O32: an operator trip by state, taken, locked out or refused, at the port and at the panel. -/
theorem operatorTripByState : Obligations.OperatorTripByState := by
  refine ⟨?_, fun s on => ⟨fun seq listen => ?_, fun states => ⟨fun listen => ?_, fun was held => ?_⟩,
    fun states => ⟨fun listen => ?_, fun was held => ?_⟩, fun was held => ?_⟩⟩
  · rintro s on quiet request states before freed tripped rfl rfl rfl
    refine ⟨fun was held => ?_, fun listen => ?_⟩
    · obtain ⟨begins, done⟩ := State.operatorTrip_begins (s := s.tripKeyed true) states
      rw [exec_tripKey on (by simp [was]) held, State.onlyIf_true, State.tripPress_taken done, begins]
      refine ⟨_, rfl, (State.beginTrip_state (s := s.tripKeyed true) quiet request operatorsTrip).trans rfl,
        (State.beginTrip_operator_reports (s := s.tripKeyed true) quiet).of_parts rfl rfl⟩
    · obtain ⟨begins, done⟩ := State.operatorTrip_begins (s := s.resetAssembly) states
      rw [exec_operatorTrip on listen, State.serveTrip, begins, done, State.respond_eq]
      have state := State.beginTrip_state (s := s.resetAssembly) quiet request operatorsTrip
      refine ⟨_, rfl, ?_, (State.beginTrip_operator_reports (s := s.resetAssembly) quiet).of_parts rfl rfl⟩
      rw [state]
      rfl
  · obtain ⟨state, done⟩ := State.operatorTrip_tripping (s := s.resetAssembly) seq
    rw [exec_operatorTrip on listen, State.serveTrip, state, done, State.respond_eq]
    rfl
  · obtain ⟨⟨state, reports⟩, done⟩ := State.operatorTrip_locks (s := s.resetAssembly) states
    rw [exec_operatorTrip on listen, State.serveTrip, done, State.respond_eq]
    refine ⟨_, rfl, ?_, reports.of_parts rfl rfl⟩
    rw [state]
    rfl
  · obtain ⟨locks, done⟩ := State.operatorTrip_locks (s := s.tripKeyed true) states
    rw [exec_tripKey on (by simp [was]) held, State.onlyIf_true, State.tripPress_taken done]
    exact ⟨_, rfl, locks⟩
  · obtain ⟨stays, refused⟩ := State.operatorTrip_refused (s := s.resetAssembly) states
    rw [exec_operatorTrip on listen, State.serveTrip, stays, refused, State.answered_eq]
    rfl
  · obtain ⟨-, refused⟩ := State.operatorTrip_refused (s := s.tripKeyed true) states
    rw [exec_tripKey on (by simp [was]) held, State.onlyIf_true, State.tripPress_refused refused]
    rfl
  · rw [exec_tripKey on (by simp [was]) held, State.onlyIf_false]
    rfl

end

section
/-! SUPPORT. The local changes to the table of tags: an entry and a removal as whole states, and the judgement of tag in force. -/

namespace Sys2Proof.Machine

/-! ### The tag store write (R160) -/

theorem State.requestWrite_eq (s : State) :
    s.requestWrite = { s with tgu := s.tgu.writeAsked s.svp.link, svp := s.svp.writeAsked s.tgu.writing s.now } := by
  unfold State.requestWrite Tgu.writeAsked Svp.writeAsked
  cases writing : s.tgu.writing with
  | true => simp [State.withTgu, writing]
  | false =>
    by_cases free : s.svp.link = .free
    · simp [State.startWrite, State.withTgu, State.withSvp, Svp.beginWrite, free]
    · simp [State.withTgu, free]

/-! ### An entry (R152, R153) -/

theorem TagSource.peerId_of_isLocal {source : TagSource} (own : source.isLocal = true) : source.peerId = none := by
  cases source <;> simp_all [TagSource.isLocal, TagSource.peerId]

/-- The event of a local entry, before the judgement of tag in force (R153). -/
def State.entered (s : State) (source : TagSource) (code : Word16) (slot : Nat) : State :=
  ((s.enterTag source code (some slot)).buildTag code).requestWrite

theorem State.entered_enters (s : State) {source : TagSource} (own : source.isLocal = true) (code : Word16) (slot : Nat) :
    Enters s (s.entered source code slot) source code slot := by
  have reports : Reports s ((s.enterTag source code (some slot)).buildTag code) [(.tag, beBytes 2 code.toNat)] :=
    ((s.enterTag source code (some slot)).buildReport_reports (by decide) _).of_parts rfl rfl
  refine ⟨?_, reports.of_parts rfl (by simp [State.entered])⟩
  rw [State.entered, State.requestWrite_eq]
  ext1
  case tgu => simp [State.enterTag]
  case svp => simp [State.enterTag]
  case rcs =>
    simp only [State.buildTag_frame, State.enterTag, TagSource.peerId_of_isLocal own]
    rfl
  all_goals simp [State.enterTag]

/-- An entry leaves a tag in force. -/
theorem Enters.tagInForce {s t : State} {source : TagSource} {code : Word16} {slot : Nat} (h : Enters s t source code slot) :
    t.tagInForce = true := by
  obtain ⟨state, -⟩ := h
  have tags : t.tgu.tags = s.tgu.tags ++ [{ source := source, code := code, applied := s.now, slot := some slot }] := by
    rw [state]
    unfold Tgu.writeAsked
    repeat' split
    all_goals rfl
  simp [State.tagInForce, tags]

/-! ### A tag comes into force (R36, R140, R158) -/

theorem State.sqcTripOrder_ocu (s : State) (o : TripOrder) : (s.sqcTripOrder o).ocu = s.ocu := by
  unfold State.sqcTripOrder
  repeat' split
  all_goals simp [State.takeTrip, State.takeLockoutTrip]

/-- The release test keeps the hold records. -/
theorem State.releaseTest_holds (s : State) (k j : Kind) : ((s.releaseTest k).ocu.kind j).hold = (s.ocu.kind j).hold := by
  unfold State.releaseTest State.onlyIf
  split
  · cases k <;> cases j <;> rfl
  · split
    · refine (congrArg (fun o : Ocu => (o.kind j).hold) (State.sqcTripOrder_ocu _ _)).trans ?_
      cases j <;> rfl
    · rfl

theorem State.endHold_hold (s : State) (k : Kind) (cause : Reason) : ((s.endHold k cause).ocu.kind k).hold = none := by
  cases held : (s.ocu.kind k).hold with
  | none => rw [State.endHold_unheld held, held]
  | some h =>
    rw [State.endHold_held held, State.releaseTest_holds]
    cases k <;> rfl

/-- The end of one hold is the end of no other that had ended. -/
theorem State.endHold_other (s : State) (k j : Kind) (cause : Reason) (ended : (s.ocu.kind j).hold = none) :
    ((s.endHold k cause).ocu.kind j).hold = none := by
  cases held : (s.ocu.kind k).hold with
  | none => rw [State.endHold_unheld held, ended]
  | some h =>
    rw [State.endHold_held held, State.releaseTest_holds]
    cases k with
    | phase =>
      cases j with
      | phase => rfl
      | ground => exact ended
    | ground =>
      cases j with
      | phase => exact ended
      | ground => rfl

theorem State.endHolds_phase (s : State) (cause : Reason) : (s.endHolds cause).ocu.phase.hold = none :=
  State.endHold_other _ .ground .phase cause (s.endHold_hold .phase cause)

theorem State.endHolds_ground (s : State) (cause : Reason) : (s.endHolds cause).ocu.ground.hold = none :=
  State.endHold_hold _ .ground cause

theorem State.endHolds_unheld {s : State} (phase : s.ocu.phase.hold = none) (ground : s.ocu.ground.hold = none) (cause : Reason) :
    s.endHolds cause = s := by
  rw [State.endHolds, State.endHold_unheld (k := .phase) phase, State.endHold_unheld (k := .ground) ground]

/-- What a tag that comes into force brings to the SQC (R36). -/
theorem State.sqcTagOn_locks (s : State) :
    if s.sqc.seq = .recloseWait ∨ s.sqc.seq = .closeCharge ∨ (s.sqc.seq = .closing ∧ s.sqc.closeBegun = false)
    then LocksOut s s.sqcTagOn .tagged [] else s.sqcTagOn = s := by
  split
  · next states =>
    have locks : s.sqcTagOn = s.enterLockout .tagged := by
      rcases states with seq | seq | ⟨seq, begun⟩
      · rw [State.sqcTagOn, seq]
      · rw [State.sqcTagOn, seq]
      · rw [State.sqcTagOn, seq, begun]
        rfl
    rw [locks]
    refine State.enterLockout_locksOut (.inl fun ready => ?_) _
    simp [ready] at states
  · next states =>
    simp only [not_or, not_and, Bool.not_eq_false] at states
    obtain ⟨waits, charges, begun⟩ := states
    unfold State.sqcTagOn
    split
    · next seq => exact absurd seq waits
    · next seq => exact absurd seq charges
    · next seq => rw [begun seq, if_pos rfl]
    · rfl

/-- A tag that comes into force, at the SQC and at the OCU. -/
theorem State.tagBegins_locks {s : State} (phase : s.ocu.phase.hold = none) (ground : s.ocu.ground.hold = none) :
    if s.sqc.seq = .recloseWait ∨ s.sqc.seq = .closeCharge ∨ (s.sqc.seq = .closing ∧ s.sqc.closeBegun = false)
    then LocksOut s (s.sqcTagOn.endHolds (.lock .tagged)) .tagged [] else s.sqcTagOn.endHolds (.lock .tagged) = s := by
  have locks := s.sqcTagOn_locks
  split at locks
  · next states =>
    have ocu : s.sqcTagOn.ocu = s.ocu := locks.keeps.2.2.1
    rwa [if_pos states, State.endHolds_unheld (by rw [ocu, phase]) (by rw [ocu, ground])]
  · next states => rw [if_neg states, locks, State.endHolds_unheld phase ground]

/-! ### A local apply (R153) -/

theorem State.localApply_unchanged {s : State} {source : TagSource} {code : Word16}
    (result : s.applyResult source code ≠ .entered) (slot : Option Nat) : s.localApply source code slot = s := by
  rw [State.localApply, show (s.applyResult source code == .entered) = false by simpa using result, State.onlyIf_false]

/-- A local apply that enters its tag: nothing more under a tag in force, else what a tag that comes into force brings. -/
theorem State.localApply_entered {s : State} {source : TagSource} {code : Word16}
    (result : s.applyResult source code = .entered) (own : source.isLocal = true) (slot : Nat) :
    s.localApply source code (some slot) =
      if s.tagInForce = true then s.entered source code slot
      else (s.entered source code slot).sqcTagOn.endHolds (.lock .tagged) := by
  rw [State.localApply, show (s.applyResult source code == .entered) = true by simp [result], State.onlyIf_true, State.tagEvent]
  have inForce : (s.entered source code slot).tagInForce = true := (s.entered_enters own code slot).tagInForce
  show (s.entered source code slot).onlyIf (!s.tagInForce && (s.entered source code slot).tagInForce) _ = _
  cases tag : s.tagInForce <;> rw [inForce] <;> rfl

theorem State.hasTag_iff (s : State) (source : TagSource) (code : Word16) :
    s.hasTag source code = true ↔ ∃ e ∈ s.tgu.tags, e.source = source ∧ e.code = code := by
  simp [State.hasTag]

/-- The judgement of a local apply, in R153's order. -/
theorem State.applyResult_of_held {s : State} {source : TagSource} {code : Word16}
    (held : ∃ e ∈ s.tgu.tags, e.source = source ∧ e.code = code) : s.applyResult source code = .unchanged := by
  rw [State.applyResult, if_pos ((s.hasTag_iff _ _).mpr held)]

theorem State.applyResult_of_new {s : State} {source : TagSource} {code : Word16}
    (unheld : ∀ e ∈ s.tgu.tags, e.source = source → e.code ≠ code) :
    s.applyResult source code =
      if 4 ≤ (s.tgu.tags.filter fun e => e.source.isLocal).length ∨ 8 ≤ s.tgu.tags.length then .full else .entered := by
  have new : ¬s.hasTag source code = true := by
    rw [State.hasTag_iff]
    rintro ⟨e, member, own, same⟩
    exact unheld e member own same
  rw [State.applyResult, if_neg new]

/-! ### A local removal (R154, R157) -/

theorem State.removalChoice_eq (s : State) (own other : TagSource) (code : Word16) :
    s.removalChoice own other code = removedEntry s.tgu.tags own other code := by
  unfold State.removalChoice removedEntry
  dsimp only
  generalize (s.tgu.tags.find? fun e => e.source == own && e.code == code) = first
  generalize (s.tgu.tags.find? fun e => e.source == other && e.code == code) = second
  generalize (s.tgu.tags.find? fun e => e.source == .store) = third
  generalize (s.tgu.tags.find? fun e => e.source.isLocal && e.slot.isNone) = fourth
  cases first <;> cases second <;> cases third <;> cases fourth <;> rfl

/-- The entry that a local removal takes out stands in the table and is a local one. -/
theorem removedEntry_local {tags : List TagEntry} {own other : TagSource} {code : Word16} {e : TagEntry}
    (own_ : own.isLocal = true) (other_ : other.isLocal = true) (chosen : removedEntry tags own other code = some e) :
    e ∈ tags ∧ e.source.isLocal = true := by
  have found {p : TagEntry → Bool} (isLocal : ∀ x, p x = true → x.source.isLocal = true) (h : some e = tags.find? p) :
      e ∈ tags ∧ e.source.isLocal = true :=
    ⟨List.mem_of_find?_eq_some h.symm, isLocal e (List.find?_some h.symm)⟩
  have member := List.mem_of_head? chosen
  simp only [List.reduceOption, List.mem_filterMap, id_eq, exists_eq_right, List.mem_cons, List.not_mem_nil, or_false] at member
  rcases member with first | second | third | fourth
  · exact found (fun x h => by simp only [Bool.and_eq_true, beq_iff_eq] at h; rw [h.1, own_]) first
  · exact found (fun x h => by simp only [Bool.and_eq_true, beq_iff_eq] at h; rw [h.1, other_]) second
  · exact found (fun x h => by simp only [beq_iff_eq] at h; rw [h]; rfl) third
  · exact found (fun x h => by simp only [Bool.and_eq_true] at h; exact h.1) fourth

theorem State.localRemoval_none {s : State} {own other : TagSource} {code : Word16}
    (chosen : removedEntry s.tgu.tags own other code = none) : s.localRemoval own other code = s := by
  rw [State.localRemoval, State.removalChoice_eq, chosen]

/-- The event of a local removal before the offer of its place (R154). -/
def State.removed (s : State) (e : TagEntry) : State :=
  ((s.removeTag e.source e.code).buildUntag e.code).requestWrite

/-- A removal finds a tag in force, so that none comes into force by it. -/
theorem State.localRemoval_some {s : State} {own other : TagSource} {code : Word16} {e : TagEntry}
    (own_ : own.isLocal = true) (other_ : other.isLocal = true) (chosen : removedEntry s.tgu.tags own other code = some e) :
    s.localRemoval own other code = (s.removed e).offerPlace := by
  have inForce : s.tagInForce = true := by
    have member := (removedEntry_local own_ other_ chosen).1
    simp [State.tagInForce, List.ne_nil_of_mem member]
  rw [State.localRemoval, State.removalChoice_eq, chosen]
  show State.tagEvent s _ = _
  rw [State.tagEvent, inForce]
  rfl

/-- The state of a removal before the offer of its place. -/
theorem State.removed_state (s : State) {e : TagEntry} (own : e.source.isLocal = true) :
    s.removed e =
      { s with
        tgu :=
          ({ s.tgu with tags := s.tgu.tags.filter fun x => !(x.source == e.source && x.code == e.code) } : Tgu).writeAsked
            s.svp.link
        svp := s.svp.writeAsked s.tgu.writing s.now
        rcs := s.withRecords [{ kind := .tagOff, tagSource := some e.source, crewCode := some e.code }]
        pru := (s.removed e).pru
        chc := (s.removed e).chc } := by
  rw [State.removed, State.requestWrite_eq]
  ext1
  case tgu => simp [State.removeTag]
  case svp => simp [State.removeTag]
  case rcs =>
    simp only [State.buildUntag_frame, State.removeTag, TagSource.peerId_of_isLocal own]
    rfl
  all_goals simp [State.removeTag]

theorem State.removed_reports (s : State) (e : TagEntry) : Reports s (s.removed e) [(.untag, beBytes 2 e.code.toNat)] := by
  have reports : Reports s ((s.removeTag e.source e.code).buildUntag e.code) [(.untag, beBytes 2 e.code.toNat)] :=
    ((s.removeTag e.source e.code).buildReport_reports (by decide) _).of_parts rfl rfl
  exact reports.of_parts rfl (by simp [State.removed])

theorem Tgu.writeAsked_overflow (t : Tgu) (link : LinkState) : (t.writeAsked link).overflow = t.overflow := by
  unfold Tgu.writeAsked
  repeat' split
  all_goals rfl

/-- A freed place goes to the pair that the overflow record holds (R157). -/
theorem State.offerPlace_some {s : State} {p : RemotePair} (overflow : s.tgu.overflow = some p) :
    s.offerPlace =
      { s with
        tgu :=
          { s.tgu with
            overflow := none
            tags := s.tgu.tags ++ [{ source := .peer p.peer, code := p.code, applied := s.now, slot := none }] }
        rcs := s.withRecords
          [{ kind := .tagOn, tagSource := some (.peer p.peer), crewCode := some p.code, peerId := some p.peer }] } := by
  rw [State.offerPlace, overflow]
  rfl

theorem State.offerPlace_none {s : State} (overflow : s.tgu.overflow = none) : s.offerPlace = s := by
  rw [State.offerPlace, overflow]

/-- A removal with the offer of its place to the overflow record (R154, R157). -/
theorem State.removed_removes (s : State) {e : TagEntry} (own : e.source.isLocal = true) :
    Removes s (s.removed e).offerPlace e := by
  rintro left rfl
  have state := s.removed_state own
  have reports := s.removed_reports e
  have now : (s.removed e).now = s.now := by rw [state]
  have records : (s.removed e).rcs =
      s.withRecords [{ kind := .tagOff, tagSource := some e.source, crewCode := some e.code }] := by rw [state]
  have same : (s.removed e).tgu.overflow = s.tgu.overflow := by
    rw [state]
    exact Tgu.writeAsked_overflow _ _
  cases overflow : s.tgu.overflow with
  | none =>
    rw [State.offerPlace_none (same.trans overflow)]
    exact ⟨state, reports⟩
  | some p =>
    have appended := State.withRecords_append s (s.removed e) now _
      [{ kind := .tagOn, tagSource := some (.peer p.peer), crewCode := some p.code, peerId := some p.peer }] records
    rw [State.offerPlace_some (same.trans overflow), appended]
    refine ⟨?_, reports.of_parts rfl rfl⟩
    rw [state]
    rfl

/-! ### The answers (R171) -/

/-- A write asked for and an answer sent part the SVP between them. -/
theorem Svp.writeAsked_answered (v : Svp) (writing : Bool) (now : Word32) (code : Byte) (answer : Byte) (payload : List Byte) :
    (v.answered code answer payload).writeAsked writing now = (v.writeAsked writing now).answered code answer payload := by
  unfold Svp.writeAsked
  by_cases begins : writing = false ∧ v.link = .free
  · rw [if_pos begins, if_pos (by exact begins)]
    rfl
  · rw [if_neg begins, if_neg (by exact begins)]

/-- A state with the answer to its request on the way. -/
def State.answering (s : State) (code answer : Byte) : State := { s with svp := s.svp.answered code answer [] }

/-- An answer given last of all is one given first, for an entry. -/
theorem Enters.answered {s t : State} {source : TagSource} {code : Word16} {slot : Nat} (h : Enters s t source code slot)
    (request answer : Byte) : Enters (s.answering request answer) (t.answering request answer) source code slot := by
  obtain ⟨state, reports⟩ := h
  refine ⟨?_, reports.of_parts rfl rfl⟩
  rw [state]
  exact State.ext_parts rfl rfl rfl rfl rfl rfl rfl rfl rfl rfl (Svp.writeAsked_answered _ _ _ _ _ _).symm rfl rfl rfl

/-- And for a removal. -/
theorem Removes.answered {s t : State} {e : TagEntry} (h : Removes s t e) (request answer : Byte) :
    Removes (s.answering request answer) (t.answering request answer) e := by
  rintro left rfl
  obtain ⟨state, reports⟩ := h _ rfl
  refine ⟨?_, reports.of_parts rfl rfl⟩
  rw [state]
  exact State.ext_parts rfl rfl rfl rfl rfl rfl rfl rfl rfl rfl (Svp.writeAsked_answered _ _ _ _ _ _).symm rfl rfl rfl

/-- And for an entry to LOCKOUT. -/
theorem LocksOut.answered {s t : State} {reason : LockReason} {before : List RecordBody} (h : LocksOut s t reason before)
    (request answer : Byte) : LocksOut (s.answering request answer) (t.answering request answer) reason before := by
  obtain ⟨state, reports⟩ := h
  refine ⟨?_, reports.of_parts rfl rfl⟩
  rw [state]
  rfl

/-- The receive state is in HUNT from the taking on, so that the answer is the SVP's as the statements have it. -/
theorem State.respond_answering {s : State} (hunt : s.svp.rx = .hunt ∧ s.svp.buffer = [] ∧ s.svp.gap = none) (code : Byte)
    (answer : Answer) : s.respond code answer [] = s.answering code (BitVec.ofNat 8 answer.code) := by
  obtain ⟨rx, buffer, gap⟩ := hunt
  rw [State.respond_eq, State.answering, Svp.answered, ← rx, ← buffer, ← gap]

theorem Svp.writeAsked_hunt {v : Svp} (hunt : v.rx = .hunt ∧ v.buffer = [] ∧ v.gap = none) (writing : Bool) (now : Word32) :
    (v.writeAsked writing now).rx = .hunt ∧ (v.writeAsked writing now).buffer = [] ∧ (v.writeAsked writing now).gap = none := by
  unfold Svp.writeAsked
  split <;> exact hunt

/-- What a tag that comes into force leaves of the tags and of the port. -/
theorem State.tagBegins_keeps (s : State) :
    (s.sqcTagOn.endHolds (.lock .tagged)).tgu = s.tgu ∧ (s.sqcTagOn.endHolds (.lock .tagged)).svp = s.svp := by
  simp

/-- Tag-Apply of a known code (R153). -/
theorem State.serveTagApply_known {s : State} {code : Word16} {slot : Nat} (known : s.cfg.crewSlot code = some slot) :
    s.serveTagApply code =
      (s.localApply .service code (some slot)).respond 0x20#8
        (if s.applyResult .service code = .full then .refusedFull else .done) [] := by
  rw [State.serveTagApply, State.tagApplyAnswer, known]
  simp [known]

/-- An apply at the port that enters its tag, with the judgement of tag in force and the answer (R36, R140, R153, R158). -/
theorem State.serveTagApply_enters {s : State} {code : Word16} {slot : Nat} (known : s.cfg.crewSlot code = some slot)
    (result : s.applyResult .service code = .entered) (hunt : s.svp.rx = .hunt ∧ s.svp.buffer = [] ∧ s.svp.gap = none) :
    ∃ u t, s.serveTagApply code = t ∧ Enters (s.answering 0x20#8 0) u .service code slot ∧ t.tagInForce = true ∧
      (s.tagInForce = true → t = u) ∧
      (s.tagInForce = false →
        t.ocu.phase.hold = none ∧ t.ocu.ground.hold = none ∧
        (s.ocu.phase.hold = none → s.ocu.ground.hold = none →
          if s.sqc.seq = .recloseWait ∨ s.sqc.seq = .closeCharge ∨ (s.sqc.seq = .closing ∧ s.sqc.closeBegun = false)
          then LocksOut u t .tagged [] else t = u)) := by
  have enters := s.entered_enters (source := .service) rfl code slot
  have inForce := enters.tagInForce
  obtain ⟨state, -⟩ := id enters
  have ocu : (s.entered .service code slot).ocu = s.ocu := by rw [state]
  have sqc : (s.entered .service code slot).sqc = s.sqc := by rw [state]
  have hunt' := Svp.writeAsked_hunt hunt s.tgu.writing s.now
  rw [show s.svp.writeAsked s.tgu.writing s.now = (s.entered .service code slot).svp by rw [state]] at hunt'
  have served : s.serveTagApply code =
      (if s.tagInForce = true then s.entered .service code slot
        else (s.entered .service code slot).sqcTagOn.endHolds (.lock .tagged)).respond 0x20#8 .done [] := by
    rw [State.serveTagApply_known known, result, ← State.localApply_entered result rfl]
    rfl
  obtain ⟨tgu, svp⟩ := (s.entered .service code slot).tagBegins_keeps
  refine ⟨(s.entered .service code slot).answering 0x20#8 0, _, served, enters.answered _ _, ?_⟩
  cases tag : s.tagInForce with
  | true =>
    rw [if_pos rfl, State.respond_answering hunt']
    exact ⟨inForce, fun _ => rfl, nofun⟩
  | false =>
    rw [if_neg (by decide), State.respond_answering (by rw [svp]; exact hunt')]
    refine ⟨?_, nofun, fun _ => ⟨State.endHolds_phase _ _, State.endHolds_ground _ _, fun phase ground => ?_⟩⟩
    · rw [← inForce]
      exact congrArg (fun g : Tgu => !g.tags.isEmpty || g.overflow.isSome) tgu
    · have locks := State.tagBegins_locks (s := s.entered .service code slot) (by rw [ocu, phase]) (by rw [ocu, ground])
      rw [sqc] at locks
      split at locks
      · next states =>
        rw [if_pos states]
        exact locks.answered _ _
      · next states =>
        rw [if_neg states, locks]
        rfl

end Sys2Proof.Machine

/-! ### The statement -/

open Sys2Proof.Machine in
/-- Settles O55: the two requests case by case, and a tag that comes into force by one. -/
theorem tagRequests : Obligations.TagRequests := by
  rintro s code locals on listen rfl
  have applied : exec (.tagApply code) s = .next (s.resetAssembly.serveTagApply code) := exec_request on listen (.tagApply code)
  have taken : exec (.tagRemove code) s = .next (s.resetAssembly.serveTagRemove code) := exec_request on listen (.tagRemove code)
  rw [applied, taken, State.serveTagRemove]
  refine ⟨fun unknown => ?_, fun slot known => ?_⟩
  · rw [State.serveTagApply, State.tagApplyAnswer, show s.resetAssembly.cfg.crewSlot code = none from unknown]
    exact ⟨congrArg _ (s.answered_eq 0x20#8 .refusedUnknown []), congrArg _ (s.answered_eq 0x21#8 .refusedUnknown [])⟩
  have known' : s.resetAssembly.cfg.crewSlot code = some slot := known
  refine ⟨fun held => ?_, fun unheld => ⟨fun full => ?_, fun few room => ?_⟩, fun none => ?_, fun e chosen => ?_⟩
  · have result : s.resetAssembly.applyResult .service code = .unchanged := State.applyResult_of_held held
    rw [State.serveTagApply_known known', State.localApply_unchanged (by simp [result]), result]
    exact congrArg _ (s.answered_eq 0x20#8 .done [])
  · have result : s.resetAssembly.applyResult .service code = .full := (State.applyResult_of_new unheld).trans (if_pos full)
    rw [State.serveTagApply_known known', State.localApply_unchanged (by simp [result]), result]
    exact congrArg _ (s.answered_eq 0x20#8 .refusedFull [])
  · have result : s.resetAssembly.applyResult .service code = .entered :=
      (State.applyResult_of_new unheld).trans (if_neg (not_or.mpr ⟨few.not_ge, room.not_ge⟩))
    obtain ⟨u, t, served, enters⟩ := State.serveTagApply_enters known' result ⟨rfl, rfl, rfl⟩
    exact ⟨u, t, congrArg _ served, enters⟩
  · rw [known', if_pos Option.isSome_some, State.localRemoval_none (by exact none)]
    exact congrArg _ (s.answered_eq 0x21#8 .done [])
  · have own := (removedEntry_local rfl rfl chosen).2
    have removes := s.resetAssembly.removed_removes own
    rw [known', if_pos Option.isSome_some, State.localRemoval_some rfl rfl (by exact chosen), State.respond_answering]
    · exact ⟨_, rfl, removes.answered _ _⟩
    · obtain ⟨state, -⟩ := removes _ rfl
      rw [state]
      exact Svp.writeAsked_hunt ⟨rfl, rfl, rfl⟩ _ _

end

section
/-! SUPPORT. What the service port sends of the part's state, byte by byte, and what the output lines show (R165, R168, R171 to R174). -/

namespace Sys2Proof.Machine

/-! ### Bytes -/

theorem beBytes_one (v : Nat) : beBytes 1 v = [BitVec.ofNat 8 v] := by simp [beBytes]

theorem beBytes_length (n v : Nat) : (beBytes n v).length = n := by
  induction n with
  | zero => rfl
  | succ n ih => simp [beBytes, ih]

theorem flagByte_eq (b : Bool) : flagByte b = [if b = true then 1#8 else 0#8] := by cases b <;> rfl

theorem placeByte_eq (b : Bool) : placeByte b = [if b = true then 0#8 else 1#8] := by cases b <;> rfl

/-- One item of a group: its two naming bytes, its size and its value (R173). -/
def statusItem (group place : Nat) (value : List Byte) : List Byte :=
  beBytes 1 group ++ beBytes 1 place ++ beBytes 1 value.length ++ value

theorem statusGroup_eq (group : Nat) (items : List (List Byte)) :
    statusGroup group items = (items.zipIdx.map fun e => statusItem group e.2 e.1).flatten := rfl

/-- An item of one byte and an item of a number, with their sizes spelled out. -/
theorem statusItem_byte (group place : Nat) (b : Byte) :
    statusItem group place [b] = [BitVec.ofNat 8 group, BitVec.ofNat 8 place, 1#8, b] := by
  simp [statusItem, beBytes_one]

theorem statusItem_absent (group place : Nat) :
    statusItem group place [] = [BitVec.ofNat 8 group, BitVec.ofNat 8 place, 0#8] := by
  simp [statusItem, beBytes_one]

theorem statusItem_number (group place n v : Nat) :
    statusItem group place (beBytes n v) =
      [BitVec.ofNat 8 group, BitVec.ofNat 8 place, BitVec.ofNat 8 n] ++ beBytes n v := by
  simp [statusItem, beBytes_one, beBytes_length]

/-! ### Read-Status, part 0 (R173) -/

/-- The group of the MFP. -/
theorem statusGroup_mfp (m : Mfp) :
    statusGroup 1 [word m.badFrames, word m.framesMissed, flagByte m.stalled, flagByte m.lost] =
      [1#8, 0#8, 2#8] ++ beBytes 2 m.badFrames ++ [1#8, 1#8, 2#8] ++ beBytes 2 m.framesMissed ++
        [1#8, 2#8, 1#8, if m.stalled = true then 1#8 else 0#8] ++ [1#8, 3#8, 1#8, if m.lost = true then 1#8 else 0#8] := by
  simp [statusGroup_eq, word, flagByte_eq, statusItem_byte, statusItem_number]

/-- The group of the SQC. -/
theorem statusGroup_sqc (q : Sqc) :
    statusGroup 3 [beBytes 1 q.seq.code, beBytes 1 q.shots, reasonByte q.reason, flagByte q.manualWindow.isSome,
        flagByte q.startHold.isSome] =
      [3#8, 0#8, 1#8] ++ beBytes 1 q.seq.code ++ [3#8, 1#8, 1#8] ++ beBytes 1 q.shots ++ [3#8, 2#8, 1#8] ++
        beBytes 1 ((q.reason.map LockReason.code).getD 0) ++ [3#8, 3#8, 1#8, if q.manualWindow ≠ none then 1#8 else 0#8] ++
        [3#8, 4#8, 1#8, if q.startHold ≠ none then 1#8 else 0#8] := by
  simp [statusGroup_eq, flagByte_eq, reasonByte, statusItem_byte, statusItem_number, Option.isSome_iff_ne_none]

/-- The group of the RCS. -/
theorem statusGroup_rcs (r : Rcs) :
    statusGroup 9 [beBytes 1 r.unread, beBytes 4 r.next.toNat, beBytes 1 r.ring.length,
        optionalItem (fun x : EventRecord => beBytes 4 x.number.toNat) r.ring.head?] =
      [9#8, 0#8, 1#8] ++ beBytes 1 r.unread ++ [9#8, 1#8, 4#8] ++ beBytes 4 r.next.toNat ++ [9#8, 2#8, 1#8] ++
        beBytes 1 r.ring.length ++
        (match r.ring.head? with
          | some x => [9#8, 3#8, 4#8] ++ beBytes 4 x.number.toNat
          | none => [9#8, 3#8, 0#8]) := by
  cases r.ring.head? with
  | none => simp [statusGroup_eq, statusItem_number, statusItem_absent, optionalItem]
  | some x => simp [statusGroup_eq, statusItem_number, optionalItem]

/-- The group of the SVP. -/
theorem statusGroup_svp (v : Svp) :
    statusGroup 10 [placeByte v.fromImage, beBytes 1 ((v.faultReason.map SettingsFault.code).getD 0), word v.discarded,
        word v.badRequests] =
      [10#8, 0#8, 1#8, if v.fromImage = true then 0#8 else 1#8] ++ [10#8, 1#8, 1#8] ++
        beBytes 1 ((v.faultReason.map SettingsFault.code).getD 0) ++ [10#8, 2#8, 2#8] ++ beBytes 2 v.discarded ++
        [10#8, 3#8, 2#8] ++ beBytes 2 v.badRequests := by
  simp [statusGroup_eq, word, placeByte_eq, statusItem_byte, statusItem_number]

/-- The answer to Read-Status part 0, by its groups. -/
theorem State.statusPayload_groups (s : State) :
    ∃ ocu rest : List Byte, s.statusPayload .items =
      statusGroup 1 [word s.mfp.badFrames, word s.mfp.framesMissed, flagByte s.mfp.stalled, flagByte s.mfp.lost] ++ ocu ++
        statusGroup 3 [beBytes 1 s.sqc.seq.code, beBytes 1 s.sqc.shots, reasonByte s.sqc.reason,
          flagByte s.sqc.manualWindow.isSome, flagByte s.sqc.startHold.isSome] ++ rest ++
        statusGroup 9 [beBytes 1 s.rcs.unread, beBytes 4 s.rcs.next.toNat, beBytes 1 s.rcs.ring.length,
          optionalItem (fun x : EventRecord => beBytes 4 x.number.toNat) s.rcs.ring.head?] ++
        statusGroup 10 [placeByte s.svp.fromImage, beBytes 1 ((s.svp.faultReason.map SettingsFault.code).getD 0),
          word s.svp.discarded, word s.svp.badRequests] := by
  have regroup (head cdu btu channel rcs svp : List Byte) :
      head ++ cdu ++ btu ++ (channel ++ rcs ++ svp) = head ++ (cdu ++ btu ++ channel) ++ rcs ++ svp := by
    simp only [List.append_assoc]
  exact ⟨_, _, regroup _ _ _ _ _ _⟩

/-! ### Event records (R165, R168, R174) -/

theorem lockoutRecord_bytes (number time : Word32) (reason : LockReason) (shots : Nat) :
    ({ number := number, time := time, body := lockoutRecord reason shots } : EventRecord).bytes =
      beBytes 4 number.toNat ++ beBytes 4 time.toNat ++ [8#8, 0#8, 0#8, 0x18#8] ++ beBytes 1 shots ++ beBytes 1 reason.code := by
  have presence : (lockoutRecord reason shots).presence = 0x18 := by
    simp [lockoutRecord, RecordBody.presence, RecordBody.fields, bit]
  have header : beBytes 1 (lockoutRecord reason shots).kind.code ++ beBytes 3 (lockoutRecord reason shots).presence =
      [8#8, 0#8, 0#8, 0x18#8] := by
    rw [presence, show (lockoutRecord reason shots).kind = .lockout from rfl]
    decide
  have fields : (lockoutRecord reason shots).fields.reduceOption.flatten = beBytes 1 shots ++ beBytes 1 reason.code := rfl
  rw [EventRecord.bytes, fields, List.append_assoc _ (beBytes 1 _), header]
  simp only [List.append_assoc]

/-- Where a read of the records begins: at the record named, past the newest for the next number, else at the oldest. -/
theorem Rcs.readStart_held {r : Rcs} {n : Word32} {i : Nat} {x : EventRecord} (at_ : r.ring[i]? = some x) (named : x.number = n)
    (first : ∀ j y, j < i → r.ring[j]? = some y → y.number ≠ n) : r.readStart n = i := by
  obtain ⟨inside, rfl⟩ := List.getElem?_eq_some_iff.mp at_
  have found : r.ring.findIdx? (·.number == n) = some i := by
    rw [List.findIdx?_eq_some_iff_getElem]
    refine ⟨inside, by simpa using named, fun j before => ?_⟩
    simpa using first j _ before (List.getElem?_eq_getElem (before.trans inside))
  rw [Rcs.readStart, found]

theorem Rcs.readStart_unheld {r : Rcs} {n : Word32} (unheld : ∀ x ∈ r.ring, x.number ≠ n) :
    r.readStart n = if n = r.next then r.ring.length else 0 := by
  have absent : r.ring.findIdx? (·.number == n) = none := by
    rw [List.findIdx?_eq_none_iff]
    simpa using unheld
  rw [Rcs.readStart, absent]

/-! ### Tables (R174) -/

theorem PeerEntry.bytes_eq (e : PeerEntry) :
    e.bytes =
      beBytes 1 e.id ++ beBytes 1 e.position ++
        beBytes 1
          ((if e.lastSeq ≠ none then 1 else 0) + (if e.summary ≠ none then 2 else 0) + (if e.fault ≠ none then 4 else 0) +
            (if e.silent = true then 8 else 0)) ++
        [e.lastSeq.getD 0] ++ beBytes 4 e.lastHeard.toNat ++
        (match e.summary with
          | some b => b ++ List.replicate (8 - b.length) 0#8
          | none => List.replicate 8 0#8) ++
        (match e.fault with
          | some f =>
            beBytes 1 f.kind.code ++ beBytes 4 f.time.toNat ++ beBytes 1 f.payload.length ++ f.payload ++
              List.replicate (9 - f.payload.length) 0#8
          | none => List.replicate 15 0#8) := by
  have flags : bit 0 e.lastSeq.isSome + bit 1 e.summary.isSome + bit 2 e.fault.isSome + bit 3 e.silent =
      (if e.lastSeq ≠ none then 1 else 0) + (if e.summary ≠ none then 2 else 0) + (if e.fault ≠ none then 4 else 0) +
        (if e.silent = true then 8 else 0) := by
    simp [bit, Option.isSome_iff_ne_none]
  have summary : padTo 8 (e.summary.getD []) =
      match e.summary with
      | some b => b ++ List.replicate (8 - b.length) 0#8
      | none => List.replicate 8 0#8 := by
    cases e.summary <;> rfl
  rw [PeerEntry.bytes, flags, summary]
  cases e.fault with
  | none =>
    have absent : beBytes 1 0 ++ beBytes 4 0 ++ beBytes 1 0 ++ padTo 9 [] = List.replicate 15 0#8 := by decide
    simp only [List.append_assoc] at absent
    simp only [Option.map_none, Option.getD_none, List.append_assoc, absent]
  | some f => simp only [Option.map_some, Option.getD_some, padTo, List.append_assoc]

theorem TagEntry.bytes_eq (e : TagEntry) :
    e.bytes =
      (match e.source with
        | .localPanel => [1#8, 0#8]
        | .service => [2#8, 0#8]
        | .store => [3#8, 0#8]
        | .peer id => [4#8] ++ beBytes 1 id) ++
        beBytes 2 e.code.toNat ++ beBytes 4 e.applied.toNat ++ beBytes 1 (e.slot.getD 0xFF) := by
  rw [TagEntry.bytes]
  cases e.source <;> simp [TagSource.sourceCode, TagSource.peerId, beBytes_one, word]

theorem overflowBytes_eq (o : Option RemotePair) :
    overflowBytes o =
      match o with
      | some p => [1#8] ++ beBytes 1 p.peer ++ beBytes 2 p.code.toNat
      | none => [0#8, 0#8, 0#8, 0#8] := by
  cases o <;> rfl

theorem Tgu.writeCode_byte (t : Tgu) :
    beBytes 1 t.writeCode = [if t.writing = false then 0#8 else if t.writeAgain = false then 1#8 else 2#8] := by
  rw [Tgu.writeCode]
  cases t.writing <;> cases t.writeAgain <;> rfl

/-! ### The output lines -/

theorem Svp.lastByteGone_iff (v : Svp) : v.lastByteGone = true ↔ ∃ left, v.linkTimer = some left ∧ left ≤ 20 := by
  simp [Svp.lastByteGone, Option.any_eq_true]

theorem TxState.keyed_iff (x : TxState) : x.keyed = true ↔ x = .keyUp ∨ x = .sending ∨ x = .keyDown := by
  cases x <;> decide

end Sys2Proof.Machine

/-! ### The statement -/

open Sys2Proof.Machine in
/-- Settles O57: the answers to the four read requests, spelled out, and each output line. -/
theorem readsAnswer : Obligations.ReadsAnswer := by
  refine ⟨fun s on listen => ⟨?_, ?_, fun n chosen unread reads => ?_, lockoutRecord_bytes, ?_, ?_⟩, fun s on => ?_⟩
  · obtain ⟨ocu, rest, groups⟩ := s.statusPayload_groups
    refine ⟨ocu, rest, (exec_request on listen (.readStatus .items)).trans (congrArg Host.Outcome.next ?_)⟩
    refine (s.answered_eq 0x01#8 .done (s.statusPayload .items)).trans ?_
    rw [groups, statusGroup_mfp, statusGroup_sqc, statusGroup_rcs, statusGroup_svp]
    simp only [List.append_assoc]
    rfl
  · exact (exec_request on listen (.readStatus .settings)).trans (congrArg _ (s.answered_eq 0x01#8 .done _))
  · have chosen_ : chosen = s.rcs.readFrom n ∧ unread = s.rcs.unreadAfter n := by
      rcases reads with ⟨i, x, at_, named, first, rfl, rfl⟩ | ⟨unheld, next, rfl, rfl⟩ | ⟨unheld, next, rfl, rfl⟩
      · rw [Rcs.readFrom, Rcs.unreadAfter, Rcs.readStart_held at_ named first]
        exact ⟨rfl, rfl⟩
      · rw [Rcs.readFrom, Rcs.unreadAfter, Rcs.readStart_unheld unheld, if_pos next]
        simp
      · rw [Rcs.readFrom, Rcs.unreadAfter, Rcs.readStart_unheld unheld, if_neg next]
        simp
    obtain ⟨rfl, rfl⟩ := chosen_
    rw [← List.flatMap_def]
    refine (exec_request on listen (.readRecordsFrom n)).trans (congrArg Host.Outcome.next ?_)
    exact (State.respond_eq _ _ _ _).trans rfl
  · have entries : s.peerPayload = _ := congrArg (beBytes 1 _ ++ ·) (List.flatMap_congr fun e _ => PeerEntry.bytes_eq e)
    rw [← List.flatMap_def]
    refine (exec_request on listen .readPeerTable).trans (congrArg Host.Outcome.next ?_)
    exact (s.answered_eq 0x03#8 .done s.peerPayload).trans
      (congrArg (fun payload => { s with svp := s.svp.answered 0x03#8 0 payload }) entries)
  · have entries : s.tagPayload = beBytes 1 s.tgu.tags.length ++ (s.tgu.tags.flatMap _) ++ _ ++ flagByte s.tgu.storeFault ++
        beBytes 1 s.tgu.writeCode :=
      congrArg₂ (fun entries overflow => beBytes 1 s.tgu.tags.length ++ entries ++ overflow ++ flagByte s.tgu.storeFault ++
        beBytes 1 s.tgu.writeCode) (List.flatMap_congr fun e _ => TagEntry.bytes_eq e) (overflowBytes_eq s.tgu.overflow)
    rw [← List.flatMap_def, ← flagByte_eq, ← Tgu.writeCode_byte]
    refine (exec_request on listen .readTagTable).trans (congrArg Host.Outcome.next ?_)
    exact (s.answered_eq 0x04#8 .done s.tagPayload).trans
      (congrArg (fun payload => { s with svp := s.svp.answered 0x04#8 0 payload }) entries)
  · refine ⟨?_, rfl, ?_, ?_, ?_, ?_, rfl, rfl, ?_, fun released => ?_, fun attached => ⟨?_, ?_, ?_, ?_⟩, ?_, ?_, ?_, ?_, ?_, ?_⟩
    · simp [State.pins, State.tagInForce, Option.isSome_iff_ne_none]
    · simp [State.pins, on]
    · simp [State.pins, State.attention]
    · simp [State.pins]
    · simp [State.pins]
    · simp [State.pins]
    · simp [State.pins, released]
    · cases mode : s.btu.charger <;> simp [State.pins, mode, attached]
    · simp [State.pins, attached]
    · simp [State.pins, attached]
    · simp [State.pins, attached]
    · exact s.chc.tx.keyed_iff
    · simp [State.pins, State.ftxd]
    · simp [State.pins]
    · simp [State.pins]
    · rintro (link | link) <;> simp [State.pins, State.nvdo, link]
    · intro link
      simp only [State.pins, State.nvdo, link, ← s.svp.lastByteGone_iff]

end

section
/-! SUPPORT. A change of the reserve state as a whole: the record, the sequence, the enables, the beacon timer and the queue (R70, R73,
R74, R119, R120). -/

namespace Sys2Proof.Machine

/-! ### The beacon timer (R119, R120) -/

/-- NORMAL and RESERVE, the states in which beacons go out. -/
def Reserve.beacons (r : Reserve) : Prop := r = .normal ∨ r = .reserve

theorem State.beaconIntervalInForce_eq {s : State} (holds : s.btu.reserve.beacons) :
    s.beaconIntervalInForce = some (intervalIn s.cfg s.btu.reserve) := by
  unfold State.beaconIntervalInForce intervalIn
  rcases holds with reserve | reserve <;> rw [reserve] <;> rfl

/-- The PRU after a change between NORMAL and RESERVE: an interval is respanned, and one that has passed expires with its BEACON
(R119, R120). -/
def Pru.respanned (p : Pru) (interval : Nat) (now : Word32) : Pru :=
  match p.beacon with
  | none => p
  | some b =>
    if b.drawn = true then p
    else if interval ≤ elapsed now b.reference then
      { p with nextSeq := p.nextSeq + 1, beacon := some { reference := now, span := interval, drawn := false } }
    else { p with beacon := some { b with span := interval } }

theorem State.buildBeacon_pru (s : State) : s.buildBeacon.pru = { s.pru with nextSeq := s.pru.nextSeq + 1 } := by
  simp [State.buildBeacon, State.buildReport, ReportKind.cls]

theorem State.expireBeacon_pru (s : State) :
    s.expireBeacon.pru =
      { s.pru with
        nextSeq := s.pru.nextSeq + 1
        beacon := s.beaconIntervalInForce.map fun i => { reference := s.now, span := i, drawn := false } } := by
  have interval : s.buildBeacon.beaconIntervalInForce = s.beaconIntervalInForce := by
    simp [State.beaconIntervalInForce, State.cfg]
  rw [State.expireBeacon, State.reloadBeacon, State.withPru_pru, State.buildBeacon_pru, interval]
  simp

theorem State.respanBeacon_pru {s : State} (holds : s.btu.reserve.beacons) :
    s.respanBeacon.pru = s.pru.respanned (intervalIn s.cfg s.btu.reserve) s.now := by
  have interval := State.beaconIntervalInForce_eq holds
  unfold State.respanBeacon Pru.respanned
  rw [interval]
  cases timer : s.pru.beacon with
  | none => rfl
  | some b =>
    cases drawn : b.drawn with
    | true => simp [drawn]
    | false =>
      simp only [drawn, Bool.false_eq_true, if_false]
      rw [State.onlyIf_pru]
      refine if_congr decide_eq_true_iff ?_ rfl
      rw [State.expireBeacon_pru]
      exact (congrArg (fun t : Option Nat => ({ s.pru with
        nextSeq := s.pru.nextSeq + 1
        beacon := t.map fun i => { reference := s.now, span := i, drawn := false } } : Pru)) interval)

/-- The PRU after a change of the reserve state (R119, R120). -/
def Pru.following (p : Pru) (st : Settings) (old new : Reserve) (pending : Bool) (now : Word32) (drawn : Word16) : Pru :=
  { p with
    nextSeq := if beaconPasses st old new pending now p.beacon = true then p.nextSeq + 1 else p.nextSeq
    beacon := beaconFollowed st old new pending now drawn p.beacon }

theorem Pru.respanned_eq (p : Pru) (st : Settings) {old new : Reserve} (from_ : old.beacons) (to_ : new.beacons) (now : Word32)
    (drawn : Word16) : p.respanned (intervalIn st new) now = p.following st old new false now drawn := by
  have critical : new ≠ .critical := by rcases to_ with rfl | rfl <;> decide
  have critical' : old ≠ .critical := by rcases from_ with rfl | rfl <;> decide
  have passes : beaconPasses st old new false now p.beacon =
      p.beacon.any fun b => !b.drawn && decide (intervalIn st new ≤ elapsed now b.reference) := by
    rcases from_ with rfl | rfl <;> rcases to_ with rfl | rfl <;> simp [beaconPasses]
  unfold Pru.respanned Pru.following
  rw [beaconFollowed, if_neg (c := _ ∨ _) (by simp [critical]), if_neg critical', passes]
  obtain ⟨nextSeq, lastEvent, beacon, pace, peers, refused, duplicates, unentered⟩ := p
  cases beacon with
  | none => rfl
  | some b =>
    obtain ⟨reference, span, drawn⟩ := b
    by_cases passed : intervalIn st new ≤ elapsed now reference <;> cases drawn <;> simp [passed]

theorem State.drawBeaconDelay_pru (s : State) :
    s.drawBeaconDelay.pru =
      { s.pru with beacon := delayDrawn s.cfg s.btu.reserve s.btu.shutdownPending s.now (nextLfsr s.chc.lfsr) } := by
  rw [← s.delayDrawn_eq]
  rfl

/-- Out of CRITICAL a new delay is drawn. -/
theorem Pru.following_drawn (p : Pru) (st : Settings) {new : Reserve} (attached : new ≠ .critical) (now : Word32) (drawn : Word16) :
    p.following st .critical new false now drawn = { p with beacon := delayDrawn st new false now drawn } := by
  simp [Pru.following, beaconFollowed, beaconPasses, attached]

/-- The beacon timer follows a change between reserve states that hold the contactor. -/
theorem State.followReserve_pru {s : State} {old : Reserve} (attached : old ≠ .disconnect) (attached' : s.btu.reserve ≠ .disconnect) :
    (s.followReserve old).pru =
      s.pru.following s.cfg old s.btu.reserve s.btu.shutdownPending s.now (nextLfsr s.chc.lfsr) := by
  unfold State.followReserve
  cases pending : s.btu.shutdownPending with
  | true =>
    rw [if_pos rfl]
    simp [State.stopBeacon, Pru.following, beaconFollowed, beaconPasses]
  | false =>
    rw [if_neg (by decide)]
    have holds (r : Reserve) (hold : r ≠ .disconnect) (uncritical : r ≠ .critical) : r.beacons := by
      cases r <;> simp_all [Reserve.beacons]
    by_cases critical : s.btu.reserve = .critical
    · rw [critical]
      simp [State.stopBeacon, Pru.following, beaconFollowed, beaconPasses]
    · have to_ := holds _ attached' critical
      have either : (if old == .critical then s.drawBeaconDelay else s.respanBeacon).pru =
          s.pru.following s.cfg old s.btu.reserve false s.now (nextLfsr s.chc.lfsr) := by
        by_cases drawn : old = .critical
        · rw [if_pos (by simp [drawn]), State.drawBeaconDelay_pru, drawn, Pru.following_drawn _ _ critical, pending]
        · rw [if_neg (by simpa using drawn), State.respanBeacon_pru to_, Pru.respanned_eq _ _ (holds _ attached drawn) to_]
      rcases to_ with reserve | reserve
      · rw [reserve] at either ⊢
        exact either
      · rw [reserve] at either ⊢
        exact either

/-! ### The change (R70, R73, R74) -/

/-- The SQC after a change of the reserve state (R34, R41). -/
def Sqc.reserved (q : Sqc) (reason : Option LockReason) : Sqc :=
  match reason with
  | some r => { q.moved .lockout (some r) with manualWindow := none, stepped := false }
  | none => q

/-- A reserve state that becomes CRITICAL locks out what waits for energy. -/
theorem State.sqcCritical_reserved (s : State) :
    s.sqcCritical =
      match reserveLocks s.sqc .critical with
      | some r => s.enterLockout r
      | none => s := by
  unfold State.sqcCritical reserveLocks
  cases seq : s.sqc.seq
  case closing => cases begun : s.sqc.closeBegun <;> simp
  all_goals simp

/-- No other reserve state does. -/
theorem reserveLocks_of_holds (q : Sqc) {new : Reserve} (uncritical : new ≠ .critical) : reserveLocks q new = none := by
  simp [reserveLocks, uncritical]

/-- What waits for energy has left READY. -/
theorem reserveLocks_left {q : Sqc} {new : Reserve} {r : LockReason} (locks : reserveLocks q new = some r) : q.seq ≠ .ready := by
  intro ready
  simp [reserveLocks, ready] at locks

/-- The station with its record made and the SQC after the change, before the charge enables follow (R34, R41, R73). -/
def State.reserveMoved (s : State) (new : Reserve) : State :=
  State.onlyIf ((s.withReserve new).record { kind := .reserveChange, reserve := some new, battV := some s.btu.battV })
    (new == .critical) State.sqcCritical

theorem State.changeReserve_eq (s : State) (new : Reserve) :
    s.changeReserve new = ((s.reserveMoved new).refreshCharge.followReserve s.btu.reserve).settleTransmitter := rfl

/-- The RESERVE_CHANGE record of a change (R73). -/
def State.reserveRecord (s : State) (new : Reserve) : RecordBody :=
  { kind := .reserveChange, reserve := some new, battV := some s.btu.battV }

/-- Where nothing waits for energy the record is all that the SQC's part brings. -/
theorem State.reserveMoved_stays {s : State} {new : Reserve} (stays : reserveLocks s.sqc new = none) :
    s.reserveMoved new = { s.withReserve new with rcs := s.withRecords [s.reserveRecord new] } := by
  unfold State.reserveMoved
  by_cases critical : new = .critical
  · subst critical
    rw [show (Reserve.critical == Reserve.critical) = true from rfl, State.onlyIf_true, State.sqcCritical_reserved]
    have none : reserveLocks
        ((s.withReserve .critical).record { kind := .reserveChange, reserve := some .critical, battV := some s.btu.battV }).sqc
          .critical = none := stays
    rw [none]
    rfl
  · rw [show (new == .critical) = false by simpa using critical, State.onlyIf_false]
    rfl

/-- Where something does, it locks out, with its record after the change's. -/
theorem State.reserveMoved_locks {s : State} {new : Reserve} {r : LockReason} (locks : reserveLocks s.sqc new = some r) :
    LocksOut (s.withReserve new) (s.reserveMoved new) r [s.reserveRecord new] := by
  have critical : new = .critical := by
    by_contra uncritical
    rw [reserveLocks_of_holds _ uncritical] at locks
    cases locks
  subst critical
  unfold State.reserveMoved
  rw [show (Reserve.critical == Reserve.critical) = true from rfl, State.onlyIf_true, State.sqcCritical_reserved]
  have some_ : reserveLocks
      ((s.withReserve .critical).record { kind := .reserveChange, reserve := some .critical, battV := some s.btu.battV }).sqc
        .critical = some r := locks
  rw [some_]
  exact (State.enterLockout_locksOut (.inl (by exact reserveLocks_left locks)) r).after rfl

/-- The state of a change before the enables follow, whatever the SQC does. -/
theorem State.reserveMoved_state (s : State) (new : Reserve) :
    s.reserveMoved new =
      { s.withReserve new with
        sqc := s.sqc.reserved (reserveLocks s.sqc new)
        rcs := s.withRecords (s.reserveRecord new :: (reserveLocks s.sqc new).toList.map fun r => lockoutRecord r s.sqc.shots)
        pru :=
          { s.pru with
            nextSeq := if reserveLocks s.sqc new ≠ none then s.pru.nextSeq + 1 else s.pru.nextSeq
            lastEvent := if reserveLocks s.sqc new ≠ none then s.pru.nextSeq else s.pru.lastEvent }
        chc := (s.reserveMoved new).chc } := by
  cases locks : reserveLocks s.sqc new with
  | none =>
    rw [State.reserveMoved_stays locks]
    rfl
  | some r =>
    obtain ⟨state, pru, -⟩ := State.reserveMoved_locks locks
    rw [pru] at state
    refine state.trans (State.ext_parts rfl rfl rfl rfl rfl rfl rfl ?_ rfl rfl rfl rfl rfl rfl)
    simp [State.withReserve]

/-- In CRITICAL no draw is looked at, and no interval passes. -/
theorem Pru.following_critical (p : Pru) (st : Settings) (old : Reserve) (pending : Bool) (now : Word32) (drawn : Word16) :
    p.following st old .critical pending now drawn = { p with beacon := none } := by
  simp [Pru.following, beaconFollowed, beaconPasses]

/-- What a change makes of the PRU: the LOCKOUT report's sequence or the BEACON's, and the beacon timer (R112, R119, R120). -/
def State.pruReserved (s : State) (new : Reserve) : Pru :=
  { s.pru with
    nextSeq :=
      if reserveLocks s.sqc new ≠ none ∨
          beaconPasses s.cfg s.btu.reserve new s.btu.shutdownPending s.now s.pru.beacon = true
        then s.pru.nextSeq + 1 else s.pru.nextSeq
    lastEvent := if reserveLocks s.sqc new ≠ none then s.pru.nextSeq else s.pru.lastEvent
    beacon := beaconFollowed s.cfg s.btu.reserve new s.btu.shutdownPending s.now (nextLfsr s.chc.lfsr) s.pru.beacon }

theorem reserveLocks_critical {q : Sqc} {new : Reserve} {r : LockReason} (locks : reserveLocks q new = some r) : new = .critical := by
  by_contra uncritical
  rw [reserveLocks_of_holds _ uncritical] at locks
  cases locks

/-- The PRU follows the state that the SQC's part leaves. -/
theorem State.reserveMoved_following (s : State) (new : Reserve) :
    (s.reserveMoved new).pru.following s.cfg s.btu.reserve new s.btu.shutdownPending s.now
        (nextLfsr (s.reserveMoved new).chc.lfsr) = s.pruReserved new := by
  have pru : (s.reserveMoved new).pru = _ := congrArg State.pru (s.reserveMoved_state new)
  cases locks : reserveLocks s.sqc new with
  | none =>
    have stays := State.reserveMoved_stays locks
    have chc : (s.reserveMoved new).chc = s.chc := by rw [stays]; rfl
    have same : (s.reserveMoved new).pru = s.pru := by rw [stays]; rfl
    rw [same, chc, State.pruReserved, locks]
    simp [Pru.following]
  | some r =>
    obtain rfl := reserveLocks_critical locks
    rw [pru, Pru.following_critical, State.pruReserved, locks]
    simp [beaconFollowed]

/-- What follows the SQC's part of a change: the charge enables, the beacon timer and the queue. -/
theorem State.followed_state {m : State} {old : Reserve} (attached : old ≠ .disconnect) (attached' : m.btu.reserve ≠ .disconnect) :
    (m.refreshCharge.followReserve old).settleTransmitter =
      { m with
        cdu := m.cdu.charged m.tripChargePermitted m.closeChargePermitted
        pru := m.pru.following m.cfg old m.btu.reserve m.btu.shutdownPending m.now (nextLfsr m.chc.lfsr)
        chc := (m.refreshCharge.followReserve old).settleTransmitter.chc } := by
  ext1
  case pru =>
    have pru := State.followReserve_pru (s := m.refreshCharge) attached attached'
    rw [← (State.settleTransmitter_frame (m.refreshCharge.followReserve old)).2.2.2.2.2.2.1] at pru
    exact pru
  all_goals simp [State.refreshCharge_eq]

theorem Reserve.attached_eq {r : Reserve} (attached : r ≠ .disconnect) : (r != .disconnect) = true := by simpa using attached

/-- The reserve states that hold, among those with the contactor closed. -/
theorem Reserve.holds_eq {r : Reserve} (attached : r ≠ .disconnect) : (r == .normal || r == .reserve) = (r != .critical) := by
  cases r with
  | disconnect => exact absurd rfl attached
  | _ => rfl

/-- A change of the reserve state between states that hold the contactor: the whole state. -/
theorem State.changeReserve_state (s : State) {new : Reserve} (attached : s.btu.reserve ≠ .disconnect)
    (attached' : new ≠ .disconnect) :
    s.changeReserve new =
      { s.withReserve new with
        sqc := s.sqc.reserved (reserveLocks s.sqc new)
        cdu :=
          s.cdu.charged (s.tripSupply && s.cdu.pulse != Pulse.trip)
            (new != .critical && !s.mfp.stalled && !s.cdu.closeBarred && s.cdu.pulse != Pulse.close)
        rcs := s.withRecords (s.reserveRecord new :: (reserveLocks s.sqc new).toList.map fun r => lockoutRecord r s.sqc.shots)
        pru := s.pruReserved new
        chc := (s.changeReserve new).chc } := by
  have moved := s.reserveMoved_state new
  have parts : (s.reserveMoved new).btu = (s.withReserve new).btu ∧ (s.reserveMoved new).mfp = s.mfp ∧
      (s.reserveMoved new).cdu = s.cdu ∧ (s.reserveMoved new).cfg = s.cfg ∧ (s.reserveMoved new).now = s.now := by
    rw [moved]
    exact ⟨rfl, rfl, rfl, rfl, rfl⟩
  obtain ⟨btu, mfp, cdu, cfg, now⟩ := parts
  have reserve : (s.reserveMoved new).btu.reserve = new := by rw [btu]; rfl
  have pending : (s.reserveMoved new).btu.shutdownPending = s.btu.shutdownPending := by rw [btu]; rfl
  have trips : (s.reserveMoved new).tripChargePermitted = (s.tripSupply && s.cdu.pulse != Pulse.trip) := by
    rw [State.tripChargePermitted_eq, State.tripSupply, State.tripSupply, reserve, mfp, cdu]
    rw [Reserve.attached_eq attached, Reserve.attached_eq attached']
  have closes : (s.reserveMoved new).closeChargePermitted =
      (new != .critical && !s.mfp.stalled && !s.cdu.closeBarred && s.cdu.pulse != Pulse.close) := by
    rw [State.closeChargePermitted_barred, State.closeSupply, reserve, mfp, cdu, Reserve.holds_eq attached']
  have followed := State.followed_state (m := s.reserveMoved new) attached (by rw [reserve]; exact attached')
  rw [trips, closes, cdu, reserve, pending, cfg, now, s.reserveMoved_following, ← s.changeReserve_eq] at followed
  refine followed.trans ?_
  ext1
  case mfp => exact mfp
  case ocu => exact (congrArg State.ocu moved :)
  case sqc => exact (congrArg State.sqc moved :)
  case btu => exact btu
  case tgu => exact (congrArg State.tgu moved :)
  case rcs => exact (congrArg State.rcs moved :)
  case svp => exact (congrArg State.svp moved :)
  case inputs => exact (congrArg State.inputs moved :)
  case free => exact (congrArg State.free moved :)
  case pending => exact (congrArg State.pending moved :)
  all_goals rfl

/-- The LOCKOUT report of a change stands in the queue as it was built, with room for it. -/
theorem State.changeReserve_front {s : State} {new : Reserve} {r : LockReason} (locks : reserveLocks s.sqc new = some r)
    (set : s.cfg.stationId ≠ 0) (room : s.chc.queued < 8) :
    (s.changeReserve new).chc.front =
      s.chc.front ++ reportEntries s.pru.nextSeq [(.lockout, beBytes 1 r.code ++ beBytes 1 s.sqc.shots)] := by
  obtain ⟨-, reports⟩ := State.reserveMoved_locks locks
  obtain ⟨-, -, queue, -⟩ := reports
  have moved := congrArg Chc.front (queue set (by simp only [List.length_singleton]; exact room))
  obtain rfl := reserveLocks_critical locks
  rw [State.changeReserve_eq, State.settleTransmitter_chc]
  have reserve : (s.reserveMoved .critical).refreshCharge.btu.reserve = .critical := by
    rw [State.refreshCharge_eq, s.reserveMoved_state]
    rfl
  have stops : (s.reserveMoved .critical).refreshCharge.followReserve s.btu.reserve =
      (s.reserveMoved .critical).refreshCharge.stopBeacon := by
    rw [State.followReserve, reserve, ite_self]
  rw [stops]
  exact moved

/-! ### The judgement (R72) -/

theorem State.judgeBattery_stays {s : State}
    (stays : s.btu.measured = false ∨ judgeReserve s.btu.acPresent s.btu.reserve s.btu.battV = s.btu.reserve) :
    s.judgeBattery = s := by
  have none : (s.btu.measured && judgeReserve s.btu.acPresent s.btu.reserve s.btu.battV != s.btu.reserve) = false := by
    rcases stays with unmeasured | same
    · rw [unmeasured, Bool.false_and]
    · simp [same]
  rw [State.judgeBattery, none, State.onlyIf_false]

theorem State.judgeBattery_changes {s : State} {new : Reserve} (measured : s.btu.measured = true)
    (judged : judgeReserve s.btu.acPresent s.btu.reserve s.btu.battV = new) (changes : new ≠ s.btu.reserve) :
    s.judgeBattery = s.changeReserve new := by
  rw [State.judgeBattery, judged, measured, show (true && new != s.btu.reserve) = true by simpa using changes, State.onlyIf_true]

/-! ### The charger (R69) -/

theorem Btu.target_eq (b : Btu) : b.target = if b.charger = .boost then b.vf + 120 else b.vf := by simp [Btu.target]

theorem State.sendSetpoint_eq (s : State) : s.sendSetpoint = { s with btu := s.btu.sends } := by
  unfold State.sendSetpoint Btu.sends
  dsimp only
  rw [← Btu.target_eq]
  by_cases sends : s.btu.sending = none ∧ s.btu.target ≠ s.btu.setpointSent
  · rw [show (s.btu.sending.isNone && s.btu.target != s.btu.setpointSent) = true by simpa using sends, State.onlyIf_true,
      if_pos sends]
    rfl
  · rw [show (s.btu.sending.isNone && s.btu.target != s.btu.setpointSent) = false by
      rw [← Bool.not_eq_true]; simpa using sends, State.onlyIf_false, if_neg sends]

theorem State.setCharger_eq (s : State) (mode : Charger) :
    s.setCharger mode = { s with btu := { s.btu with charger := mode }.sends } := by
  rw [State.setCharger, State.sendSetpoint_eq]
  rfl

end Sys2Proof.Machine
end

section
/-! SUPPORT. AC returning and going, and the charger's own timers (R67, R69 to R73). -/

namespace Sys2Proof.Machine

/-! ### The events -/

/-- ACP has held its level: its count is over (R67). -/
def State.acSettled (s : State) : State := { s with inputs := s.inputs.still .acp }

section

variable {s : State} (on : s.started = true)

include on

theorem exec_acReturns (was : s.btu.acPresent = false) (held : s.Held .acp true) :
    exec (.acPresentChange true) s = .next s.acSettled.acReturns :=
  congrArg Host.Outcome.next (State.whenStarted_debounce on held (by simp [State.debounced, was]) _)

theorem exec_acGoes (was : s.btu.acPresent = true) (held : s.Held .acp false) :
    exec (.acPresentChange false) s = .next s.acSettled.acGoes :=
  congrArg Host.Outcome.next (State.whenStarted_debounce on held (by simp [State.debounced, was]) _)

theorem exec_setpointWordSent {word : Nat} (sending : s.btu.sending = some word) :
    exec .setpointWordSent s = .next { s with btu := { s.btu with setpointSent := word, sending := none }.sends } := by
  have sent : exec .setpointWordSent s = .next s.endSetpointWord :=
    congrArg Host.Outcome.next (State.whenStarted_onlyIf (c := fun u => u.btu.sending.isSome) on (by simp [sending]))
  rw [sent, State.endSetpointWord, State.sendSetpoint_eq, State.withBtu_btu, sending]
  rfl

theorem exec_taperTimerExpiry (due : s.btu.taper = some 0) : exec .taperTimerExpiry s = .next s.endBoost :=
  congrArg Host.Outcome.next (State.whenStarted_onlyIf (c := fun u => Machine.due u.btu.taper) on (by simp [due]))

theorem exec_boostLimitExpiry (due : s.btu.boostLimit = some 0) : exec .boostLimitExpiry s = .next s.boostLimitEnds :=
  congrArg Host.Outcome.next (State.whenStarted_onlyIf (c := fun u => Machine.due u.btu.boostLimit) on (by simp [due]))

end

theorem State.endBoost_eq (s : State) :
    s.endBoost = { s with btu := { s.btu with taper := none, boostLimit := none, charger := .float }.sends } := by
  rw [State.endBoost, State.setCharger_eq]
  rfl

theorem State.boostLimitEnds_quiet {s : State} (quiet : s.quietTest) : s.boostLimitEnds = s.endBoost := by
  rw [State.boostLimitEnds, if_neg]
  rcases quiet with test | test <;> simp [test]

theorem State.boostLimitEnds_running {s : State} (runs : ¬s.quietTest) :
    s.boostLimitEnds = { s with btu := { s.btu with boostLimit := none, resumeBoost := false } } := by
  rcases s.quietTest_or_running with quiet | running
  · exact absurd quiet runs
  · rw [State.boostLimitEnds, if_pos (by simpa using running)]
    rfl

/-! ### AC returns (R69, R70) -/

/-- The station with AC back and the charger in its mode, the reserve state still to be judged. -/
def State.acBack (s : State) : State :=
  { s with
    btu :=
      if s.btu.discharged = true then
        { s.btu with
          acPresent := true, charger := .boost, boostLimit := some 28800000, taper := none, discharged := false }.sends
      else { s.btu with acPresent := true, charger := .float }.sends }

theorem State.acReturns_eq (s : State) : s.acReturns = s.acBack.judgeBattery := by
  unfold State.acReturns State.acBack
  cases s.btu.discharged
  · exact congrArg State.judgeBattery (State.setCharger_eq _ _)
  · exact congrArg State.judgeBattery (State.setCharger_eq _ _)

/-- What AC's return leaves of the BTU, and what it makes of it (R70). -/
theorem State.acBack_btu (s : State) :
    s.acBack.btu.reserve = s.btu.reserve ∧ s.acBack.btu.acPresent = true ∧ s.acBack.btu.battV = s.btu.battV ∧
      s.acBack.btu.measured = s.btu.measured ∧ s.acBack.btu.lowVoltage = s.btu.lowVoltage ∧
      s.acBack.btu.shutdownPending = s.btu.shutdownPending ∧ s.acBack.btu.discharged = false ∧
      s.acBack.btu.charger = if s.btu.discharged = true then .boost else .float := by
  unfold State.acBack
  cases discharged : s.btu.discharged
  · exact ⟨rfl, rfl, rfl, rfl, rfl, rfl, discharged, rfl⟩
  · exact ⟨rfl, rfl, rfl, rfl, rfl, rfl, rfl, rfl⟩

/-- With AC present every reserve state but DISCONNECT is judged NORMAL (R72). -/
theorem judgeReserve_present {before : Reserve} (attached : before ≠ .disconnect) (v : Nat) : judgeReserve true before v = .normal := by
  cases before with
  | disconnect => exact absurd rfl attached
  | _ => rfl

theorem State.acBack_stays {s : State} (normal : s.btu.reserve = .normal) : s.acBack.judgeBattery = s.acBack := by
  obtain ⟨reserve, present, -⟩ := s.acBack_btu
  refine State.judgeBattery_stays (.inr ?_)
  rw [reserve, present, normal]
  rfl

/-! ### AC goes (R69, R72) -/

/-- The station with AC gone and the charger off, the reserve state still to be judged. -/
def State.acOff (s : State) : State :=
  { s with btu := { s.btu with acPresent := false, charger := .off, taper := none, boostLimit := none }.sends }

theorem State.acGoes_eq {s : State} (quiet : s.quietTest) : s.acGoes = s.acOff.judgeBattery := by
  have off : State.setCharger
      (s.withBtu fun b => { b with acPresent := false, taper := none, boostLimit := none }) .off = s.acOff :=
    State.setCharger_eq _ _
  rw [State.acGoes, off, State.abandonTest_of_quiet (by exact quiet)]

/-- Below 2440 without AC NORMAL ends (R72). -/
theorem judgeReserve_low {v : Nat} (low : v < 2440) :
    judgeReserve false .normal v = if v < 2300 then .critical else .reserve := by
  have high : ¬2440 ≤ v := low.not_ge
  by_cases critical : v < 2300
  · simp [judgeReserve, high, critical, critical.not_ge]
  · simp [judgeReserve, high, critical, not_lt.mp critical]

end Sys2Proof.Machine

/-! ### The statement -/

open Sys2Proof.Machine in
/-- Settles O38: AC's changes with the reserve change that each brings, and the charger's timers. -/
theorem chargerFollowsAcAndTimers : Obligations.ChargerFollowsAcAndTimers := by
  refine ⟨fun s on quiet => ⟨fun was held => ⟨fun normal marked => ?_, fun normal unmarked => ?_, fun measured low => ?_⟩,
    fun was held measured normal low new reason passes isNew isReason isPasses => ?_, fun was held stays => ?_, ?_⟩,
    fun s on => ⟨fun word => exec_setpointWordSent on, fun due => ?_, fun due => ⟨fun quiet => ?_, fun runs => ?_⟩⟩⟩
  · rw [exec_acReturns on was held, State.acReturns_eq, State.acBack_stays (by exact normal), State.acBack,
      if_pos (by exact marked)]
    rfl
  · rw [exec_acReturns on was held, State.acReturns_eq, State.acBack_stays (by exact normal), State.acBack,
      if_neg (by simpa [State.acSettled] using unmarked)]
    rfl
  · obtain ⟨reserve, present, battV, measured', lowVoltage, pending, discharged, charger⟩ := s.acSettled.acBack_btu
    have attached : s.btu.reserve ≠ .disconnect := by rcases low with low | low <;> simp [low]
    have changes : Reserve.normal ≠ s.btu.reserve := by rcases low with low | low <;> simp [low]
    rw [exec_acReturns on was held, State.acReturns_eq,
      State.judgeBattery_changes (new := .normal) (by rw [measured']; exact measured)
        (by rw [present, reserve]; exact judgeReserve_present attached _) (by rw [reserve]; exact changes),
      State.changeReserve_state _ (by rw [reserve]; exact attached) (by decide)]
    have free : reserveLocks s.sqc .normal = none := reserveLocks_of_holds _ (by decide)
    have same : s.acSettled.acBack.sqc = s.sqc := rfl
    refine ⟨_, rfl, rfl, present, charger, ?_, ?_, ?_, rfl, ?_, rfl, rfl, rfl, ?_⟩
    · show (s.acSettled.acBack.btu.discharged || s.acSettled.acBack.btu.reserve == .normal) = false
      rw [discharged, reserve]
      exact (beq_eq_false_iff_ne).mpr changes.symm
    · show (if s.acSettled.acBack.btu.reserve == .critical then none else s.acSettled.acBack.btu.lowVoltage) = _
      rw [reserve, lowVoltage]
      simp only [beq_iff_eq]
      rfl
    · show s.withRecords _ = _
      rw [same, free, State.reserveRecord, battV]
      rfl
    · have kept : s.acSettled.acBack.sqc.reserved (reserveLocks s.acSettled.acBack.sqc .normal) = s.sqc := by
        rw [same, free]
        rfl
      exact kept
    · rw [State.pruReserved, same, free, reserve, pending]
      simp only [ne_eq, not_true_eq_false, false_or, if_false]
      rfl
  · have judged : judgeReserve false .normal s.btu.battV = new := (judgeReserve_low low).trans isNew.symm
    have attached : new ≠ .disconnect := by
      rw [isNew]
      split <;> decide
    have changes : new ≠ .normal := by
      rw [isNew]
      split <;> decide
    rw [exec_acGoes on was held, State.acGoes_eq (by exact quiet),
      State.judgeBattery_changes (s := s.acSettled.acOff) (new := new) measured
        ((congrArg (judgeReserve false · s.btu.battV) normal).trans judged) (fun same => changes (same.trans normal))]
    have state := State.changeReserve_state s.acSettled.acOff (new := new) (by
      rw [show s.acSettled.acOff.btu.reserve = .normal from normal]; decide) attached
    refine ⟨_, rfl, state.trans ?_, fun r locks => ?_⟩
    · have reserve : s.acSettled.acOff.btu.reserve = .normal := normal
      have locks : reserveLocks s.acSettled.acOff.sqc new = reason := isReason.symm
      have supply : s.closeSupply = !s.mfp.stalled := by rw [State.closeSupply, normal]; rfl
      have btu : (s.acSettled.acOff.withReserve new).btu =
          { s.acSettled.acOff.btu with reserve := new, discharged := true } := by
        simp [State.withReserve, reserve]
      rw [State.pruReserved, locks, reserve, supply, isPasses]
      ext1
      case btu => exact btu
      case sqc => cases reason <;> rfl
      all_goals rfl
    · exact State.changeReserve_front (s := s.acSettled.acOff) (isReason.symm.trans locks)
  · rw [exec_acGoes on was held, State.acGoes_eq (by exact quiet), State.judgeBattery_stays (s := s.acSettled.acOff)]
    · rfl
    · refine stays.imp id fun ⟨normal, high⟩ => ?_
      rw [show s.acSettled.acOff.btu.reserve = .normal from normal]
      exact if_pos high
  · have stands := exec_unheld on .acp s.btu.acPresent false (by simp [State.debounced])
    exact stands
  · rw [exec_taperTimerExpiry on due, State.endBoost_eq]
  · rw [exec_boostLimitExpiry on due, State.boostLimitEnds_quiet quiet, State.endBoost_eq]
  · rw [exec_boostLimitExpiry on due, State.boostLimitEnds_running runs]

end

section
/-! SUPPORT. What the battery values alone move in the BTU: the reserve state with its mark and timers stands at every other delivery
of a frame (R70 to R72, R74). -/

namespace Sys2Proof.Machine

/-- AC-present, the reserve state, the discharged mark, the low-voltage timer and shutdown pending. -/
def State.supply (s : State) : Bool × Reserve × Bool × Timer × Bool :=
  (s.btu.acPresent, s.btu.reserve, s.btu.discharged, s.btu.lowVoltage, s.btu.shutdownPending)

/-- The supply with the taper timer. -/
def State.supplied (s : State) : (Bool × Reserve × Bool × Timer × Bool) × Timer := (s.supply, s.btu.taper)

theorem State.supplied_of_btu {s t : State} (btu : t.btu = s.btu) : t.supplied = s.supplied := by
  simp [State.supplied, State.supply, btu]

theorem State.onlyIf_supplied {s : State} {c : Bool} {f : State → State} (h : (f s).supplied = s.supplied) :
    (s.onlyIf c f).supplied = s.supplied := by
  cases c
  · rfl
  · exact h

/-! ### A test abandoned or begun (R78, R83) -/

theorem State.sendSetpoint_supplied (s : State) : s.sendSetpoint.supplied = s.supplied :=
  State.onlyIf_supplied rfl

theorem State.abandonTest_supplied (s : State) (cause : AbandonCause) : (s.abandonTest cause).supplied = s.supplied :=
  State.onlyIf_supplied <| Eq.trans (State.onlyIf_supplied (State.sendSetpoint_supplied _)) rfl

theorem State.testAtArrival_supply (s : State) : s.testAtArrival.supply = s.supply := by
  unfold State.testAtArrival State.onlyIf
  dsimp only
  split
  · exact congrArg Prod.fst (State.sendSetpoint_supplied _)
  · rfl

/-! ### The moves of the sequence -/

section

variable (s : State)

theorem State.enterSeq_supplied (new : SeqState) : (s.enterSeq new).supplied = s.supplied := by
  obtain ⟨-, -, btu, -⟩ := s.entering_keeps new
  rw [State.enterSeq_eq]
  exact (State.onlyIf_supplied (State.abandonTest_supplied _ _)).trans (State.supplied_of_btu btu)

theorem State.enterLockout_supplied (reason : LockReason) : (s.enterLockout reason).supplied = s.supplied :=
  (State.supplied_of_btu (by simp [State.enterLockout])).trans (s.enterSeq_supplied .lockout)

theorem State.fireClose_supplied : s.fireClose.supplied = s.supplied := by
  unfold State.fireClose
  dsimp only
  split
  · exact State.supplied_of_btu (by simp)
  · exact State.onlyIf_supplied (State.enterLockout_supplied _ _)

theorem State.closeGate_supplied (wait : Bool) : (s.closeGate wait).supplied = s.supplied := by
  unfold State.closeGate
  repeat' split
  · exact s.enterLockout_supplied _
  · exact s.enterLockout_supplied _
  · exact s.enterLockout_supplied _
  · exact s.enterLockout_supplied _
  · exact s.enterLockout_supplied _
  · exact (State.fireClose_supplied _).trans (s.enterSeq_supplied .closing)
  · exact s.enterSeq_supplied .closeCharge
  · rfl

theorem State.handReports_supplied : s.handReports.supplied = s.supplied := by
  have trip : s.tripHanded.supplied = s.supplied := by
    unfold State.tripHanded
    split
    · exact State.supplied_of_btu (by simp)
    · rfl
  rw [State.handReports_eq]
  split
  · unfold State.closeReadyReport
    split
    · exact (State.closeGate_supplied _ _).trans trip
    · exact (State.onlyIf_supplied (State.fireClose_supplied _)).trans trip
    · exact trip
  · exact trip

theorem State.beginTrip_supplied (trip : CurrentTrip) : (s.beginTrip trip).supplied = s.supplied :=
  (State.supplied_of_btu (by simp [State.beginTrip])).trans (s.enterSeq_supplied .tripping)

theorem State.raiseOrder_supplied (o : TripOrder) : (s.raiseOrder o).supplied = s.supplied := by
  by_cases takes : s.sqc.takes = true ∨ s.takesLockout = true
  · rw [State.raiseOrder_taken takes]
    exact State.beginTrip_supplied _ _
  · simp only [not_or, Bool.not_eq_true] at takes
    rw [State.raiseOrder_refused takes.1 takes.2]
    rfl

theorem State.sqcEpisodeEnd_supplied (run : Nat) (raised : Bool) : (s.sqcEpisodeEnd run raised).supplied = s.supplied := by
  have stepped (elements : ElementSet) : (s.stepSequence elements).supplied = s.supplied := by
    refine (State.supplied_of_btu (s := State.onlyIf _ _ fun m => m.enterSeq .resetTiming)
      (by simp only [State.stepSequence, State.buildClear_frame, State.record_frame, State.withSqc_btu]; rfl)).trans ?_
    exact (State.onlyIf_supplied (State.enterSeq_supplied _ _)).trans rfl
  unfold State.sqcEpisodeEnd
  cases s.sqc.memory with
  | none => rfl
  | some elements => exact State.onlyIf_supplied (stepped elements)

theorem State.frameStep_supplied (f : MeasFields) : (s.frameStep f).supplied = s.supplied := by
  have noticed : (s.noticed f).supplied = s.supplied := by
    unfold State.noticed
    split
    · exact (State.abandonTest_supplied _ _).trans (State.supplied_of_btu (by simp [State.stepped]))
    · rfl
  have ordered : (s.ordered f).supplied = s.supplied := by
    unfold State.ordered
    split
    · exact (State.raiseOrder_supplied _ _).trans noticed
    · exact noticed
  rw [State.frameStep_eq]
  split
  · exact (State.sqcEpisodeEnd_supplied _ _ _).trans ordered
  · exact ordered

/-! ### The records of the other stations (R129, R130) -/

theorem State.releaseTest_supplied (k : Kind) : (s.releaseTest k).supplied = s.supplied := by
  unfold State.releaseTest
  split
  · rfl
  · exact State.onlyIf_supplied (State.raiseOrder_supplied _ _)

theorem State.endHold_supplied (k : Kind) (cause : Reason) : (s.endHold k cause).supplied = s.supplied := by
  unfold State.endHold
  split
  · rfl
  · exact State.releaseTest_supplied _ _

theorem State.partnerEnd_supplied (k : Kind) (sender : Nat) (cause : Reason) :
    (s.partnerEnd k sender cause).supplied = s.supplied := by
  unfold State.partnerEnd
  repeat' split
  · exact s.endHold_supplied _ _
  · rfl
  · rfl

theorem State.partnerHandOff_supplied (r : RxRecord) (kind : ReportKind) : (s.partnerHandOff r kind).supplied = s.supplied := by
  refine State.onlyIf_supplied ?_
  cases kind with
  | pickup => exact State.supplied_of_btu (by simp)
  | trip => exact (State.partnerEnd_supplied _ _ _ _).trans (State.partnerEnd_supplied _ _ _ _)
  | clear => exact (State.partnerEnd_supplied _ _ _ _).trans (State.partnerEnd_supplied _ _ _ _)
  | _ => rfl

/-- What a tag event brings beside the tags: the sequence's move and the ends of the holds (R36, R140). -/
theorem State.tagEvent_supplied {event : State → State} (h : (event s).btu = s.btu) : (s.tagEvent event).supplied = s.supplied := by
  refine .trans (State.onlyIf_supplied ?_) (State.supplied_of_btu h)
  refine (State.endHold_supplied _ _ _).trans ((State.endHold_supplied _ _ _).trans ?_)
  unfold State.sqcTagOn
  repeat' split
  · exact State.enterLockout_supplied _ _
  · exact State.enterLockout_supplied _ _
  · rfl
  · exact State.enterLockout_supplied _ _
  · rfl

theorem State.handOff_supplied (r : RxRecord) (kind : ReportKind) : (s.handOff r kind).supplied = s.supplied := by
  refine State.onlyIf_supplied ?_
  cases kind with
  | pickup => exact s.partnerHandOff_supplied _ _
  | trip => exact s.partnerHandOff_supplied _ _
  | clear => exact s.partnerHandOff_supplied _ _
  | tag => exact State.onlyIf_supplied (State.tagEvent_supplied _ (by simp))
  | untag =>
    refine State.tagEvent_supplied _ ?_
    split
    · simp
    · simp
  | beacon => exact State.tagEvent_supplied _ (by simp)
  | lockout => rfl
  | shutdown => rfl

theorem State.applyRecord_supplied (r : RxRecord) : (s.applyRecord r).supplied = s.supplied := by
  unfold State.applyRecord
  repeat' split
  · rfl
  · exact State.handOff_supplied _ _ _
  · dsimp only
    split
    · rfl
    · exact State.handOff_supplied _ _ _

end

/-! ### The deliveries -/

section

variable (s : State) (f : MeasFields) (closing : Bool)

/-- A delivery beside the battery's and the test's leaves the supply and the taper timer. -/
theorem State.deliver_supplied {d : Delivery} (battery : d ≠ .btu) (test : d ≠ .test) :
    (s.deliver f closing d).supplied = s.supplied := by
  cases d with
  | ocu => exact s.frameStep_supplied f
  | cdu =>
    rw [State.deliver, State.deliverVoltages_eq]
    exact (State.handReports_supplied _).trans rfl
  | btu => exact absurd rfl battery
  | sqc => rfl
  | lfsr => exact State.supplied_of_btu (by simp [State.deliver])
  | take =>
    rw [State.deliver, State.takeHead]
    split
    · rfl
    · exact State.applyRecord_supplied _ _
  | test => exact absurd rfl test

/-- A delivery beside the battery's leaves the supply. -/
theorem State.deliver_supply {d : Delivery} (battery : d ≠ .btu) : (s.deliver f closing d).supply = s.supply := by
  by_cases test : d = .test
  · subst test
    exact s.testAtArrival_supply
  · exact congrArg Prod.fst (s.deliver_supplied f closing battery test)

end

/-! ### The battery values (R72, R74) -/

/-- The station with the battery values taken, the reserve state still to be judged (R67, R68). -/
def State.batteryRead (s : State) (v : Nat) (i temperature : Int) : State :=
  (s.withBtu fun b =>
    { b with battV := v, battI := i, temperature := temperature, vf := floatSetpoint temperature, measured := true }).sendSetpoint

theorem State.deliverBattery_eq (s : State) (v : Nat) (i temperature : Int) :
    s.deliverBattery v i temperature = (s.batteryRead v i temperature).judgeBattery.watchLowVoltage.watchTaper := rfl

theorem State.batteryRead_btu (s : State) (v : Nat) (i temperature : Int) :
    (s.batteryRead v i temperature).btu =
      { s.btu with battV := v, battI := i, temperature := temperature, vf := floatSetpoint temperature, measured := true }.sends := by
  rw [State.batteryRead, State.sendSetpoint_eq]
  rfl

theorem Btu.sends_eq (b : Btu) : ∃ sending, b.sends = { b with sending := sending } := by
  unfold Btu.sends
  dsimp only
  split
  · exact ⟨_, rfl⟩
  · exact ⟨_, rfl⟩

theorem State.changeReserve_btu (s : State) (new : Reserve) : (s.changeReserve new).btu = (s.withReserve new).btu := by
  rw [State.changeReserve_eq]
  simp only [State.settleTransmitter_frame, State.followReserve_frame, State.refreshCharge_frame]
  exact (congrArg State.btu (s.reserveMoved_state new) :)

/-- The BTU after a judgement: without a change it stands. -/
theorem State.judgeBattery_btu {s : State} {new : Reserve} (measured : s.btu.measured = true)
    (judged : judgeReserve s.btu.acPresent s.btu.reserve s.btu.battV = new) :
    s.judgeBattery.btu =
      { s.btu with
        reserve := new
        discharged := s.btu.discharged || (s.btu.reserve == .normal && new != .normal)
        lowVoltage := if s.btu.reserve = .critical ∧ new ≠ .critical then none else s.btu.lowVoltage } := by
  by_cases changes : new = s.btu.reserve
  · have unmoved (r : Reserve) : (r == .normal && r != .normal) = false := by cases r <;> rfl
    rw [State.judgeBattery_stays (.inr (judged.trans changes)), changes, unmoved, Bool.or_false, if_neg fun leaves => leaves.2 leaves.1]
  · rw [State.judgeBattery_changes measured judged changes, State.changeReserve_btu]
    have normal : (s.btu.reserve == .normal && new != .normal) = (s.btu.reserve == .normal) := by
      cases reserve : s.btu.reserve == .normal
      · rfl
      · rw [beq_iff_eq] at reserve
        simpa [reserve] using changes
    have critical : (s.btu.reserve = .critical ∧ new ≠ .critical) ↔ (s.btu.reserve == .critical) = true := by
      rw [beq_iff_eq]
      exact ⟨And.left, fun old => ⟨old, old ▸ changes⟩⟩
    rw [normal]
    simp only [critical]
    rfl

/-- The low-voltage timer after a good frame (R74; log 48). -/
def lowVoltageAfter (b : Btu) (new : Reserve) (v : Nat) : Timer :=
  if 2100 ≤ v ∨ (b.reserve = .critical ∧ new ≠ .critical) then none
  else if new = .critical ∧ b.lowVoltage = none ∧ b.shutdownPending = false then some 10000
  else b.lowVoltage

/-- The taper timer after a good frame (R71). -/
def taperAfter (b : Btu) (i : Int) : Timer :=
  if b.charger ≠ .boost then b.taper else if i < 50 then some (b.taper.getD 60000) else none

/-- The supply and the taper timer after the battery values, from what they were before. -/
theorem State.deliverBattery_supplied {s : State} {v : Nat} {new : Reserve}
    (judged : judgeReserve s.btu.acPresent s.btu.reserve v = new) (i temperature : Int) :
    (s.deliverBattery v i temperature).supplied =
      ((s.btu.acPresent, new, s.btu.discharged || (s.btu.reserve == .normal && new != .normal),
        lowVoltageAfter s.btu new v, s.btu.shutdownPending), taperAfter s.btu i) := by
  have btu := s.batteryRead_btu v i temperature
  obtain ⟨sending, sends⟩ := Btu.sends_eq
    { s.btu with battV := v, battI := i, temperature := temperature, vf := floatSetpoint temperature, measured := true }
  rw [sends] at btu
  have judgement := State.judgeBattery_btu (s := s.batteryRead v i temperature) (new := new) (by rw [btu])
    (by rw [btu]; exact judged)
  rw [btu] at judgement
  have low : (if v < 2100 then
        if (new == .critical && (if s.btu.reserve = .critical ∧ new ≠ .critical then none else s.btu.lowVoltage).isNone &&
          !s.btu.shutdownPending) = true then some 10000
        else if s.btu.reserve = .critical ∧ new ≠ .critical then none else s.btu.lowVoltage
      else none) = lowVoltageAfter s.btu new v := by
    unfold lowVoltageAfter
    by_cases low : v < 2100
    · by_cases leaves : s.btu.reserve = .critical ∧ new ≠ .critical
      · simp [low, leaves]
      · simp [low, low.not_ge, leaves, and_assoc]
    · simp [low, not_lt.mp low]
  have watched : (s.batteryRead v i temperature).judgeBattery.watchLowVoltage.btu =
      { (s.batteryRead v i temperature).judgeBattery.btu with lowVoltage := lowVoltageAfter s.btu new v } := by
    rw [State.watchLowVoltage, State.withBtu_btu, judgement, ← low]
  rw [judgement] at watched
  rw [State.deliverBattery_eq, State.watchTaper]
  by_cases boost : s.btu.charger = .boost
  · rw [watched, show (s.btu.charger == .boost) = true by simpa using boost, State.onlyIf_true, taperAfter, if_neg (not_not.mpr boost)]
    simp only [State.supplied, State.supply, State.withBtu_btu, watched]
  · rw [watched, show (s.btu.charger == .boost) = false by simpa using boost, State.onlyIf_false, taperAfter, if_pos boost]
    simp only [State.supplied, State.supply, watched]

/-- The judgement, its rows one after another (R72). -/
theorem judgeReserve_eq (acPresent : Bool) (before : Reserve) (v : Nat) :
    judgeReserve acPresent before v =
      if before = .disconnect then .disconnect
      else if acPresent = true then .normal
      else if v < 2300 then .critical
      else if before = .critical ∧ v < 2330 then .critical
      else if before = .normal ∧ 2440 ≤ v then .normal
      else if 2470 ≤ v then .normal
      else .reserve := by
  unfold judgeReserve
  cases before with
  | disconnect => rfl
  | _ =>
    cases acPresent
    · simp only [reduceCtorEq, if_false, true_and, false_and]
      grind
    · rfl

/-! ### A whole frame -/

/-- The supply after the deliveries of a frame: the battery's alone moves it. -/
theorem State.delivered_supply (s : State) (f : MeasFields) (closing : Bool) {order : List Delivery} (nodup : order.Nodup)
    (member : .btu ∈ order) {new : Reserve} (judged : judgeReserve s.btu.acPresent s.btu.reserve f.battV = new) :
    (s.delivered f closing order).supply =
      (s.btu.acPresent, new, s.btu.discharged || (s.btu.reserve == .normal && new != .normal),
        lowVoltageAfter s.btu new f.battV, s.btu.shutdownPending) := by
  obtain ⟨first, later, -, -, -, before, after⟩ := State.delivered_once (part := State.supply) nodup member
    (fun d other u => u.deliver_supply f closing other) s
  rw [after]
  generalize s.delivered f closing first = u at before ⊢
  simp only [State.supply, Prod.mk.injEq] at before
  obtain ⟨ac, reserve, discharged, low, pending⟩ := before
  refine (congrArg Prod.fst (State.deliverBattery_supplied (s := u) (v := f.battV) (new := new) (by rw [ac, reserve]; exact judged)
    f.battI f.temperature)).trans ?_
  simp only [ac, reserve, discharged, lowVoltageAfter, low, pending]

/-- What a test that does not run looks at, with the taper timer. -/
def State.resting (s : State) : TestPart × Timer := (s.btu.testPart, s.btu.taper)

/-- A delivery beside the battery's leaves a test that does not run, and the taper timer, where it begins no test. -/
theorem State.deliver_resting {s : State} (quiet : s.quietTest) (f : MeasFields) (closing : Bool) {d : Delivery} (battery : d ≠ .btu)
    (idle : d = .test → s.btu.test = .idle) : (s.deliver f closing d).resting = s.resting := by
  by_cases test : d = .test
  · have unstarted : (s.btu.test == .pending && s.testConditions) = false := by simp [idle test]
    rw [test, State.deliver, State.testAtArrival, unstarted]
    rfl
  · have taper := congrArg Prod.snd (s.deliver_supplied f closing battery test)
    exact Prod.ext (State.deliver_rests quiet f closing test).part taper

theorem State.delivered_resting {s : State} (quiet : s.quietTest) (f : MeasFields) (closing : Bool) {order : List Delivery}
    (battery : .btu ∉ order) (idle : .test ∈ order → s.btu.test = .idle) :
    (s.delivered f closing order).resting = s.resting := by
  refine State.delivered_invariant (p := fun u => u.resting = s.resting) (fun d member u same => ?_) rfl
  have part : u.btu.testPart = s.btu.testPart := congrArg Prod.fst same
  refine (State.deliver_resting (quiet.of_eq part) f closing (fun e => battery (e ▸ member)) fun e => ?_).trans same
  exact (congrArg TestPart.test part).trans (idle (e ▸ member))

/-- The taper timer after the deliveries of a frame, with no test running and none begun. -/
theorem State.delivered_taper {s : State} (quiet : s.quietTest) (f : MeasFields) (closing : Bool) {order : List Delivery}
    (nodup : order.Nodup) (member : .btu ∈ order) (idle : .test ∈ order → s.btu.test = .idle) :
    (s.delivered f closing order).btu.taper = taperAfter s.btu f.battI := by
  obtain ⟨first, later, rfl⟩ := List.append_of_mem member
  obtain ⟨-, ends, apart⟩ := List.nodup_append.mp nodup
  have before := State.delivered_resting quiet f closing (order := first)
    (fun h => apart _ h _ List.mem_cons_self rfl) fun h => idle (List.mem_append_left _ h)
  rw [State.delivered_append, State.delivered_cons]
  generalize s.delivered f closing first = u at before ⊢
  have part : u.btu.testPart = s.btu.testPart := congrArg Prod.fst before
  have taper : u.btu.taper = s.btu.taper := congrArg Prod.snd before
  have quiet' : u.quietTest := quiet.of_eq part
  have rests := State.deliver_rests quiet' f closing (d := .btu) (by decide)
  have after := State.delivered_resting (rests.quietTest quiet') f closing (order := later) (List.nodup_cons.mp ends).1 fun h =>
    (congrArg TestPart.test (rests.part.trans part)).trans (idle (List.mem_append_right _ (List.mem_cons_of_mem _ h)))
  rw [show ((u.deliver f closing .btu).delivered f closing later).btu.taper = (u.deliver f closing .btu).btu.taper from
    congrArg Prod.snd after]
  refine (congrArg Prod.snd (State.deliverBattery_supplied (s := u) (v := f.battV) rfl f.battI f.temperature)).trans ?_
  have charger : u.btu.charger = s.btu.charger := congrArg TestPart.charger part
  simp only [taperAfter, taper, charger]

end Sys2Proof.Machine
end

section
/-! SUPPORT. A frame step under dropout: every element drops or stays down, and no order is raised (R11, R15 to R19). -/

namespace Sys2Proof.Machine

/-! ### One element -/

/-- The current of an element lies under dropout, or under pickup where the element was not PICKED. -/
def ElemInput.under (i : ElemInput) (e : Element) : Prop :=
  multiple i.current i.pickup < 243 ∨ (multiple i.current i.pickup < 256 ∧ e.picked = false)

/-- No release test of the element's kind is put off that could find it at F, and its count cannot go from 1 to 2. -/
def ElemInput.restful (i : ElemInput) (e : Element) (released : Bool) : Prop :=
  (e.acc < 1048576 ∨ released = false) ∧ (e.count ≠ 1 ∨ ∀ q, i.inst = some q → 256 ≤ q)

section

variable {timed : Bool} {decay : Nat} {i : ElemInput} {e : Element} (under : i.under e)

include under

/-- An element under dropout comes to F only from F. -/
theorem ElemInput.under.unarrived {released : Bool} (restful : i.restful e released) :
    ((decide (e.acc < Config.fullScale) || released) && (stepElement timed decay i e).acc == Config.fullScale) = false := by
  have full : Config.fullScale = 1048576 := rfl
  obtain ⟨-, acc⟩ := stepElement_under timed decay i e under
  have falls : (stepElement timed decay i e).acc ≤ e.acc := by
    rw [acc]
    split
    · exact Nat.sub_le _ _
    · exact Nat.zero_le _
  rcases restful.1 with low | unreleased
  · have short : (stepElement timed decay i e).acc ≠ 1048576 := by omega
    simp [full, short]
  · have either : ¬(e.acc < 1048576 ∧ (stepElement timed decay i e).acc = 1048576) := by omega
    simpa [unreleased, full] using either

/-- An element under dropout fires no instantaneous order. -/
theorem ElemInput.under.unfired {released : Bool} (restful : i.restful e released) :
    (e.count == 1 && (stepElement timed decay i e).count == 2) = false := by
  rcases restful.2 with count | high
  · simp [count]
  · have reset : (stepElement timed decay i e).count = 0 := by
      show countAfter i.inst (multiple i.current i.pickup) e.count = 0
      unfold countAfter
      split
      · next q inst =>
        have low : multiple i.current i.pickup < 256 := by
          rcases under with low | low
          · exact low.trans (by decide)
          · exact low.1
        exact if_neg (low.trans_le (high q inst)).not_ge
      · rfl
    simp [reset]

end

/-! ### The four elements -/

/-- Whether the frame brings no element to pickup and lets none raise an order. -/
structure State.Falls (s : State) (f : MeasFields) : Prop where
  a : (s.elemInputs f).a.under s.ocu.elems.a ∧ (s.elemInputs f).a.restful s.ocu.elems.a s.ocu.phase.releaseDue
  b : (s.elemInputs f).b.under s.ocu.elems.b ∧ (s.elemInputs f).b.restful s.ocu.elems.b s.ocu.phase.releaseDue
  c : (s.elemInputs f).c.under s.ocu.elems.c ∧ (s.elemInputs f).c.restful s.ocu.elems.c s.ocu.phase.releaseDue
  g : (s.elemInputs f).g.under s.ocu.elems.g ∧ (s.elemInputs f).g.restful s.ocu.elems.g s.ocu.ground.releaseDue

namespace State.Falls

variable {s : State} {f : MeasFields} (falls : s.Falls f)

include falls

theorem unpicked : ((s.computeStep f).elems.map (·.picked)).anySet = false := by
  rw [← forall_unpicked_iff]
  intro e member
  simp only [PerElem.toList, List.mem_cons, List.not_mem_nil, or_false] at member
  rcases member with rfl | rfl | rfl | rfl
  · exact (stepElement_under _ _ _ _ falls.a.1).1
  · exact (stepElement_under _ _ _ _ falls.b.1).1
  · exact (stepElement_under _ _ _ _ falls.c.1).1
  · exact (stepElement_under _ _ _ _ falls.g.1).1

theorem unnamed : (s.stepNamed f).anySet = false := by
  have arrived : (s.stepArrived f).anySet = false := by
    have all : arrives s.ocu.elems (s.computeStep f).elems (spread s.ocu.phase.releaseDue s.ocu.ground.releaseDue) = noElements := by
      unfold arrives noElements
      exact (PerElem.mk.injEq ..).mpr ⟨falls.a.1.unarrived falls.a.2, falls.b.1.unarrived falls.b.2, falls.c.1.unarrived falls.c.2,
        falls.g.1.unarrived falls.g.2⟩
    rw [State.stepArrived, all]
    rfl
  have fired : s.stepInst f = noElements :=
    (PerElem.mk.injEq ..).mpr ⟨falls.a.1.unfired falls.a.2, falls.b.1.unfired falls.b.2, falls.c.1.unfired falls.c.2,
      falls.g.1.unfired falls.g.2⟩
  rw [State.stepNamed, arrived, fired]
  rfl

/-- The step drops the last element of an episode, or finds none PICKED before it. -/
theorem frameStep :
    s.frameStep f =
      if (s.ocu.elems.map (·.picked)).anySet then (s.stepped f).sqcEpisodeEnd s.ocu.longestRun s.ocu.orderRaised
      else s.stepped f := by
  have after := falls.unpicked
  have none : (s.computeStep f).first = false := by
    show (_ && ((s.computeStep f).elems.map (·.picked)).anySet) = false
    rw [after, Bool.and_false]
  have ends : (s.computeStep f).ended = (s.ocu.elems.map (·.picked)).anySet := by
    show (_ && !((s.computeStep f).elems.map (·.picked)).anySet) = _
    rw [after, Bool.not_false, Bool.and_true]
  have longest : (s.computeStep f).longest = s.ocu.longestRun := by
    show (if (s.computeStep f).first then 1 else if ((s.computeStep f).elems.map (·.picked)).anySet then _ else _) = _
    rw [none, after]
    rfl
  have noticed : s.noticed f = s.stepped f := by rw [State.noticed, none, if_neg (by decide)]
  have run : (s.stepped f).ocu.longestRun = s.ocu.longestRun := longest
  have raised : (s.stepped f).ocu.orderRaised = s.ocu.orderRaised := by
    show (if (s.computeStep f).first then false else _) = _
    rw [none]
    rfl
  rw [State.frameStep_eq, State.ordered_unnamed falls.unnamed, noticed, ends, run, raised]

end State.Falls

/-! ### Where a frame falls -/

/-- The currents of a frame with their pickups (R10). -/
def Settings.currents (st : Settings) (f : MeasFields) : List (Nat × Nat) :=
  [(f.ia, st.pickupPh), (f.ib, st.pickupPh), (f.ic, st.pickupPh), (f.ig, st.pickupGd)]

/-- Every Q is off or 2.00 times pickup at the least, so a multiple under pickup counts for none (R18, R177). -/
theorem State.elemInputs_inst {s : State} (high : ∀ q ∈ [s.cfg.instPh, s.cfg.instGd, s.cfg.tagInst], q = 0 ∨ 512 ≤ q)
    {i : ElemInput} {current : Nat} {phase : Bool} {entry : PlanEntry} (inForce : s.InForce i current phase entry) (q : Nat)
    (inst : i.inst = some q) : 256 ≤ q := by
  simp only [List.forall_mem_cons, List.not_mem_nil, false_imp_iff, implies_true, and_true] at high
  obtain ⟨ph, gd, tag⟩ := high
  have value : s.instInForce phase entry = 0 ∨ 512 ≤ s.instInForce phase entry := by
    unfold State.instInForce
    repeat' split
    · exact tag
    · exact ph
    · exact gd
    · exact .inl rfl
  have named := inForce.inst.symm.trans inst
  split at named
  · cases named
  · obtain rfl := Option.some.inj named
    omega

theorem multiple_lt {current pickup limit : Nat} (low : current * 256 / pickup < limit) : multiple current pickup < limit :=
  (Nat.min_le_right _ _).trans_lt low

/-- A frame falls that finds no release test put off, with currents under dropout, or under pickup with no element PICKED. -/
theorem State.falls_of_unreleased {s : State} {f : MeasFields} (phase : s.ocu.phase.releaseDue = false)
    (ground : s.ocu.ground.releaseDue = false) (high : ∀ q ∈ [s.cfg.instPh, s.cfg.instGd, s.cfg.tagInst], q = 0 ∨ 512 ≤ q)
    (low : (∀ x ∈ s.cfg.currents f, x.1 * 256 / x.2 < 243) ∨
      ((∀ x ∈ s.cfg.currents f, x.1 * 256 / x.2 < 256) ∧ ∀ e ∈ s.ocu.elems.toList, e.picked = false)) : s.Falls f := by
  obtain ⟨a, b, c, g⟩ := s.elemInputs_inForce f rfl
  have inst {i : ElemInput} {current : Nat} {phase : Bool} {entry : PlanEntry} (inForce : s.InForce i current phase entry) :=
    State.elemInputs_inst high inForce
  have under {i : ElemInput} {e : Element} (member : (i.current, i.pickup) ∈ s.cfg.currents f) (stands : e ∈ s.ocu.elems.toList) :
      i.under e :=
    low.imp (fun low => multiple_lt (low (i.current, i.pickup) member)) fun low =>
      ⟨multiple_lt (low.1 (i.current, i.pickup) member), low.2 e stands⟩
  refine ⟨⟨under ?_ ?_, .inr phase, .inr (inst a)⟩, ⟨under ?_ ?_, .inr phase, .inr (inst b)⟩,
    ⟨under ?_ ?_, .inr phase, .inr (inst c)⟩, ⟨under ?_ ?_, .inr ground, .inr (inst g)⟩⟩
  all_goals simp [Settings.currents, PerElem.toList, State.elemInputs]

end Sys2Proof.Machine
end

section
/-! SUPPORT. The deliveries after the battery's in a frame that brings no pickup and no close energy: they make no record and no report,
and leave the SQC but for the source voltage and the memory (R4, R50). -/

namespace Sys2Proof.Machine

/-! ### The trip capacitor's report (R50, R55, R59) -/

/-- A trip capacitor ready report begins a pulse, or finds nothing to do. -/
theorem State.tripReadyReport_begins (s : State) :
    s.tripReadyReport = s ∨ ∃ request, s.tripReadyReport = s.beginTripPulse request := by
  have attempt : State.onlyIf s (s.sqc.seq == .breakerFail) State.cduAttemptOrder = s ∨
      ∃ request, State.onlyIf s (s.sqc.seq == .breakerFail) State.cduAttemptOrder = s.beginTripPulse request := by
    unfold State.cduAttemptOrder
    generalize (s.sqc.seq == .breakerFail) = failed
    cases failed
    · exact .inl rfl
    · rw [State.onlyIf_true]
      generalize (s.cdu.tripRequest == .none && s.noPulse && s.cdu.tripReady) = orders
      cases orders
      · exact .inl rfl
      · exact .inr ⟨.attempt, rfl⟩
  unfold State.tripReadyReport
  split
  · exact .inr ⟨_, rfl⟩
  · exact .inr ⟨_, rfl⟩
  · exact attempt

theorem State.closeChargePermitted_critical {s : State} (critical : s.btu.reserve = .critical) : s.closeChargePermitted = false := by
  simp [State.closeChargePermitted, State.reserveHolds, critical]

/-- Close charging that is not permitted is off (R51, R52). -/
theorem Cdu.charged_uncharged (c : Cdu) (trip : Bool) :
    (c.charged trip false).ccen = false ∧ (c.charged trip false).closeCharge = none := by
  unfold Cdu.charged
  exact ⟨rfl, rfl⟩

theorem State.refreshCharge_critical {s : State} (critical : s.btu.reserve = .critical) :
    s.refreshCharge.cdu.ccen = false ∧ s.refreshCharge.cdu.closeCharge = none := by
  rw [State.refreshCharge_eq, State.closeChargePermitted_critical critical]
  exact Cdu.charged_uncharged _ _

theorem State.tripHanded_critical {s : State} (critical : s.btu.reserve = .critical)
    (off : s.cdu.ccen = false ∧ s.cdu.closeCharge = none) :
    s.tripHanded.cdu.ccen = false ∧ s.tripHanded.cdu.closeCharge = none := by
  have barred : s.closeSupply = false := by simp [State.closeSupply, critical]
  unfold State.tripHanded
  split
  · rcases State.tripReadyReport_begins (s.withCdu fun c => { c with tripOwed := false }) with same | ⟨request, begins⟩
    · rw [same]
      exact off
    · rw [begins, State.beginTripPulse_eq]
      have supply : (s.withCdu fun c => { c with tripOwed := false }).closeSupply = false := barred
      rw [supply, Bool.false_and]
      exact Cdu.charged_uncharged _ _
  · exact off

theorem State.tripHanded_closeOwed (s : State) : s.tripHanded.cdu.closeOwed = s.cdu.closeOwed := by
  unfold State.tripHanded
  split
  · rcases State.tripReadyReport_begins (s.withCdu fun c => { c with tripOwed := false }) with same | ⟨request, begins⟩
    · rw [same]
      rfl
    · rw [begins]
      rfl
  · rfl

/-- Below 360 the close capacitor brings no report (R50). -/
theorem State.deliverVoltages_low (s : State) {closeV : Nat} (low : closeV < 360) (tripV : Nat) (closing : Bool) :
    s.deliverVoltages tripV closeV closing = (s.voltagesRead tripV closeV closing).tripHanded := by
  have unowed : (s.voltagesRead tripV closeV closing).cdu.closeOwed = false := by
    show ((decide (360 ≤ closeV) && _) && _) = false
    simp [low]
  rw [State.deliverVoltages_eq, State.handReports_eq, State.tripHanded_closeOwed, unowed, Bool.false_and, if_neg (by decide)]

/-! ### The deliveries -/

/-- A frame that brings no pickup, no order and no close energy finds the station so, and leaves it so. -/
structure State.Still (s : State) : Prop where
  queue : s.chc.queue = []
  unpicked : ∀ e ∈ s.ocu.elems.toList, e.picked = false
  phase : s.ocu.phase.releaseDue = false
  ground : s.ocu.ground.releaseDue = false

/-- What such deliveries leave: the records, the reports and the SQC but for the source voltage and the memory, and in CRITICAL the close
charging that is off. -/
structure State.Stands (s t : State) : Prop where
  still : t.Still
  cfg : t.cfg = s.cfg
  rcs : t.rcs = s.rcs
  pru : t.pru = s.pru
  sqc : t.sqc = { s.sqc with sourcePresent := t.sqc.sourcePresent, memory := t.sqc.memory }
  reserve : t.btu.reserve = s.btu.reserve
  uncharged : s.btu.reserve = .critical → s.cdu.ccen = false ∧ s.cdu.closeCharge = none →
    t.cdu.ccen = false ∧ t.cdu.closeCharge = none

theorem State.Stands.refl {s : State} (still : s.Still) : s.Stands s := ⟨still, rfl, rfl, rfl, rfl, rfl, fun _ => id⟩

theorem State.Stands.trans {r s t : State} (h : r.Stands s) (k : s.Stands t) : r.Stands t where
  still := k.still
  cfg := k.cfg.trans h.cfg
  rcs := k.rcs.trans h.rcs
  pru := k.pru.trans h.pru
  sqc := by rw [k.sqc, h.sqc]
  reserve := k.reserve.trans h.reserve
  uncharged critical off := k.uncharged (h.reserve.trans critical) (h.uncharged critical off)

/-- The frame step where no element is PICKED and none comes to pickup. -/
theorem State.Still.frameStep {s : State} (still : s.Still) {f : MeasFields}
    (high : ∀ q ∈ [s.cfg.instPh, s.cfg.instGd, s.cfg.tagInst], q = 0 ∨ 512 ≤ q)
    (low : ∀ x ∈ s.cfg.currents f, x.1 * 256 / x.2 < 256) : s.frameStep f = s.stepped f ∧ (s.stepped f).Still := by
  have falls := State.falls_of_unreleased still.phase still.ground high (.inr ⟨low, still.unpicked⟩)
  refine ⟨?_, still.queue, forall_unpicked_iff.mpr falls.unpicked, rfl, rfl⟩
  rw [falls.frameStep, forall_unpicked_iff.mp still.unpicked, if_neg (by decide)]

theorem State.Still.deliver {s : State} (still : s.Still) {f : MeasFields} (closing : Bool)
    (high : ∀ q ∈ [s.cfg.instPh, s.cfg.instGd, s.cfg.tagInst], q = 0 ∨ 512 ≤ q)
    (low : ∀ x ∈ s.cfg.currents f, x.1 * 256 / x.2 < 256) (closeLow : f.closeV < 360) {d : Delivery} (battery : d ≠ .btu) :
    s.Stands (s.deliver f closing d) := by
  cases d with
  | ocu =>
    obtain ⟨same, still'⟩ := still.frameStep high low
    rw [State.deliver, same]
    exact ⟨still', rfl, rfl, rfl, rfl, rfl, fun _ => id⟩
  | cdu =>
    rw [State.deliver, s.deliverVoltages_low closeLow]
    obtain ⟨sqc, rcs, pru, chc, btu⟩ := (s.voltagesRead f.tripV f.closeV closing).tripHanded_frame
    have ocu : (s.voltagesRead f.tripV f.closeV closing).tripHanded.ocu = s.ocu := by
      unfold State.tripHanded
      split
      · simp [State.voltagesRead]
      · simp [State.voltagesRead]
    have svp : (s.voltagesRead f.tripV f.closeV closing).tripHanded.svp = s.svp := by
      unfold State.tripHanded
      split
      · simp [State.voltagesRead]
      · simp [State.voltagesRead]
    refine ⟨⟨by rw [chc]; exact still.queue, by rw [ocu]; exact still.unpicked, by rw [ocu]; exact still.phase,
      by rw [ocu]; exact still.ground⟩, by rw [State.cfg, svp]; rfl, rcs, pru, by rw [sqc]; rfl, by rw [btu]; rfl,
      fun critical _ => ?_⟩
    exact State.tripHanded_critical critical (State.refreshCharge_critical critical)
  | btu => exact absurd rfl battery
  | sqc => exact ⟨⟨still.queue, still.unpicked, still.phase, still.ground⟩, rfl, rfl, rfl, rfl, rfl, fun _ => id⟩
  | lfsr => exact ⟨⟨still.queue, still.unpicked, still.phase, still.ground⟩, rfl, rfl, rfl, rfl, rfl, fun _ => id⟩
  | take =>
    rw [State.deliver, State.takeHead, still.queue]
    exact .refl still
  | test =>
    have frame : ∀ d : State, d = s.testAtArrival → d.ocu = s.ocu ∧ d.chc = s.chc ∧ d.sqc = s.sqc ∧ d.rcs = s.rcs ∧
        d.pru = s.pru ∧ d.svp = s.svp ∧ d.cdu = s.cdu := by
      rintro _ rfl
      simp
    obtain ⟨ocu, chc, sqc, rcs, pru, svp, cdu⟩ := frame _ rfl
    rw [State.deliver]
    exact ⟨⟨by rw [chc]; exact still.queue, by rw [ocu]; exact still.unpicked, by rw [ocu]; exact still.phase,
      by rw [ocu]; exact still.ground⟩, by rw [State.cfg, svp]; rfl, rcs, pru, by rw [sqc],
      s.deliver_reserve f closing (x := .test) (by decide), by rw [cdu]; exact fun _ => id⟩

theorem State.Still.delivered {s : State} (still : s.Still) {f : MeasFields} (closing : Bool)
    (high : ∀ q ∈ [s.cfg.instPh, s.cfg.instGd, s.cfg.tagInst], q = 0 ∨ 512 ≤ q)
    (low : ∀ x ∈ s.cfg.currents f, x.1 * 256 / x.2 < 256) (closeLow : f.closeV < 360) {order : List Delivery}
    (battery : .btu ∉ order) : s.Stands (s.delivered f closing order) :=
  State.delivered_invariant (p := s.Stands)
    (fun d member _ h => h.trans (h.still.deliver closing (by rw [h.cfg]; exact high) (by rw [h.cfg]; exact low) closeLow
      fun e => battery (e ▸ member))) (.refl still)

end Sys2Proof.Machine
end

section
/-! SUPPORT. The battery values that change the reserve state, and what a frame with them first hands out (R72, R73). -/

namespace Sys2Proof.Machine

theorem judgeReserve_disconnect {acPresent : Bool} {before : Reserve} {v : Nat} :
    judgeReserve acPresent before v = .disconnect ↔ before = .disconnect := by
  rw [judgeReserve_eq]
  split_ifs <;> simp_all

theorem State.batteryRead_eq (s : State) (v : Nat) (i temperature : Int) :
    s.batteryRead v i temperature =
      { s with
        btu :=
          { s.btu with
            battV := v, battI := i, temperature := temperature, vf := floatSetpoint temperature, measured := true }.sends } := by
  rw [State.batteryRead, State.sendSetpoint_eq]
  rfl

/-- What a change of the reserve state hands out at the battery values of a frame. -/
structure State.HandsReserve (s : State) (new : Reserve) (v : Nat) (t : State) : Prop where
  ocu : t.ocu = s.ocu
  queue : t.chc.queue = s.chc.queue
  cfg : t.cfg = s.cfg
  rcs : t.rcs =
    s.withRecords
      ({ kind := .reserveChange, reserve := some new, battV := some v } ::
        (reserveLocks s.sqc new).toList.map fun r => lockoutRecord r s.sqc.shots)
  pru : t.pru = s.pruReserved new
  sqc : t.sqc = s.sqc.reserved (reserveLocks s.sqc new)
  reserve : t.btu.reserve = new
  uncharged : new = .critical → t.cdu.ccen = false ∧ t.cdu.closeCharge = none

theorem State.deliverBattery_changes {s : State} {f : MeasFields} {new : Reserve}
    (judged : judgeReserve s.btu.acPresent s.btu.reserve f.battV = new) (changes : new ≠ s.btu.reserve) (closing : Bool) :
    s.HandsReserve new f.battV (s.deliver f closing .btu) := by
  have attached : s.btu.reserve ≠ .disconnect := fun old =>
    changes ((judged.symm.trans (judgeReserve_disconnect.mpr old)).trans old.symm)
  have attached' : new ≠ .disconnect := fun away => attached (judgeReserve_disconnect.mp (judged.trans away))
  have read := s.batteryRead_eq f.battV f.battI f.temperature
  obtain ⟨sending, sends⟩ := Btu.sends_eq
    { s.btu with
      battV := f.battV, battI := f.battI, temperature := f.temperature, vf := floatSetpoint f.temperature, measured := true }
  rw [sends] at read
  have delivered : s.deliver f closing .btu =
      ((s.batteryRead f.battV f.battI f.temperature).changeReserve new).watchLowVoltage.watchTaper := by
    rw [State.deliver, State.deliverBattery_eq, read, State.judgeBattery_changes (new := new) rfl (by exact judged) (by exact changes)]
  have state := State.changeReserve_state (s.batteryRead f.battV f.battI f.temperature) (new := new) (by rw [read]; exact attached) attached'
  have reserve := congrArg (fun u => u.1.2.1) (State.deliverBattery_supplied judged f.battI f.temperature)
  refine ⟨?_, s.deliver_queue f closing (by decide), by simp [State.deliver, State.cfg], ?_, ?_, ?_, reserve, fun critical => ?_⟩
  all_goals rw [delivered]
  · simp only [State.watchTaper_frame, State.watchLowVoltage_frame]
    rw [state, read]
    rfl
  · simp only [State.watchTaper_frame, State.watchLowVoltage_frame]
    rw [state, read]
    rfl
  · simp only [State.watchTaper_frame, State.watchLowVoltage_frame]
    rw [state, read]
    rfl
  · simp only [State.watchTaper_frame, State.watchLowVoltage_frame]
    rw [state, read]
  · simp only [State.watchTaper_frame, State.watchLowVoltage_frame]
    subst critical
    rw [state]
    exact Cdu.charged_uncharged _ _

end Sys2Proof.Machine

/-! ### The statement -/

open Sys2Proof.Machine in
/-- Settles O37: the battery's delivery alone moves the supply, and in a frame that finds it first the others leave what it hands out. -/
theorem reserveJudgement : Obligations.ReserveJudgement := by
  intro s bits bytes order on brings good
  have nodup := deliveryOrder_nodup order
  have member : Sys2Proof.Delivery.btu ∈ deliveryOrder order := mem_deliveryOrder.mpr (.inr (by decide))
  refine ⟨_, exec_goodFrame on brings good order, ?_⟩
  generalize measFields bytes = f
  generalize isClosing : (s.cdu.pulse == .close) = closing
  have supply := (s.arrival f).delivered_supply f closing nodup member rfl
  have battery := (s.arrival f).delivered_battery f closing nodup member
  simp only [State.supply, Prod.mk.injEq] at supply battery
  obtain ⟨ac, reserve, discharged, low, -⟩ := supply
  obtain ⟨battV, battI, -⟩ := battery
  have judged : judgeReserve s.btu.acPresent s.btu.reserve f.battV =
      ((s.arrival f).delivered f closing (deliveryOrder order)).btu.reserve := reserve.symm
  refine ⟨?_, ?_, ?_, fun quiet idle => ?_, ac, fun others isOrder changes quiet empty unpicked currents high phase ground closeLow
    reason passes isReason isPasses => ?_⟩
  · rw [battV, ← judged]
    exact judgeReserve_eq _ _ _
  · rw [← judged]
    exact discharged
  · rw [battV, ← judged]
    exact low
  · rw [State.delivered_taper (s := s.arrival f) quiet f closing nodup member fun test =>
      idle.resolve_left (not_not.mpr ((mem_deliveryOrder.mp test).resolve_right (by decide))), battI]
    rfl
  · subst isOrder
    obtain ⟨rest, split⟩ := deliveryOrder_cons .btu others
    rw [split] at nodup judged changes isReason isPasses battV ⊢
    rw [State.delivered_cons] at judged changes isReason isPasses battV ⊢
    rw [← judged] at changes isReason isPasses
    rw [← judged, battV]
    generalize isNew : judgeReserve s.btu.acPresent s.btu.reserve f.battV = new at *
    obtain ⟨ocu, queue, cfg, rcs, pru, sqc, taken, uncharged⟩ :=
      State.deliverBattery_changes (s := s.arrival f) (f := f) (new := new) isNew (by exact changes) closing
    have locks : reserveLocks (s.arrival f).sqc new = reason := isReason.symm
    rw [locks] at rcs sqc
    have reports : ((s.arrival f).deliver f closing .btu).pru = { s.pru with
        pace := none
        nextSeq := if reason ≠ none ∨ passes = true then s.pru.nextSeq + 1 else s.pru.nextSeq
        lastEvent := if reason ≠ none then s.pru.nextSeq else s.pru.lastEvent
        beacon := beaconFollowed s.cfg s.btu.reserve new s.btu.shutdownPending s.now (nextLfsr s.chc.lfsr) s.pru.beacon } := by
      rw [pru, State.pruReserved, locks, isPasses]
      rfl
    generalize (s.arrival f).deliver f closing .btu = u at *
    have cfg' : u.cfg = s.cfg := cfg
    have still : u.Still := ⟨queue.trans empty, by rw [ocu]; exact unpicked, by rw [ocu]; exact phase, by rw [ocu]; exact ground⟩
    have stands := still.delivered closing (by rw [cfg']; exact high) (by rw [cfg']; exact currents) closeLow
      (List.nodup_cons.mp nodup).1
    generalize u.delivered f closing rest = t at *
    refine ⟨stands.rcs.trans rcs, ?_, fun critical => ?_, stands.pru.trans reports⟩
    · rw [stands.sqc, sqc]
      cases reason with
      | none => rfl
      | some r => rfl
    · exact stands.uncharged (taken.trans critical) (uncharged critical)

end

section
/-! SUPPORT. The sequence step and the deliveries after it, which pass a sequence by that waits for no energy (R47, R48). -/

namespace Sys2Proof.Machine

/-! ### The step (R48) -/

section

variable (s : State) (elements : ElementSet)

/-- The station as the step has raised s, RESET_TIMING not yet entered. -/
def State.stepRaised : State :=
  s.withSqc fun q => { q with shots := q.shots + 1, stepped := true, stepSet := elements }

/-- The station in RESET_TIMING with the full reset time, the step's record and report still to be made. -/
def State.stepTimed : State :=
  (State.onlyIf (s.stepRaised elements) (s.sqc.seq != .resetTiming) fun m => m.enterSeq .resetTiming).withSqc fun q =>
    { q with reset := some s.cfg.resetTime }

theorem State.stepSequence_eq :
    s.stepSequence elements =
      ((s.stepTimed elements).record { kind := .step, elements := some elements, shots := some (s.sqc.shots + 1) }).buildClear
        elements true := rfl

theorem State.stepSequence_sqc :
    (s.stepSequence elements).sqc.seq = .resetTiming ∧ (s.stepSequence elements).sqc.shots = s.sqc.shots + 1 ∧
      (s.stepSequence elements).sqc.stepped = true ∧ (s.stepSequence elements).sqc.stepSet = elements ∧
      (s.stepSequence elements).sqc.reset = some s.cfg.resetTime := by
  rw [State.stepSequence_eq]
  simp only [State.buildClear_frame, State.record_frame]
  unfold State.stepTimed
  by_cases seq : s.sqc.seq = .resetTiming
  · rw [show (s.sqc.seq != .resetTiming) = false by simpa using seq, State.onlyIf_false]
    exact ⟨seq, rfl, rfl, rfl, rfl⟩
  · rw [show (s.sqc.seq != .resetTiming) = true by simpa using seq, State.onlyIf_true]
    rw [State.withSqc_sqc, State.enterSeq_sqc]
    exact ⟨rfl, rfl, rfl, rfl, rfl⟩

/-- With no test running the step is its record and its report alone, beside the SQC. -/
theorem State.stepSequence_quiet {s : State} (quiet : s.quietTest) (elements : ElementSet) :
    (s.stepSequence elements).rcs =
        s.withRecords [{ kind := .step, elements := some elements, shots := some (s.sqc.shots + 1) }] ∧
      Reports s (s.stepSequence elements) [(.clear, beBytes 1 elements.code ++ [1#8])] ∧
      (s.stepSequence elements).btu = s.btu := by
  have timed : ∀ u, u = s.stepTimed elements →
      u.rcs = s.rcs ∧ u.now = s.now ∧ u.pru = s.pru ∧ u.chc = s.chc ∧ u.svp = s.svp ∧ u.btu = s.btu := by
    rintro _ rfl
    unfold State.stepTimed
    cases s.sqc.seq != .resetTiming
    · exact ⟨rfl, rfl, rfl, rfl, rfl, rfl⟩
    · rw [State.onlyIf_true, State.enterSeq_of_quiet (by exact quiet), State.entering_resetTiming]
      exact ⟨rfl, rfl, rfl, rfl, rfl, rfl⟩
  obtain ⟨rcs, now, pru, chc, svp, btu⟩ := timed _ rfl
  rw [State.stepSequence_eq]
  refine ⟨?_, ?_, ?_⟩
  · simp only [State.buildClear_frame]
    rw [State.record_rcs, State.withRecords, rcs, now]
    rfl
  · refine (State.buildClear_reports _ elements true).of_parts ?_ rfl
    simp [State.cfg, pru, chc, svp]
  · simp only [State.buildClear_frame, State.record_frame]
    exact btu

/-- Whether the end of an episode steps the sequence (R48). -/
def State.stepsAt (run : Nat) (raised : Bool) : Bool :=
  s.sqc.seq.isClosed && decide (2 ≤ run) && !raised && decide (s.sqc.shots + 1 < s.cfg.tripsToLockout)

theorem State.sqcEpisodeEnd_steps {s : State} {elements : ElementSet} {run : Nat} {raised : Bool}
    (memory : s.sqc.memory = some elements) (steps : s.stepsAt run raised = true) :
    s.sqcEpisodeEnd run raised = (s.stepSequence elements).withSqc fun q => { q with memory := none } := by
  rw [State.sqcEpisodeEnd, memory]
  exact congrArg (fun c => (s.onlyIf c fun s => s.stepSequence elements).withSqc fun q => { q with memory := none }) steps

theorem State.sqcEpisodeEnd_stands {s : State} {run : Nat} {raised : Bool}
    (stands : s.sqc.memory = none ∨ s.stepsAt run raised = false) :
    s.sqcEpisodeEnd run raised = s.withSqc fun q => { q with memory := none } := by
  unfold State.sqcEpisodeEnd
  cases memory : s.sqc.memory with
  | none => rfl
  | some elements =>
    exact congrArg (fun c => (s.onlyIf c fun s => s.stepSequence elements).withSqc fun q => { q with memory := none })
      (stands.resolve_left (by simp [memory]))

end

/-! ### Deliveries that find nothing waiting for energy (R34, R41, R50) -/

/-- The sequence waits for no energy, holds no memory, and no record waits. -/
structure State.Aside (s : State) : Prop where
  charge : s.sqc.seq ≠ .closeCharge
  closing : s.sqc.seq ≠ .closing
  memory : s.sqc.memory = none
  queue : s.chc.queue = []

theorem State.closeReadyReport_aside {s : State} (charge : s.sqc.seq ≠ .closeCharge) (closing : s.sqc.seq ≠ .closing) :
    s.closeReadyReport = s := by
  unfold State.closeReadyReport
  split
  · next seq => exact absurd seq charge
  · next seq => exact absurd seq closing
  · rfl

/-- The ready reports handed: the trip's own alone acts, and on the CDU alone. -/
theorem State.handReports_aside {s : State} (charge : s.sqc.seq ≠ .closeCharge) (closing : s.sqc.seq ≠ .closing) :
    s.handReports.sqc = s.sqc ∧ s.handReports.rcs = s.rcs ∧ s.handReports.pru = s.pru ∧ s.handReports.chc = s.chc ∧
      s.handReports.btu = s.btu := by
  have frame := s.tripHanded_frame
  rw [State.handReports_eq]
  split
  · rw [State.closeReadyReport_aside (by rw [State.withCdu_sqc, frame.1]; exact charge)
      (by rw [State.withCdu_sqc, frame.1]; exact closing)]
    exact frame
  · exact frame

theorem State.changeReserve_sqc (s : State) (new : Reserve) :
    (s.changeReserve new).sqc = s.sqc.reserved (reserveLocks s.sqc new) := by
  rw [State.changeReserve_eq]
  simp only [State.settleTransmitter_frame, State.followReserve_frame, State.refreshCharge_frame]
  exact (congrArg State.sqc (s.reserveMoved_state new) :)

theorem State.judgeBattery_aside {s : State} (charge : s.sqc.seq ≠ .closeCharge) (closing : s.sqc.seq ≠ .closing) :
    s.judgeBattery.sqc = s.sqc := by
  have free (new : Reserve) : reserveLocks s.sqc new = none := by simp [reserveLocks, charge, closing]
  unfold State.judgeBattery State.onlyIf
  dsimp only
  split
  · rw [State.changeReserve_sqc, free]
    rfl
  · rfl

theorem State.Aside.deliver {s : State} (h : s.Aside) (f : MeasFields) (closing : Bool) {d : Delivery} (ocu : d ≠ .ocu) :
    (s.deliver f closing d).sqc = { s.sqc with sourcePresent := (s.deliver f closing d).sqc.sourcePresent } := by
  have stands {q : Sqc} (same : q = s.sqc) : q = { s.sqc with sourcePresent := q.sourcePresent } := by rw [same]
  cases d with
  | ocu => exact absurd rfl ocu
  | cdu => exact stands (State.handReports_aside (s := s.voltagesRead f.tripV f.closeV closing) h.charge h.closing).1
  | btu =>
    refine stands ?_
    simp only [State.deliver, State.deliverBattery_eq, State.watchTaper_frame, State.watchLowVoltage_frame]
    have read := s.batteryRead_eq f.battV f.battI f.temperature
    rw [State.judgeBattery_aside (by rw [read]; exact h.charge) (by rw [read]; exact h.closing), read]
  | sqc => simp [State.deliver, State.sqcSource, h.memory]
  | lfsr => rfl
  | take => exact stands (by simp [State.deliver, State.takeHead, h.queue])
  | test => exact stands (by simp [State.deliver])

theorem State.Aside.of_sqc {s t : State} (h : s.Aside) (sqc : t.sqc = { s.sqc with sourcePresent := t.sqc.sourcePresent })
    (queue : t.chc.queue = []) : t.Aside :=
  ⟨by rw [sqc]; exact h.charge, by rw [sqc]; exact h.closing, by rw [sqc]; exact h.memory, queue⟩

theorem State.Aside.delivered {s : State} (h : s.Aside) (f : MeasFields) (closing : Bool) {order : List Delivery}
    (others : .ocu ∉ order) :
    (s.delivered f closing order).sqc = { s.sqc with sourcePresent := (s.delivered f closing order).sqc.sourcePresent } := by
  refine (State.delivered_invariant
    (p := fun u => u.Aside ∧ u.sqc = { s.sqc with sourcePresent := u.sqc.sourcePresent }) (fun d member u hu => ?_) ⟨h, rfl⟩).2
  have sqc := hu.1.deliver f closing (d := d) fun e => others (e ▸ member)
  exact ⟨hu.1.of_sqc sqc (State.deliver_empty hu.1.queue f closing d), by rw [sqc, hu.2]⟩

/-- Out of READY a calm delivery writes no record and builds no report. -/
theorem State.Calm.deliver_aside {s : State} (calm : s.Calm) (h : s.Aside) (left : s.sqc.seq ≠ .ready) (f : MeasFields)
    (closing : Bool) {d : Delivery} (ocu : d ≠ .ocu) : s.StaysCalm (s.deliver f closing d) := by
  cases d with
  | ocu => exact absurd rfl ocu
  | cdu =>
    obtain ⟨-, rcs, pru, chc, btu⟩ :=
      State.handReports_aside (s := s.voltagesRead f.tripV f.closeV closing) h.charge h.closing
    exact .of_eq calm btu rcs pru chc
  | btu => exact State.deliverBattery_calm calm _ _ _
  | sqc => exact .of_eq calm rfl rfl rfl rfl
  | lfsr => exact ⟨⟨calm.quiet, calm.acPresent, calm.reserve⟩, rfl, rfl, rfl⟩
  | take =>
    rw [State.deliver, State.takeHead, h.queue]
    exact .of_eq calm rfl rfl rfl rfl
  | test =>
    rw [State.deliver, State.testAtArrival_elsewhere left]
    exact ⟨⟨calm.quiet, calm.acPresent, calm.reserve⟩, rfl, rfl, rfl⟩

theorem State.Calm.delivered_aside {s : State} (calm : s.Calm) (h : s.Aside) (left : s.sqc.seq ≠ .ready) (f : MeasFields)
    (closing : Bool) {order : List Delivery} (others : .ocu ∉ order) : s.StaysCalm (s.delivered f closing order) :=
  (State.delivered_invariant (p := fun u => (u.Aside ∧ u.sqc.seq ≠ .ready) ∧ s.StaysCalm u)
    (fun d member u hu => by
      have apart : d ≠ .ocu := fun e => others (e ▸ member)
      have sqc := hu.1.1.deliver f closing apart
      exact ⟨⟨hu.1.1.of_sqc sqc (State.deliver_empty hu.1.1.queue f closing d), by rw [sqc]; exact hu.1.2⟩,
        hu.2.trans (hu.2.calm.deliver_aside hu.1.1 hu.1.2 f closing apart)⟩)
    ⟨⟨h, left⟩, .of_eq calm rfl rfl rfl rfl⟩).2

end Sys2Proof.Machine
end

section
/-! SUPPORT. A whole frame that ends an episode without an order, the OCU first (R47, R48; log 14). -/

namespace Sys2Proof.Machine

/-- A frame falls whose elements stand below F with no instantaneous count, with currents under dropout. -/
theorem State.falls_of_uncounted {s : State} {f : MeasFields} (rests : ∀ e ∈ s.ocu.elems.toList, e.acc < 1048576 ∧ e.count = 0)
    (low : ∀ x ∈ s.cfg.currents f, x.1 * 256 / x.2 < 243) : s.Falls f := by
  have falls {i : ElemInput} {e : Element} (released : Bool) (member : (i.current, i.pickup) ∈ s.cfg.currents f)
      (stands : e ∈ s.ocu.elems.toList) : i.under e ∧ i.restful e released := by
    obtain ⟨acc, count⟩ := rests e stands
    exact ⟨.inl (multiple_lt (low (i.current, i.pickup) member)), .inl acc, .inl (by rw [count]; decide)⟩
  refine ⟨falls _ ?_ ?_, falls _ ?_ ?_, falls _ ?_ ?_, falls _ ?_ ?_⟩
  all_goals simp [Settings.currents, PerElem.toList, State.elemInputs]

/-- The end of an episode leaves a closed state closed, and the memory empty. -/
theorem State.sqcEpisodeEnd_closed {s : State} (closed : s.sqc.seq = .ready ∨ s.sqc.seq = .resetTiming) (run : Nat) (raised : Bool) :
    ((s.sqcEpisodeEnd run raised).sqc.seq = .ready ∨ (s.sqcEpisodeEnd run raised).sqc.seq = .resetTiming) ∧
      (s.sqcEpisodeEnd run raised).sqc.memory = none := by
  refine ⟨?_, rfl⟩
  by_cases stands : s.sqc.memory = none ∨ s.stepsAt run raised = false
  · rw [State.sqcEpisodeEnd_stands stands]
    exact closed
  · rw [not_or, Bool.not_eq_false] at stands
    obtain ⟨elements, memory⟩ := Option.ne_none_iff_exists'.mp stands.1
    rw [State.sqcEpisodeEnd_steps memory stands.2]
    exact .inr (s.stepSequence_sqc elements).1

/-- Such a state waits for no energy. -/
theorem State.aside_of_closed {s : State} (closed : s.sqc.seq = .ready ∨ s.sqc.seq = .resetTiming) (memory : s.sqc.memory = none)
    (queue : s.chc.queue = []) : s.Aside :=
  ⟨by rcases closed with seq | seq <;> simp [seq], by rcases closed with seq | seq <;> simp [seq], memory, queue⟩

end Sys2Proof.Machine

/-! ### The statement -/

open Sys2Proof.Machine in
/-- Settles O31: the frame step drops the last element, and the end of the episode steps the sequence or leaves it. -/
theorem sequenceStep : Obligations.SequenceStep := by
  intro s bits bytes order on brings good empty closed rests picked low
  obtain ⟨later, run, others, -⟩ := exec_ocuFirst on brings good order
  refine ⟨_, run, ?_⟩
  generalize measFields bytes = f at *
  have was : ((s.arrival f).ocu.elems.map (·.picked)).anySet = true := by
    by_contra none
    rw [Bool.not_eq_true, ← forall_unpicked_iff] at none
    obtain ⟨e, member, isPicked⟩ := picked
    rw [none e member] at isPicked
    exact absurd isPicked (by decide)
  have ends : (s.arrival f).frameStep f =
      ((s.arrival f).stepped f).sqcEpisodeEnd s.ocu.longestRun s.ocu.orderRaised := by
    rw [(State.falls_of_uncounted (s := s.arrival f) rests low).frameStep, was, if_pos rfl]
    rfl
  obtain ⟨closed', memory'⟩ := State.sqcEpisodeEnd_closed (s := (s.arrival f).stepped f) closed s.ocu.longestRun s.ocu.orderRaised
  rw [← ends] at closed' memory'
  have aside := State.aside_of_closed closed' memory' ((State.frameStep_queue _ f).trans empty)
  have sqc := aside.delivered f (s.cdu.pulse == .close) others
  refine ⟨by rw [sqc]; exact memory', fun elements memory long unordered below => ?_, fun stands => ?_⟩
  · have steps : ((s.arrival f).stepped f).stepsAt s.ocu.longestRun s.ocu.orderRaised = true := by
      have isClosed : s.sqc.seq.isClosed = true := by rcases closed with seq | seq <;> rw [seq] <;> rfl
      show (s.sqc.seq.isClosed && decide (2 ≤ s.ocu.longestRun) && !s.ocu.orderRaised &&
        decide (s.sqc.shots + 1 < s.cfg.tripsToLockout)) = true
      simp [isClosed, long, unordered, below]
    have stepped := ends.trans (State.sqcEpisodeEnd_steps (s := (s.arrival f).stepped f) memory steps)
    obtain ⟨seq, shots, isStepped, stepSet, reset⟩ := ((s.arrival f).stepped f).stepSequence_sqc elements
    rw [stepped] at sqc aside ⊢
    refine ⟨by rw [sqc]; exact seq, by rw [sqc]; exact shots, by rw [sqc]; exact isStepped, by rw [sqc]; exact stepSet,
      by rw [sqc]; exact reset, fun quiet ac reserve => ?_⟩
    obtain ⟨rcs, reports, btu⟩ := State.stepSequence_quiet (s := (s.arrival f).stepped f) quiet elements
    generalize ((s.arrival f).stepped f).stepSequence elements = u at *
    have calm : (u.withSqc fun q => { q with memory := none }).Calm := by
      constructor
      · rw [State.quietTest, State.withSqc_btu, btu]
        exact quiet
      · rw [State.withSqc_btu, btu]
        exact ac
      · rw [State.withSqc_btu, btu]
        exact reserve
    have stays := calm.delivered_aside aside (by rw [State.withSqc_sqc, seq]; decide) f (s.cdu.pulse == .close) others
    exact ⟨stays.rcs.trans rcs, (reports.withLfsr stays.pru stays.chc).of_parts rfl rfl⟩
  · have stands' : ((s.arrival f).stepped f).sqc.memory = none ∨
        ((s.arrival f).stepped f).stepsAt s.ocu.longestRun s.ocu.orderRaised = false := by
      refine stands.imp id fun unmet => ?_
      show (s.sqc.seq.isClosed && decide (2 ≤ s.ocu.longestRun) && !s.ocu.orderRaised &&
        decide (s.sqc.shots + 1 < s.cfg.tripsToLockout)) = false
      rcases unmet with short | ordered | above
      · simp [short.not_ge]
      · simp [ordered]
      · simp [above.not_gt]
    rw [sqc, ends, State.sqcEpisodeEnd_stands stands']
    exact ⟨rfl, rfl, rfl⟩

end

section
/-! SUPPORT. The coils: the pulses, their windows and the capacitors behind them, which the deliveries beside the voltages leave where no
order is taken or a trip pulse is in progress (R50, R54 to R61). -/

namespace Sys2Proof.Machine

/-! ### What moves no coil -/

/-- The CDU without its charging and without the withdrawn mark. -/
def Cdu.coils (c : Cdu) : Cdu :=
  { c with tcen := false, ccen := false, closeCharge := none, closeBarred := false, withdrawn := false }

theorem State.refreshCharge_coils (s : State) : s.refreshCharge.cdu.coils = s.cdu.coils := rfl

theorem State.enterSeq_coils (s : State) (new : SeqState) : (s.enterSeq new).cdu.coils = s.cdu.coils := by
  have entering : (s.entering new).cdu.coils = s.cdu.coils := by
    unfold State.entering
    cases new.isClosed <;> cases new.clearsBar <;> rfl
  rw [State.enterSeq_eq]
  simpa using entering

theorem State.onlyIf_coils {s : State} {c : Bool} {f : State → State} (h : (f s).cdu.coils = s.cdu.coils) :
    (s.onlyIf c f).cdu.coils = s.cdu.coils := by
  cases c
  · rfl
  · exact h

theorem State.sqcEpisodeEnd_coils (s : State) (run : Nat) (raised : Bool) :
    (s.sqcEpisodeEnd run raised).cdu.coils = s.cdu.coils := by
  by_cases stands : s.sqc.memory = none ∨ s.stepsAt run raised = false
  · rw [State.sqcEpisodeEnd_stands stands]
    rfl
  · rw [not_or, Bool.not_eq_false] at stands
    obtain ⟨elements, memory⟩ := Option.ne_none_iff_exists'.mp stands.1
    rw [State.sqcEpisodeEnd_steps memory stands.2, State.withSqc_cdu, State.stepSequence_eq]
    simp only [State.buildClear_frame, State.record_frame, State.stepTimed, State.withSqc_cdu]
    exact State.onlyIf_coils (State.enterSeq_coils _ _)

theorem State.changeReserve_coils (s : State) (new : Reserve) : (s.changeReserve new).cdu.coils = s.cdu.coils := by
  rw [State.changeReserve_eq]
  simp only [State.settleTransmitter_frame, State.followReserve_frame]
  rw [State.refreshCharge_coils, s.reserveMoved_state]
  rfl

theorem State.deliverBattery_coils (s : State) (v : Nat) (i temperature : Int) :
    (s.deliverBattery v i temperature).cdu.coils = s.cdu.coils := by
  simp only [State.deliverBattery_eq, State.watchTaper_frame, State.watchLowVoltage_frame]
  refine (State.onlyIf_coils (State.changeReserve_coils _ _)).trans ?_
  rw [s.batteryRead_eq]

/-! ### Orders (R27, R55, R59) -/

/-- Neither of the SQC's states that take an order. -/
def State.refuses (s : State) : Prop := s.sqc.takes = false ∧ s.takesLockout = false

/-- A trip pulse in progress that serves a request. -/
def Cdu.serving (c : Cdu) : Prop := c.pulse = .trip ∧ (c.tripRequest = .first ∨ c.tripRequest = .retrip)

/-- A trip order that finds its pulse in progress serves the new trip with it (R55). -/
theorem State.cduTripOrder_serving {s : State} (serving : s.cdu.serving) :
    s.cduTripOrder = s.withCdu fun c => { c with withdrawn := false } := by
  obtain ⟨pulse, request⟩ := serving
  have unfreed : s.preempt = s := by rw [State.preempt, pulse]; rfl
  unfold State.cduTripOrder
  rw [unfreed]
  dsimp only
  rcases request with request | request <;> rw [request]

theorem State.raiseOrder_coils {s : State} (safe : s.refuses ∨ s.cdu.serving) (o : TripOrder) :
    (s.raiseOrder o).cdu.coils = s.cdu.coils := by
  by_cases takes : s.sqc.takes = true ∨ s.takesLockout = true
  · have serving : s.cdu.serving := by
      refine safe.resolve_left fun refuses => ?_
      rcases takes with taken | taken
      · exact absurd taken (by rw [refuses.1]; decide)
      · exact absurd taken (by rw [refuses.2]; decide)
    have began (u : State) (trip : CurrentTrip) (same : u.cdu = s.cdu) : (u.beginTrip trip).cdu.coils = s.cdu.coils := by
      have cdu : (u.tripping trip).cdu = s.cdu := by
        rw [State.tripping, State.withSqc_cdu, State.enterSeq_tripping_cdu, same]
      rw [State.beginTrip_cdu, State.cduTripOrder_serving (by rw [cdu]; exact serving), State.withCdu_cdu, cdu]
      rfl
    rw [State.raiseOrder_taken takes]
    exact began _ _ rfl
  · simp only [not_or, Bool.not_eq_true] at takes
    rw [State.raiseOrder_refused takes.1 takes.2]
    rfl

/-- A frame step leaves the coils where it raises no order, or where none is taken or a pulse serves one already. -/
theorem State.frameStep_coils {s : State} {f : MeasFields} (safe : (s.stepNamed f).anySet = false ∨ s.refuses ∨ s.cdu.serving) :
    (s.frameStep f).cdu.coils = s.cdu.coils := by
  obtain ⟨takes, lockout, -⟩ := s.noticed_takes f (s.stepOrder f)
  obtain ⟨-, -, cdu, -⟩ := s.noticed_keeps f
  have ordered : (s.ordered f).cdu.coils = s.cdu.coils := by
    by_cases named : (s.stepNamed f).anySet = true
    · rw [State.ordered_named named, State.raiseOrder_coils _ _, cdu]
      rw [State.refuses, takes, lockout, cdu]
      exact safe.resolve_left (by simp [named])
    · rw [State.ordered_unnamed (by simpa using named), cdu]
  rw [State.frameStep_eq]
  split
  · rw [State.sqcEpisodeEnd_coils, ordered]
  · exact ordered

/-- A delivery beside the voltages leaves the coils, with no record waiting and no order to take. -/
theorem State.deliver_coils {s : State} (queue : s.chc.queue = []) (f : MeasFields) (closing : Bool) {d : Delivery} (cdu : d ≠ .cdu)
    (safe : d = .ocu → (s.stepNamed f).anySet = false ∨ s.refuses ∨ s.cdu.serving) :
    (s.deliver f closing d).cdu.coils = s.cdu.coils := by
  cases d with
  | ocu => exact State.frameStep_coils (safe rfl)
  | cdu => exact absurd rfl cdu
  | btu => exact s.deliverBattery_coils _ _ _
  | sqc => rfl
  | lfsr => rfl
  | take => simp [State.deliver, State.takeHead, queue]
  | test => simp [State.deliver]

/-! ### The sequence beside them -/

/-- A state that waits for no energy and takes no step: LOCKOUT, BREAKER_FAIL and a CLOSING whose pulse has begun are such. -/
structure State.Holds (s : State) : Prop where
  unclosed : s.sqc.seq.isClosed = false
  served : ¬s.sqc.awaitsEnergy
  queue : s.chc.queue = []

theorem Sqc.reserveLocks_of_served {q : Sqc} (served : ¬q.awaitsEnergy) (new : Reserve) : reserveLocks q new = none := by
  rw [reserveLocks, if_neg fun waits => served (.inl waits.2), if_neg fun waits => served (.inr waits.2)]

/-- The SQC but for the source voltage and the memory. -/
def Sqc.course (q : Sqc) : Sqc := { q with sourcePresent := false, memory := none }

theorem State.frameStep_course {s : State} {f : MeasFields} (unclosed : s.sqc.seq.isClosed = false)
    (safe : (s.stepNamed f).anySet = false ∨ s.refuses) : (s.frameStep f).sqc.course = s.sqc.course := by
  obtain ⟨takes, lockout, -⟩ := s.noticed_takes f (s.stepOrder f)
  obtain ⟨⟨memory, sqc⟩, -⟩ := s.noticed_keeps f
  have ordered : (s.ordered f).sqc = (s.noticed f).sqc := by
    by_cases named : (s.stepNamed f).anySet = true
    · obtain ⟨refuses, refuses'⟩ := safe.resolve_left (by simp [named])
      rw [State.ordered_named named, State.raiseOrder_refused (by rw [takes, refuses]) (by rw [lockout, refuses'])]
      rfl
    · rw [State.ordered_unnamed (by simpa using named)]
  have course : (s.ordered f).sqc.course = s.sqc.course := by rw [ordered, sqc]; rfl
  rw [State.frameStep_eq]
  split
  · rw [State.sqcEpisodeEnd_stands]
    · exact course
    · right
      have seq : (s.ordered f).sqc.seq.isClosed = false := by rw [ordered, sqc]; exact unclosed
      simp [State.stepsAt, seq]
  · exact course

theorem State.Holds.deliver {s : State} (holds : s.Holds) (f : MeasFields) (closing : Bool) {d : Delivery} (cdu : d ≠ .cdu)
    (safe : d = .ocu → (s.stepNamed f).anySet = false ∨ s.refuses) : (s.deliver f closing d).sqc.course = s.sqc.course := by
  cases d with
  | ocu => exact State.frameStep_course holds.unclosed (safe rfl)
  | cdu => exact absurd rfl cdu
  | btu =>
    simp only [State.deliver, State.deliverBattery_eq, State.watchTaper_frame, State.watchLowVoltage_frame]
    have read := s.batteryRead_eq f.battV f.battI f.temperature
    unfold State.judgeBattery State.onlyIf
    dsimp only
    split
    · rw [State.changeReserve_sqc, read, Sqc.reserveLocks_of_served (by exact holds.served)]
      rfl
    · rw [read]
  | sqc => rfl
  | lfsr => rfl
  | take => simp [State.deliver, State.takeHead, holds.queue]
  | test => simp [State.deliver]

theorem State.Holds.of_course {s t : State} (holds : s.Holds) (course : t.sqc.course = s.sqc.course) (queue : t.chc.queue = []) :
    t.Holds := by
  have seq : t.sqc.seq = s.sqc.seq := (congrArg Sqc.seq course :)
  have begun : t.sqc.closeBegun = s.sqc.closeBegun := (congrArg Sqc.closeBegun course :)
  refine ⟨by rw [seq]; exact holds.unclosed, ?_, queue⟩
  rw [Sqc.awaitsEnergy, seq, begun]
  exact holds.served

/-! ### All the deliveries beside the voltages -/

section

variable {s : State} (f : MeasFields) (closing : Bool) {order : List Delivery} (others : .cdu ∉ order)

include others

/-- A trip pulse in progress that serves a request runs on. -/
theorem State.delivered_serving (queue : s.chc.queue = []) (serving : s.cdu.serving) :
    (s.delivered f closing order).cdu.coils = s.cdu.coils := by
  refine (State.delivered_invariant (p := fun u => u.chc.queue = [] ∧ u.cdu.coils = s.cdu.coils) (fun d member u hu => ?_)
    ⟨queue, rfl⟩).2
  obtain ⟨empty, coils⟩ := hu
  have pulse : u.cdu.pulse = s.cdu.pulse := (congrArg Cdu.pulse coils :)
  have request : u.cdu.tripRequest = s.cdu.tripRequest := (congrArg Cdu.tripRequest coils :)
  refine ⟨State.deliver_empty empty f closing d, (State.deliver_coils empty f closing (fun e => others (e ▸ member)) fun _ => ?_).trans coils⟩
  refine .inr (.inr ?_)
  rw [Cdu.serving, pulse, request]
  exact serving

/-- BREAKER_FAIL takes no order, so the coils stand. -/
theorem State.delivered_breakerFail (queue : s.chc.queue = []) (seq : s.sqc.seq = .breakerFail) :
    (s.delivered f closing order).cdu.coils = s.cdu.coils := by
  have holds : s.Holds := ⟨by rw [seq]; rfl, by simp [Sqc.awaitsEnergy, seq], queue⟩
  refine (State.delivered_invariant
    (p := fun u => (u.Holds ∧ u.sqc.course = s.sqc.course) ∧ u.cdu.coils = s.cdu.coils) (fun d member u hu => ?_) ⟨⟨holds, rfl⟩, rfl⟩).2
  obtain ⟨⟨holds', course⟩, coils⟩ := hu
  have seq' : u.sqc.seq = .breakerFail := (congrArg Sqc.seq course).trans seq
  have refuses : u.refuses := ⟨by simp [Sqc.takes, seq'], by simp [State.takesLockout, seq']⟩
  have apart : d ≠ .cdu := fun e => others (e ▸ member)
  have next := holds'.deliver f closing apart fun _ => .inr refuses
  exact ⟨⟨holds'.of_course next (State.deliver_empty holds'.queue f closing d), next.trans course⟩,
    (State.deliver_coils holds'.queue f closing apart fun _ => .inr (.inl refuses)).trans coils⟩

/-- In a frame under dropout the sequence that waits for nothing stands, and the coils with it. -/
theorem State.Holds.delivered (holds : s.Holds) (phase : s.ocu.phase.releaseDue = false) (ground : s.ocu.ground.releaseDue = false)
    (high : ∀ q ∈ [s.cfg.instPh, s.cfg.instGd, s.cfg.tagInst], q = 0 ∨ 512 ≤ q)
    (low : ∀ x ∈ s.cfg.currents f, x.1 * 256 / x.2 < 243) :
    (s.delivered f closing order).sqc.course = s.sqc.course ∧ (s.delivered f closing order).cdu.coils = s.cdu.coils := by
  refine (State.delivered_invariant
    (p := fun u => (u.Holds ∧ u.cfg = s.cfg ∧ u.ocu.phase.releaseDue = false ∧ u.ocu.ground.releaseDue = false) ∧
      u.sqc.course = s.sqc.course ∧ u.cdu.coils = s.cdu.coils) (fun d member u hu => ?_) ⟨⟨holds, rfl, phase, ground⟩, rfl, rfl⟩).2
  obtain ⟨⟨holds', cfg, phase', ground'⟩, course, coils⟩ := hu
  have apart : d ≠ .cdu := fun e => others (e ▸ member)
  have unnamed : (u.stepNamed f).anySet = false :=
    (State.falls_of_unreleased phase' ground' (by rw [cfg]; exact high) (.inl (by rw [cfg]; exact low))).unnamed
  have next := holds'.deliver f closing apart fun _ => .inl unnamed
  refine ⟨⟨holds'.of_course next (State.deliver_empty holds'.queue f closing d), ?_, ?_⟩, next.trans course,
    (State.deliver_coils holds'.queue f closing apart fun _ => .inl unnamed).trans coils⟩
  · exact .trans (State.delivered_cfg u f closing [d]) cfg
  · by_cases ocu : d = .ocu
    · subst ocu
      exact u.frameStep_releaseDue f
    · rw [(State.Bypasses.deliver holds'.queue f closing ocu).ocu]
      exact ⟨phase', ground'⟩

end

end Sys2Proof.Machine
end

section
/-! SUPPORT. A capacitor that becomes ready at the voltages of a frame, and what its report brings (R31, R34, R41, R50, R55, R57, R59). -/

namespace Sys2Proof.Machine

/-! ### The trip capacitor (R31, R55, R57) -/

/-- What the trip capacitor's report serves: a waiting request, a retrip, and in BREAKER_FAIL an attempt. -/
def State.serves (s : State) (request : TripRequest) : Prop :=
  (s.cdu.tripRequest = .wait ∧ request = .first) ∨ (s.cdu.tripRequest = .retripWait ∧ request = .retrip) ∨
    (s.cdu.tripRequest = .none ∧ s.sqc.seq = .breakerFail ∧ request = .attempt)

theorem State.tripReadyReport_serves {s : State} {request : TripRequest} (serves : s.serves request) (pulse : s.cdu.pulse = .none)
    (ready : s.cdu.tripReady = true) : s.tripReadyReport = s.beginTripPulse request := by
  unfold State.tripReadyReport
  rcases serves with ⟨waits, rfl⟩ | ⟨waits, rfl⟩ | ⟨none, seq, rfl⟩
  · rw [waits]
  · rw [waits]
  · have orders : (s.cdu.tripRequest == .none && s.noPulse && s.cdu.tripReady) = true := by
      simp [none, State.noPulse, pulse, ready]
    rw [none]
    dsimp only
    rw [seq, show (SeqState.breakerFail == SeqState.breakerFail) = true from rfl, State.onlyIf_true, State.cduAttemptOrder, orders,
      State.onlyIf_true]

/-- The voltages that make the trip capacitor ready begin the pulse of what it serves. -/
theorem State.deliverVoltages_serves {s : State} {request : TripRequest} (serves : s.serves request) (pulse : s.cdu.pulse = .none)
    (unready : s.cdu.tripReady = false) (unspent : s.cdu.tripSpent = false ∨ s.cdu.tripWindow = none) {tripV : Nat} (level : 240 ≤ tripV)
    (closeV : Nat) (closing : Bool) :
    s.deliverVoltages tripV closeV closing =
      ((s.voltagesRead tripV closeV closing).withCdu fun c => { c with tripOwed := false }).beginTripPulse request := by
  have spent : (s.cdu.tripSpent && s.cdu.tripWindow.isSome) = false := by
    rcases unspent with spent | window
    · simp [spent]
    · simp [window]
  have ready : (s.voltagesRead tripV closeV closing).cdu.tripReady = true := by
    show (decide (240 ≤ tripV) && !(s.cdu.tripSpent && s.cdu.tripWindow.isSome)) = true
    simp [level, spent]
  have owed : (s.voltagesRead tripV closeV closing).cdu.tripOwed = true := by
    show ((s.voltagesRead tripV closeV closing).cdu.tripReady && (s.cdu.tripOwed || !s.cdu.tripReady)) = true
    rw [ready, unready]
    simp
  have idle : (s.voltagesRead tripV closeV closing).noPulse = true := (State.noPulse_iff _).mpr pulse
  have handed : (s.voltagesRead tripV closeV closing).tripHanded =
      ((s.voltagesRead tripV closeV closing).withCdu fun c => { c with tripOwed := false }).beginTripPulse request := by
    rw [State.tripHanded, owed, idle, if_pos (by rfl)]
    exact State.tripReadyReport_serves serves pulse ready
  rw [State.deliverVoltages_eq, State.handReports_eq, handed, if_neg]
  · rw [show (State.beginTripPulse _ request).noPulse = false from rfl, Bool.and_false]
    decide

/-! ### The close capacitor (R34, R41) -/

/-- The station as the close capacitor's report finds it: ready, the trip's report handed. -/
structure State.CloseReady (s u : State) : Prop where
  pulse : u.cdu.pulse = .none
  ready : u.cdu.closeReady = true
  sqc : u.sqc = s.sqc
  tgu : u.tgu = s.tgu
  mfp : u.mfp = s.mfp
  btu : u.btu = s.btu
  svp : u.svp = s.svp

/-- Outside BREAKER_FAIL the trip capacitor's report finds nothing to do with no request. -/
theorem State.tripReadyReport_unserved {s : State} (request : s.cdu.tripRequest = .none) (seq : s.sqc.seq ≠ .breakerFail) :
    s.tripReadyReport = s := by
  unfold State.tripReadyReport
  rw [request]
  dsimp only
  rw [show (s.sqc.seq == .breakerFail) = false by simpa using seq, State.onlyIf_false]

/-- The voltages that make the close capacitor ready, where no trip request waits and no attempt is due. -/
theorem State.deliverVoltages_closeReady {s : State} (pulse : s.cdu.pulse = .none) (request : s.cdu.tripRequest = .none)
    (seq : s.sqc.seq ≠ .breakerFail) (unready : s.cdu.closeReady = false) {closeV : Nat} (level : 360 ≤ closeV) (tripV : Nat) :
    ∃ u, s.CloseReady u ∧ s.deliverVoltages tripV closeV false = u.closeReadyReport := by
  have spent : (s.cdu.closeSpent && (false || s.cdu.pulse == .close)) = false := by rw [pulse]; exact Bool.and_false _
  have ready : (s.voltagesRead tripV closeV false).cdu.closeReady = true := by
    show (decide (360 ≤ closeV) && !(s.cdu.closeSpent && (false || s.cdu.pulse == .close))) = true
    rw [spent, decide_eq_true level]
    rfl
  have owed : (s.voltagesRead tripV closeV false).cdu.closeOwed = true := by
    show ((s.voltagesRead tripV closeV false).cdu.closeReady && (s.cdu.closeOwed || !s.cdu.closeReady)) = true
    rw [ready, unready]
    simp
  have handed : ∃ tripOwed, (s.voltagesRead tripV closeV false).tripHanded =
      (s.voltagesRead tripV closeV false).withCdu fun c => { c with tripOwed := tripOwed } := by
    unfold State.tripHanded
    split
    · exact ⟨false, State.tripReadyReport_unserved (by exact request) (by exact seq)⟩
    · exact ⟨(s.voltagesRead tripV closeV false).cdu.tripOwed, rfl⟩
  obtain ⟨tripOwed, handed⟩ := handed
  refine ⟨((s.voltagesRead tripV closeV false).withCdu fun c => { c with tripOwed := tripOwed }).withCdu fun c =>
    { c with closeOwed := false }, ⟨pulse, ready, rfl, rfl, rfl, rfl, rfl⟩, ?_⟩
  rw [State.deliverVoltages_eq, State.handReports_eq, handed, if_pos]
  rw [Bool.and_eq_true]
  exact ⟨owed, (State.noPulse_iff _).mpr pulse⟩

/-- The refusals of the close gate with the contactor closed. -/
theorem State.gateRefuses_attached {s : State} (attached : s.btu.reserve ≠ .disconnect) :
    s.gateRefuses =
      if s.tgu.handleDown = true then some .handle
      else if s.tagInForce = true then some .tagged
      else if s.mfp.lost = true then some .measurement
      else if s.btu.reserve = .critical then some .battery
      else if s.sqc.startHold ≠ none then some .startHold
      else none := by
  have holds : s.reserveHolds = false ↔ s.btu.reserve = .critical := by
    rw [← Bool.not_eq_true, State.reserveHolds_iff]
    simp [attached]
  unfold State.gateRefuses
  simp only [holds]

/-- The rows of the gate that come before its reserve state (R33). -/
theorem State.gateRefuses_before {s : State} {reason : LockReason}
    (refuses : (if s.tgu.handleDown = true then some LockReason.handle
      else if s.tagInForce = true then some .tagged
      else if s.mfp.lost = true then some .measurement
      else none) = some reason) : s.gateRefuses = some reason := by
  unfold State.gateRefuses
  split_ifs at refuses ⊢ <;> exact refuses

end Sys2Proof.Machine
end

section
/-! SUPPORT. The close capacitor's report at a frame, through the deliveries that follow it. -/

namespace Sys2Proof.Machine

/-- The end of a trip window with the position as the contacts give it. -/
theorem State.opened_eq (s : State) : (s.position == .opened) = (s.cdu.openMade && !s.cdu.closedMade) := by
  unfold State.position positionOf
  cases s.cdu.openMade <;> cases s.cdu.closedMade <;> rfl

section

variable {s : State}

theorem State.endTripWindow_first (request : s.cdu.tripRequest = .first) (withdrawn : s.cdu.withdrawn = false)
    (opened : (s.position == .opened) = false) :
    s.endTripWindow = s.windowOver.withCdu fun c => { c with tripRequest := .retripWait, retripWait := some 2000 } := by
  rw [State.endTripWindow, request]
  dsimp only
  rw [opened, withdrawn]
  rfl

theorem State.endTripWindow_attempt (request : s.cdu.tripRequest = .attempt) :
    s.endTripWindow = s.windowOver.endTripRequest := by
  rw [State.endTripWindow, request]
  rfl

/-- A window whose request is over, or that ends with the position Open, ends alone (log 41). -/
theorem State.endTripWindow_alone
    (ends : s.cdu.tripRequest = .none ∨
      ((s.cdu.tripRequest = .first ∨ s.cdu.tripRequest = .retrip) ∧ (s.position == .opened) = true)) :
    s.endTripWindow = s.windowOver := by
  rcases ends with request | ⟨request | request, opened⟩
  · rw [State.endTripWindow, request]
    rfl
  · rw [State.endTripWindow, request]
    dsimp only
    rw [opened, if_pos rfl]
    rfl
  · rw [State.endTripWindow, request]
    dsimp only
    rw [opened, if_pos rfl]
    rfl

/-- A mechanism failure outside TRIPPING ends the request alone (R30; log 40). -/
theorem State.mechanismFailure_elsewhere (seq : s.sqc.seq ≠ .tripping) : s.mechanismFailure = s.endTripRequest :=
  State.tripFailed_elsewhere (s := s.endTripRequest) seq

/-! ### The frame (R33, R34, R41) -/

/-- A CLOSE_CHARGE that the gate refuses locks out, with no pulse. -/
theorem State.CloseReady.refused {u : State} (h : s.CloseReady u) (seq : s.sqc.seq = .closeCharge) {reason : LockReason}
    (refuses : s.gateRefuses = some reason) :
    u.closeReadyReport.sqc.seq = .lockout ∧ u.closeReadyReport.sqc.reason = some reason ∧ u.closeReadyReport.cdu.pulse = .none := by
  have same : u.gateRefuses = some reason := by
    rw [← refuses, State.gateRefuses, State.gateRefuses, State.reserveHolds, State.reserveHolds, State.tagInForce, State.tagInForce,
      h.tgu, h.mfp, h.btu, h.sqc]
  have report : u.closeReadyReport = u.enterLockout reason := by
    rw [State.closeReadyReport, h.sqc, seq]
    exact State.closeGate_refuses same false
  obtain ⟨state, -⟩ := State.enterLockout_locksOut (s := u) (.inl (by rw [h.sqc, seq]; decide)) reason
  rw [report, state]
  exact ⟨rfl, rfl, h.pulse⟩

/-- A close pulse that the close capacitor's report has begun. -/
structure State.ClosesNow (s t : State) : Prop where
  seq : t.sqc.seq = .closing
  begun : t.sqc.closeBegun = true
  charge : t.sqc.charge = none
  pulse : t.cdu.pulse = .close
  timer : t.cdu.pulseTimer = some s.cfg.closeWidth
  window : t.cdu.closeWindow = some 200
  request : t.cdu.closeRequest = true
  spent : t.cdu.closeSpent = true
  ready : t.cdu.closeReady = false

theorem State.CloseReady.unrefused {u : State} (h : s.CloseReady u) (seq : s.sqc.seq = .closeCharge)
    (refuses : s.gateRefuses = none) : s.ClosesNow u.closeReadyReport ∧ u.closeReadyReport.sqc.closeKind = .automatic := by
  have same : u.gateRefuses = none := by
    rw [← refuses, State.gateRefuses, State.gateRefuses, State.reserveHolds, State.reserveHolds, State.tagInForce, State.tagInForce,
      h.tgu, h.mfp, h.btu, h.sqc]
  have width : u.cfg = s.cfg := by rw [State.cfg, State.cfg, h.svp]
  have report : u.closeReadyReport =
      ((u.enterSeq .closing).withSqc fun q => { q with closeKind := .automatic }).fireClose := by
    rw [State.closeReadyReport, h.sqc, seq]
    exact (State.closeGate_unrefused same false).trans (if_pos (u.closeOrderFires_iff.mpr ⟨h.ready, h.pulse⟩))
  rw [report, State.enterClosing_fires (by rw [h.sqc, seq]; decide) h.pulse h.ready]
  exact ⟨⟨rfl, rfl, rfl, rfl, by rw [← width]; rfl, rfl, rfl, rfl, rfl⟩, rfl⟩

theorem State.CloseReady.byHand {u : State} (h : s.CloseReady u) (seq : s.sqc.seq = .closing) (kind : s.sqc.closeKind = .operator)
    (begun : s.sqc.closeBegun = false) (handle : s.tgu.handleDown = false) (tag : s.tagInForce = false) :
    s.ClosesNow u.closeReadyReport := by
  have width : u.cfg = s.cfg := by rw [State.cfg, State.cfg, h.svp]
  have fires : (u.sqc.closeKind == .operator && !u.sqc.closeBegun && !u.tgu.handleDown && !u.tagInForce) = true := by
    have tag' : u.tagInForce = false := by rw [State.tagInForce, h.tgu]; exact tag
    rw [h.sqc, h.tgu, kind, begun, handle, tag']
    rfl
  have report : u.closeReadyReport = u.fireClose := by
    rw [State.closeReadyReport, h.sqc, seq]
    dsimp only
    rw [h.sqc] at fires
    rw [fires, State.onlyIf_true]
  rw [report, State.fireClose_fires h.pulse h.ready]
  exact ⟨by rw [← seq, ← h.sqc], rfl, rfl, rfl, by rw [← width]; rfl, rfl, rfl, rfl, rfl⟩

end

end Sys2Proof.Machine
/-! ### The statement -/

open Sys2Proof.Machine in
/-- Settles O22: the ends of windows and waits by the request, and the voltages' delivery first of all, whose pulse or lockout the
others leave. -/
theorem pulsesWindowsAndWaitsEnd : Obligations.PulsesWindowsAndWaitsEnd := by
  refine ⟨fun s opened on due isOpened => ?_, fun s on seq => ⟨fun due => ?_, fun due => ?_⟩,
    fun s bits bytes order on brings good pulse empty => ?_⟩
  · have position : (s.position == .opened) = opened := s.opened_eq.trans isOpened.symm
    rw [exec_tripWindowEnd on due]
    refine ⟨fun request withdrawn notOpen => ?_, fun request => ?_, fun request => ?_, fun request isOpen => ?_,
      fun request notOpen seq => ?_⟩
    · rw [State.endTripWindow_first request withdrawn (position.trans notOpen)]
      rfl
    · rw [State.endTripWindow_attempt request]
      rfl
    · rw [State.endTripWindow_alone (.inl request)]
      rfl
    · rw [State.endTripWindow_alone (.inr ⟨request, position.trans isOpen⟩)]
      rfl
    · rw [State.endTripWindow_fails (by simpa using position.trans notOpen) request,
        State.mechanismFailure_elsewhere (s := s.windowOver) seq]
      rfl
  · rw [exec_tripWaitExpiry on due, s.tripEnergyFault_eq, State.tripFailed_elsewhere (by exact seq)]
    rfl
  · rw [exec_retripWaitExpiry on due, State.mechanismFailure_elsewhere seq]
    rfl
  · obtain ⟨rest, split⟩ := deliveryOrder_cons .cdu order
    have nodup := deliveryOrder_nodup (.cdu :: order)
    rw [split] at nodup
    have others := (List.nodup_cons.mp nodup).1
    refine ⟨_, exec_goodFrame on brings good (.cdu :: order), ?_⟩
    rw [split, State.delivered_cons, pulse, show (Pulse.none == Pulse.close) = false from rfl]
    generalize measFields bytes = f
    have queue : ((s.arrival f).deliver f false .cdu).chc.queue = [] := (State.deliver_queue _ f false (by decide)).trans empty
    refine ⟨fun unready unspent level request serves => ?_, fun unready level idle phase ground high low => ?_⟩
    · have begins : (s.arrival f).deliver f false .cdu = _ := State.deliverVoltages_serves (s := s.arrival f) serves pulse unready unspent
        level f.closeV false
      have coils : (((s.arrival f).deliver f false .cdu).delivered f false rest).cdu.coils =
          ((s.arrival f).deliver f false .cdu).cdu.coils := by
        rcases serves with ⟨-, first⟩ | ⟨-, retrip⟩ | ⟨-, seq, -⟩
        · exact State.delivered_serving f false others queue (by rw [begins]; exact ⟨rfl, .inl first⟩)
        · exact State.delivered_serving f false others queue (by rw [begins]; exact ⟨rfl, .inr retrip⟩)
        · exact State.delivered_breakerFail f false others queue (by rw [begins]; exact seq)
      rw [begins] at coils ⊢
      exact ⟨congrArg Cdu.pulse coils, congrArg Cdu.pulseTimer coils, congrArg Cdu.tripWindow coils, congrArg Cdu.tripRequest coils,
        congrArg Cdu.tripWait coils, congrArg Cdu.retripWait coils, congrArg Cdu.tripSpent coils, congrArg Cdu.tripReady coils⟩
    · have ready (left : s.sqc.seq ≠ .breakerFail) : ∃ u, (s.arrival f).CloseReady u ∧
          (s.arrival f).deliver f false .cdu = u.closeReadyReport :=
        State.deliverVoltages_closeReady (s := s.arrival f) pulse idle left unready level f.tripV
      have ocu : ((s.arrival f).deliver f false .cdu).ocu = s.ocu :=
        (State.Bypasses.deliver (s := s.arrival f) empty f false (by decide)).ocu
      have cfg : ((s.arrival f).deliver f false .cdu).cfg = s.cfg := State.delivered_cfg (s.arrival f) f false [.cdu]
      have stands (unclosed : ((s.arrival f).deliver f false .cdu).sqc.seq.isClosed = false)
          (served : ¬((s.arrival f).deliver f false .cdu).sqc.awaitsEnergy) :=
        State.Holds.delivered f false others ⟨unclosed, served, queue⟩ (by rw [ocu]; exact phase) (by rw [ocu]; exact ground)
          (by rw [cfg]; exact high) (by rw [cfg]; exact low)
      generalize (s.arrival f).deliver f false .cdu = u at *
      have closes (closing : (s.arrival f).ClosesNow u) :
          (s.arrival f).ClosesNow (u.delivered f false rest) ∧
            (u.delivered f false rest).sqc.closeKind = u.sqc.closeKind := by
        obtain ⟨seq, begun, charge, pulse, timer, window, request, spent, unready⟩ := closing
        obtain ⟨course, coils⟩ := stands (by rw [seq]; rfl) (by simp [Sqc.awaitsEnergy, seq, begun])
        exact ⟨⟨(congrArg Sqc.seq course).trans seq, (congrArg Sqc.closeBegun course).trans begun,
          (congrArg Sqc.charge course).trans charge, (congrArg Cdu.pulse coils).trans pulse,
          (congrArg Cdu.pulseTimer coils).trans timer, (congrArg Cdu.closeWindow coils).trans window,
          (congrArg Cdu.closeRequest coils).trans request, (congrArg Cdu.closeSpent coils).trans spent,
          (congrArg Cdu.closeReady coils).trans unready⟩, (congrArg Sqc.closeKind course :)⟩
      refine ⟨fun seq refused isRefused => ⟨fun reason isReason held => ?_, fun none attached => ?_⟩,
        fun seq kind begun handle tag => ?_⟩
      · have refuses : s.gateRefuses = some reason := by
          by_cases attached : s.btu.reserve = .disconnect
          · refine State.gateRefuses_before ?_
            rw [isRefused, attached, if_neg (c := Reserve.disconnect = .critical) (by decide)] at isReason
            split_ifs at isReason ⊢
            · exact isReason
            · exact isReason
            · exact isReason
            · exact absurd attached (held (Option.some.inj isReason).symm)
          · rw [State.gateRefuses_attached attached, ← isRefused, isReason]
        obtain ⟨v, h, rfl⟩ := ready (by rw [seq]; decide)
        obtain ⟨locked, why, still⟩ := h.refused seq refuses
        obtain ⟨course, coils⟩ := stands (by rw [locked]; rfl) (by simp [Sqc.awaitsEnergy, locked])
        exact ⟨(congrArg Sqc.seq course).trans locked, (congrArg Sqc.reason course).trans why, (congrArg Cdu.pulse coils).trans still⟩
      · have refuses : s.gateRefuses = Option.none := by rw [State.gateRefuses_attached attached, ← isRefused, none]
        obtain ⟨v, h, rfl⟩ := ready (by rw [seq]; decide)
        obtain ⟨closing, kind⟩ := h.unrefused seq refuses
        obtain ⟨⟨seq, begun, charge, pulse, timer, window, request, spent, unready⟩, kind'⟩ := closes closing
        exact ⟨seq, kind'.trans kind, begun, charge, pulse, timer, window, request, spent, unready⟩
      · obtain ⟨v, h, rfl⟩ := ready (by rw [seq]; decide)
        obtain ⟨⟨seq, begun, charge, pulse, timer, window, request, spent, unready⟩, -⟩ :=
          closes (h.byHand seq kind begun handle tag)
        exact ⟨seq, begun, charge, pulse, timer, window, request, spent, unready⟩

end

section
/-! SUPPORT. What the operations leave of the charging: enables that are permitted, an attempt in step with its conditions, and
readiness that no spent capacitor has. Whatever moves a permission has the enables follow at once, so a station whose charging is
sound stays sound (R50 to R54). -/

namespace Sys2Proof.Machine

/-! ### What the charging reads -/

/-- The capacitors with their enables and the attempt, and what of the CDU permits them to charge (R50 to R52). -/
def Cdu.chargePart (c : Cdu) : (Nat × Bool × Bool) × (Nat × Bool × Bool) × (Bool × Bool × Timer) × Bool × Pulse :=
  ((c.tripV, c.tripReady, c.tripSpent), (c.closeV, c.closeReady, c.closeSpent), (c.tcen, c.ccen, c.closeCharge), c.closeBarred,
    c.pulse)

/-- What the soundness of the charging looks at. -/
def State.chargeView (s : State) := (s.cdu.chargePart, s.mfp.stalled, s.btu.reserve)

/-- A capacitor that is ready is not spent, and stands at its level (R50). -/
structure Cdu.ReadySound (c : Cdu) : Prop where
  trip : c.tripReady = true → c.tripSpent = false ∧ 240 ≤ c.tripV
  close : c.closeReady = true → c.closeSpent = false ∧ 360 ≤ c.closeV

theorem State.ChargeSound.ready {s : State} (h : s.ChargeSound) : s.cdu.ReadySound := ⟨h.tripReady, h.closeReady⟩

theorem chargeEnable_permitted {permitted was : Bool} {v resume stop : Nat} (on : chargeEnable permitted was v resume stop = true) :
    permitted = true := by
  rw [chargeEnable, Bool.and_eq_true] at on
  exact on.1

/-- Enables that have just followed the permissions are sound, whatever they were (R51, R52). -/
theorem State.refreshCharge_sound {s : State} (ready : s.cdu.ReadySound) : s.refreshCharge.ChargeSound where
  trip := chargeEnable_permitted
  close := chargeEnable_permitted
  attempt := by
    have timer : s.refreshCharge.cdu.closeCharge =
        if s.refreshCharge.cdu.ccen && decide (s.refreshCharge.cdu.closeV < 360) then some (s.cdu.closeCharge.getD 20000)
        else none := rfl
    rw [timer]
    cases s.refreshCharge.cdu.ccen && decide (s.refreshCharge.cdu.closeV < 360) <;> rfl
  tripReady := ready.trip
  closeReady := ready.close

namespace State.ChargeSound

section

variable {s t : State} (h : s.ChargeSound)

include h

/-- An operation beside everything that the charging looks at. -/
theorem keep (view : t.chargeView = s.chargeView) : t.ChargeSound := by
  simp only [State.chargeView, Cdu.chargePart, Prod.mk.injEq] at view
  obtain ⟨⟨⟨tripV, tripReady, tripSpent⟩, ⟨closeV, closeReady, closeSpent⟩, ⟨tcen, ccen, attempt⟩, barred, pulse⟩, stalled,
    reserve⟩ := view
  have trips : t.tripChargePermitted = s.tripChargePermitted := by
    rw [State.tripChargePermitted, pulse, stalled, reserve, State.tripChargePermitted]
  have closes : t.closeChargePermitted = s.closeChargePermitted := by
    rw [State.closeChargePermitted, State.reserveHolds, pulse, stalled, reserve, barred, State.closeChargePermitted,
      State.reserveHolds]
  constructor
  · rw [tcen, trips]
    exact h.trip
  · rw [ccen, closes]
    exact h.close
  · rw [attempt, ccen, closeV]
    exact h.attempt
  · rw [tripReady, tripSpent, tripV]
    exact h.tripReady
  · rw [closeReady, closeSpent, closeV]
    exact h.closeReady

/-- A hand-off that leaves the CDU, and with it the reserve state. -/
theorem handed (reaches : s.Reaches false t) (cdu : t.cdu = s.cdu) : t.ChargeSound :=
  h.keep (by rw [State.chargeView, cdu, reaches.mfp, reaches.reserve rfl, State.chargeView])

theorem onlyIf {c : Bool} {f : State → State} (hf : c = true → (f s).ChargeSound) : (s.onlyIf c f).ChargeSound := by
  cases c with
  | false => exact h
  | true => exact hf rfl

theorem whenStarted {f : State → State} (hf : (f s).ChargeSound) : (s.whenStarted f).ChargeSound := by
  unfold State.whenStarted
  split
  · exact hf
  · exact h

theorem withSqc {f : Sqc → Sqc} : (s.withSqc f).ChargeSound := h.keep rfl

theorem withOcu {f : Ocu → Ocu} : (s.withOcu f).ChargeSound := h.keep rfl

theorem withPru {f : Pru → Pru} : (s.withPru f).ChargeSound := h.keep rfl

theorem withCdu {f : Cdu → Cdu} (same : (f s.cdu).chargePart = s.cdu.chargePart) : (s.withCdu f).ChargeSound :=
  h.keep (by rw [State.chargeView, State.withCdu_cdu, same]; rfl)

theorem withBtu {f : Btu → Btu} (reserve : (f s.btu).reserve = s.btu.reserve) : (s.withBtu f).ChargeSound :=
  h.keep (by rw [State.chargeView, State.withBtu_btu, reserve]; rfl)

theorem record (body : RecordBody) : (s.record body).ChargeSound := h.keep rfl

theorem buildReport (kind : ReportKind) (payload : List Byte) : (s.buildReport kind payload).ChargeSound :=
  h.keep (by simp [State.chargeView])

theorem setCharger (mode : Charger) : (s.setCharger mode).ChargeSound :=
  h.keep (by simp [State.chargeView, State.setCharger_reserve])

theorem handleResult (result : TestResult) (resistance : Option Nat) (cause : Option AbandonCause) :
    (s.handleResult result resistance cause).ChargeSound := by
  unfold State.handleResult
  dsimp only
  exact onlyIf ((h.record _).withBtu (by rfl)) fun _ => ((h.record _).withBtu (by rfl)).setCharger _

theorem abandonTest (cause : AbandonCause) : (s.abandonTest cause).ChargeSound := h.onlyIf fun _ => h.handleResult _ _ _

/-! ### The coils (R50 to R61) -/

theorem endTripRequest : s.endTripRequest.ChargeSound := h.withCdu rfl

theorem withdrawTrip : s.withdrawTrip.ChargeSound := by
  unfold State.withdrawTrip
  split
  · exact h
  · exact h.endTripRequest
  · exact h.endTripRequest
  · exact h.withCdu rfl

/-- A pulse spends its capacitor, which is then not ready (R50). -/
theorem beginTripPulse (request : TripRequest) : (s.beginTripPulse request).ChargeSound :=
  State.refreshCharge_sound ⟨nofun, h.closeReady⟩

theorem beginClosePulse : s.beginClosePulse.ChargeSound := State.refreshCharge_sound ⟨h.tripReady, nofun⟩

theorem endPulse : s.endPulse.ChargeSound := State.refreshCharge_sound ⟨h.tripReady, h.closeReady⟩

theorem preempt : s.preempt.ChargeSound := h.onlyIf fun _ => (h.withCdu rfl).endPulse.record _

theorem cduTripOrder : s.cduTripOrder.ChargeSound := by
  unfold State.cduTripOrder
  dsimp only
  repeat' split
  · exact (h.preempt.withCdu rfl).beginTripPulse _
  · exact (h.preempt.withCdu rfl).withCdu rfl
  · exact h.preempt.withCdu rfl
  · exact h.preempt.withCdu rfl

theorem cduAttemptOrder : s.cduAttemptOrder.ChargeSound := h.onlyIf fun _ => h.beginTripPulse _

/-! ### Entries to a sequence state (R25, R38, R53) -/

/-- A bar that an entry lifts has the enables follow (R53). -/
theorem enterSeq (new : SeqState) : (s.enterSeq new).ChargeSound := by
  have entering : (s.entering new).ChargeSound := by
    have moved : (s.withSqc fun q => q.enter new).ChargeSound := h.withSqc
    have marked : ((s.withSqc fun q => q.enter new).onlyIf new.isClosed fun m => m.withOcu fun o =>
        { o with phase := { o.phase with ownOrder := false }, ground := { o.ground with ownOrder := false } }).ChargeSound :=
      moved.onlyIf fun _ => moved.withOcu
    exact marked.onlyIf fun _ => State.refreshCharge_sound ⟨marked.tripReady, marked.closeReady⟩
  rw [State.enterSeq_eq]
  exact entering.onlyIf fun _ => entering.abandonTest _

theorem enterLockout (reason : LockReason) : (s.enterLockout reason).ChargeSound :=
  (((h.enterSeq .lockout).withSqc).record _).buildReport _ _

/-! ### Trips (R26 to R31) -/

theorem beginTrip (trip : CurrentTrip) : (s.beginTrip trip).ChargeSound :=
  ((((h.enterSeq .tripping).withSqc).cduTripOrder).buildReport _ _).record _

theorem takeTrip (o : TripOrder) : (s.takeTrip o).ChargeSound := (h.withSqc).beginTrip _

theorem sqcTripOrder (o : TripOrder) : (s.sqcTripOrder o).ChargeSound := by
  unfold State.sqcTripOrder
  split
  · exact h.takeTrip o
  · exact h.takeTrip o
  · split
    · exact h.takeTrip o
    · exact h
  · split
    · exact h.beginTrip _
    · exact h
  all_goals exact h

theorem sqcTripConfirm : s.sqcTripConfirm.ChargeSound := by
  unfold State.sqcTripConfirm
  split
  · split
    · exact h.enterLockout _
    · split
      · exact h.enterLockout _
      · exact (h.enterSeq _).withSqc
  · exact h.enterLockout _
  · exact h

theorem tripFailed : s.tripFailed.ChargeSound := by
  refine h.onlyIf fun _ => ?_
  have moved : ((s.enterSeq .breakerFail).withSqc fun q => { q with reason := some .mechanism }).ChargeSound :=
    (h.enterSeq _).withSqc
  cases s.sqc.trip with
  | some trip => exact ((moved.buildReport _ _).buildReport _ _).record _
  | none => exact (moved.buildReport _ _).record _

/-! ### Closes (R33 to R35, R41, R60) -/

theorem closeFailure : s.closeFailure.ChargeSound := h.onlyIf fun _ => h.enterLockout _

theorem fireClose : s.fireClose.ChargeSound := by
  unfold State.fireClose
  dsimp only
  split
  · exact h.withSqc.beginClosePulse
  · exact h.withSqc.closeFailure

theorem closeGate (wait : Bool) : (s.closeGate wait).ChargeSound := by
  unfold State.closeGate
  repeat' split
  · exact h.enterLockout _
  · exact h.enterLockout _
  · exact h.enterLockout _
  · exact h.enterLockout _
  · exact h.enterLockout _
  · exact ((h.enterSeq _).withSqc).fireClose
  · exact (h.enterSeq _).withSqc
  · exact h

theorem readyByHand : s.readyByHand.ChargeSound := ((h.enterSeq _).withSqc).record _

theorem closeConfirm : s.closeConfirm.ChargeSound := by
  refine h.onlyIf fun _ => ?_
  cases s.sqc.closeKind with
  | operator => exact h.readyByHand
  | automatic =>
    dsimp only
    split <;> exact ((h.record _).enterSeq _).withSqc

/-! ### Capacitor reports, operator trip and close (R31, R34, R39 to R41, R50, R55, R57) -/

theorem tripReadyReport : s.tripReadyReport.ChargeSound := by
  unfold State.tripReadyReport
  split
  · exact h.beginTripPulse _
  · exact h.beginTripPulse _
  · exact h.onlyIf fun _ => h.cduAttemptOrder

theorem closeReadyReport : s.closeReadyReport.ChargeSound := by
  unfold State.closeReadyReport
  split
  · exact h.closeGate _
  · exact h.onlyIf fun _ => h.fireClose
  · exact h

theorem handReports : s.handReports.ChargeSound := by
  have handed : s.tripHanded.ChargeSound := by
    unfold State.tripHanded
    split
    · exact (h.withCdu rfl).tripReadyReport
    · exact h
  rw [State.handReports_eq]
  split
  · exact (handed.withCdu rfl).closeReadyReport
  · exact handed

theorem operatorTrip : s.operatorTrip.ChargeSound := by
  unfold State.operatorTrip
  repeat' split
  · exact h.beginTrip _
  · exact h.beginTrip _
  · exact h.beginTrip _
  · exact h.enterLockout _
  · exact h.beginTrip _
  · exact h
  · exact h.withSqc
  · exact h.enterLockout _
  · exact h.enterLockout _
  · exact h

theorem operatorClose : s.operatorClose.ChargeSound := by
  refine h.onlyIf fun _ => ?_
  dsimp only
  split
  · exact ((h.enterSeq _).withSqc).fireClose
  · exact ((h.enterSeq _).withSqc).withSqc

/-! ### Opens and closes the SQC did not order, and the other blocks' events (R34, R36, R41 to R44, R47, R48) -/

theorem openWithoutPulse : s.openWithoutPulse.ChargeSound := by
  unfold State.openWithoutPulse
  split
  · exact h.enterLockout _
  · exact h.enterLockout _
  · exact h.enterLockout _
  · exact h

theorem closedWithoutPulse : s.closedWithoutPulse.ChargeSound := by
  refine h.onlyIf fun _ => ?_
  repeat' split
  · exact h.readyByHand
  · exact h.withSqc
  · exact h.enterLockout _

theorem sqcTagOn : s.sqcTagOn.ChargeSound := by
  unfold State.sqcTagOn
  repeat' split
  · exact h.enterLockout _
  · exact h.enterLockout _
  · exact h
  · exact h.enterLockout _
  · exact h

theorem sqcCloseEnergyFault : s.sqcCloseEnergyFault.ChargeSound := by
  unfold State.sqcCloseEnergyFault
  repeat' split
  · exact h.enterLockout _
  · exact h
  · exact h.enterLockout _
  · exact h

theorem sqcHandleDown : s.sqcHandleDown.ChargeSound := (h.onlyIf fun _ => h.withdrawTrip).enterLockout _

theorem sqcResetExpiry : s.sqcResetExpiry.ChargeSound := by
  unfold State.sqcResetExpiry
  dsimp only
  split
  · exact ((h.enterSeq _).withSqc).buildReport _ _
  · exact (h.enterSeq _).withSqc

theorem stepSequence (elements : ElementSet) : (s.stepSequence elements).ChargeSound :=
  (((h.withSqc.onlyIf fun _ => h.withSqc.enterSeq _).withSqc).record _).buildReport _ _

theorem sqcEpisodeEnd (longestRun : Nat) (orderRaised : Bool) : (s.sqcEpisodeEnd longestRun orderRaised).ChargeSound := by
  unfold State.sqcEpisodeEnd
  dsimp only
  split
  · exact (h.onlyIf fun _ => h.stepSequence _).withSqc
  · exact h.withSqc

/-! ### Orders, holds and the frame step (R12, R16 to R22, R132 to R140) -/

theorem raiseOrder (o : TripOrder) : (s.raiseOrder o).ChargeSound := (h.withOcu).sqcTripOrder o

theorem releaseTest (k : Kind) : (s.releaseTest k).ChargeSound := by
  unfold State.releaseTest
  split
  · exact h.withOcu
  · exact h.onlyIf fun _ => h.raiseOrder _

theorem endHold (k : Kind) (cause : Reason) : (s.endHold k cause).ChargeSound := by
  unfold State.endHold
  split
  · exact h
  · exact ((h.withOcu).record _).releaseTest k

theorem endHolds (cause : Reason) : (s.endHolds cause).ChargeSound := (h.endHold .phase cause).endHold .ground cause

theorem partnerEnd (k : Kind) (sender : Nat) (cause : Reason) : (s.partnerEnd k sender cause).ChargeSound := by
  unfold State.partnerEnd
  repeat' split
  · exact h.endHold k cause
  · exact h
  · exact h

theorem partnerEnds (sender : Nat) (cause : Reason) : (s.partnerEnds sender cause).ChargeSound :=
  (h.partnerEnd .phase sender cause).partnerEnd .ground sender cause

theorem tripConfirmed (clearFirst : Bool) : (s.tripConfirmed clearFirst).ChargeSound := by
  unfold State.tripConfirmed
  split
  · exact (h.withOcu).endHolds _
  · exact (h.endHolds _).withOcu

theorem firstPickup (elements : ElementSet) (largest : Nat) : (s.firstPickup elements largest).ChargeSound :=
  ((h.onlyIf fun _ => h.buildReport _ _).withSqc).abandonTest _

theorem frameStep (f : MeasFields) : (s.frameStep f).ChargeSound := by
  have stepped : (s.stepped f).ChargeSound := h.withOcu
  have noticed : (s.noticed f).ChargeSound := by
    unfold State.noticed
    split
    · exact stepped.firstPickup _ _
    · exact stepped
  have ordered : (s.ordered f).ChargeSound := by
    unfold State.ordered
    split
    · exact noticed.raiseOrder _
    · exact noticed
  rw [State.frameStep_eq]
  split
  · exact ordered.sqcEpisodeEnd _ _
  · exact ordered

/-! ### The breaker and the reports of the windows and waits (R52, R55 to R64) -/

theorem changeToOpen (clearFirst : Bool) : (s.changeToOpen clearFirst).ChargeSound := by
  unfold State.changeToOpen
  split
  · exact (h.endTripRequest.sqcTripConfirm).tripConfirmed _
  · exact h.openWithoutPulse.onlyIf fun _ => h.openWithoutPulse.tripConfirmed _

theorem changeToClosed : s.changeToClosed.ChargeSound := by
  unfold State.changeToClosed
  split
  · exact (h.withCdu rfl).closeConfirm
  · exact h.closedWithoutPulse

theorem definiteChange (closed clearFirst : Bool) : (s.definiteChange closed clearFirst).ChargeSound := by
  unfold State.definiteChange
  split
  · exact (h.withCdu rfl).changeToClosed
  · exact (h.withCdu rfl).changeToOpen _

theorem judgePosition (before : Position) (clearFirst : Bool) : (s.judgePosition before clearFirst).ChargeSound := by
  unfold State.judgePosition
  split
  · exact h.onlyIf fun _ => h.withCdu rfl
  · exact (h.withCdu rfl).onlyIf fun _ => (h.withCdu rfl).definiteChange _ _
  · exact (h.withCdu rfl).onlyIf fun _ => (h.withCdu rfl).definiteChange _ _

theorem changeContact (contact : Contact) (made clearFirst : Bool) :
    (s.changeContact contact made clearFirst).ChargeSound := by
  have followed (pins : List InputPin) : (s.setContacts pins made).ChargeSound :=
    h.keep (by rw [State.setContacts, State.endCounts]; rfl)
  unfold State.changeContact
  exact h.onlyIf fun _ => (followed _).judgePosition _ _

theorem mechanismFailure : s.mechanismFailure.ChargeSound := h.endTripRequest.tripFailed

theorem endTripWindow : s.endTripWindow.ChargeSound := by
  have ended : (s.withCdu fun c => { c with tripWindow := none }).ChargeSound := h.withCdu rfl
  unfold State.endTripWindow
  dsimp only
  repeat' split
  · exact ended
  · exact ended.mechanismFailure
  · exact ended.withCdu rfl
  · exact ended
  · exact ended.mechanismFailure
  · exact ended.endTripRequest
  · exact ended

theorem endCloseWindow : s.endCloseWindow.ChargeSound := by
  unfold State.endCloseWindow
  dsimp only
  split
  · exact (h.withCdu rfl).closeFailure
  · exact h.withCdu rfl

theorem tripEnergyFault : s.tripEnergyFault.ChargeSound := ((h.record _).endTripRequest).tripFailed

/-- The bar that a close energy fault sets has the enables follow before the SQC acts (R52). -/
theorem closeEnergyFault : s.closeEnergyFault.ChargeSound :=
  sqcCloseEnergyFault (State.refreshCharge_sound ⟨h.tripReady, h.closeReady⟩)

/-! ### The battery (R67 to R75) -/

/-- A reserve state that changes has the enables follow, which the SQC's part before them leaves (R51, R73). -/
theorem changeReserve (new : Reserve) : (s.changeReserve new).ChargeSound := by
  have moved : (s.reserveMoved new).cdu = s.cdu := by rw [s.reserveMoved_state]; rfl
  have followed : (s.reserveMoved new).refreshCharge.ChargeSound := State.refreshCharge_sound (by rw [moved]; exact h.ready)
  rw [State.changeReserve_eq]
  exact followed.keep (by simp [State.chargeView])

theorem judgeBattery : s.judgeBattery.ChargeSound := by
  unfold State.judgeBattery
  exact h.onlyIf fun _ => h.changeReserve _

theorem releaseContactor : s.releaseContactor.ChargeSound := h.onlyIf fun _ => State.refreshCharge_sound h.ready

theorem deliverBattery (v : Nat) (i temperature : Int) : (s.deliverBattery v i temperature).ChargeSound := by
  have read : (s.batteryRead v i temperature).ChargeSound := h.keep (by rw [State.batteryRead_eq]; rfl)
  rw [State.deliverBattery_eq]
  exact read.judgeBattery.handed (State.Reaches.refl _).watchLowVoltage.watchTaper (by simp)

theorem acReturns : s.acReturns.ChargeSound := by
  refine judgeBattery ?_
  split
  · exact (h.withBtu rfl).setCharger _
  · exact (h.withBtu rfl).setCharger _

theorem acGoes : s.acGoes.ChargeSound := (((h.withBtu rfl).setCharger .off).abandonTest .acLoss).judgeBattery

theorem loadEnds : s.loadEnds.ChargeSound := by
  have taken : ({ s with free := s.free + 1 } : State).ChargeSound := h.keep rfl
  exact (taken.withBtu rfl).handleResult _ _ _

theorem startTest : s.startTest.ChargeSound := (h.withBtu rfl).setCharger .off

theorem requestTest (source : TestSource) : (s.requestTest source).ChargeSound := h.withBtu (by split <;> rfl)

theorem sendCopy : s.sendCopy.ChargeSound := by
  have sent : s.countCopy.enterKeyDown.ChargeSound := h.keep (by simp [State.chargeView])
  exact sent.onlyIf fun _ => sent.releaseContactor

/-! ### Tags, keys and the handle (R149 to R158) -/

theorem tagEvent {event : State → State} (view : (event s).chargeView = s.chargeView) : (s.tagEvent event).ChargeSound := by
  have touched : (event s).ChargeSound := h.keep view
  unfold State.tagEvent
  dsimp only
  exact touched.onlyIf fun _ => touched.sqcTagOn.endHolds _

theorem localApply (source : TagSource) (code : Word16) (slot : Option Nat) : (s.localApply source code slot).ChargeSound :=
  h.onlyIf fun _ => h.tagEvent (by simp [State.chargeView])

theorem localRemoval (own other : TagSource) (code : Word16) : (s.localRemoval own other code).ChargeSound := by
  unfold State.localRemoval
  split
  · exact h
  · exact h.tagEvent (by simp [State.chargeView])

theorem tripPress : s.tripPress.ChargeSound := by
  unfold State.tripPress
  split
  · exact h.operatorTrip
  · exact h.keep rfl

theorem closePress : s.closePress.ChargeSound := by
  unfold State.closePress
  split
  · exact h.operatorClose
  · exact h.keep rfl

theorem tagOnPress : s.tagOnPress.ChargeSound := by
  unfold State.tagOnPress
  split
  · exact h
  · next w _ => exact (h.localApply .localPanel w.code (some w.slot)).keep (by simp [State.chargeView])

theorem tagOffPress : s.tagOffPress.ChargeSound := by
  unfold State.tagOffPress
  split
  · exact h
  · next w _ => exact (h.localRemoval .localPanel .service w.code).keep (by simp [State.chargeView])

theorem handleGoesDown (btuFirst : Bool) : (s.handleGoesDown btuFirst).ChargeSound := by
  have down : (s.withTgu fun t => { t with handleDown := true }).ChargeSound := h.keep rfl
  unfold State.handleGoesDown
  dsimp only
  split
  · exact (down.abandonTest _).sqcHandleDown
  · exact down.sqcHandleDown.abandonTest _

/-- A debounced input: its edge moves nothing of the charging. -/
theorem debounce (pin : InputPin) (level : Bool) (moment : InputMoment) {change : State → State}
    (changes : ∀ {u : State}, u.ChargeSound → (change u).ChargeSound) : (s.debounce pin level moment change).ChargeSound := by
  cases moment with
  | edge => exact h.keep (by simp [State.debounce, State.chargeView])
  | held => exact onlyIf (f := fun s => change (s.endCount pin)) h fun _ => changes (h.keep rfl)

theorem keyChange (pressed : Bool) (follow : Keys → Keys) {press : State → State}
    (presses : ∀ {u : State}, u.ChargeSound → (press u).ChargeSound) : (s.keyChange pressed follow press).ChargeSound :=
  have followed : (s.withTgu fun t => { t with keys := follow t.keys }).ChargeSound := h.keep rfl
  followed.onlyIf fun _ => presses followed

/-! ### Records of peers (R122 to R130) -/

theorem handOff (r : RxRecord) (kind : ReportKind) : (s.handOff r kind).ChargeSound := by
  have partner : (s.partnerHandOff r kind).ChargeSound := by
    refine h.onlyIf fun _ => ?_
    split
    · exact h.keep (by simp [State.chargeView])
    · exact h.partnerEnds _ _
    · exact h.partnerEnds _ _
    · exact h
  refine h.onlyIf fun _ => ?_
  cases kind with
  | pickup => exact partner
  | trip => exact partner
  | clear => exact partner
  | tag => exact h.onlyIf fun _ => h.tagEvent (by simp [State.chargeView])
  | untag => exact h.tagEvent (by split <;> simp [State.chargeView])
  | beacon => exact h.tagEvent (by simp [State.chargeView])
  | lockout => exact h
  | shutdown => exact h

theorem applyRecord (r : RxRecord) : (s.applyRecord r).ChargeSound := by
  unfold State.applyRecord
  split
  · exact h.withPru
  · split
    · exact h.withPru.handOff r _
    · dsimp only
      split
      · exact h.withPru
      · exact h.withPru.handOff r _

theorem takeHead : s.takeHead.ChargeSound := by
  unfold State.takeHead
  split
  · exact h
  · next r rest _ =>
    have taken : (s.withChc fun c => { c with queue := rest }).ChargeSound := h.keep rfl
    exact taken.applyRecord r

theorem agePeer (id : Nat) (isDue : PeerEntry → Bool) (change : PeerEntry → Option PeerEntry) :
    (s.agePeer id isDue change).ChargeSound := by
  unfold State.agePeer
  repeat' split
  · exact h
  · exact h.onlyIf fun _ => h.withPru
  · exact h

/-! ### The measurement link (R1 to R8) -/

omit h in
/-- A spent mark keeps its capacitor from being ready, whatever voltage a frame brings (R50). -/
theorem deliverVoltages (tripV closeV : Nat) (closing : Bool) : (s.deliverVoltages tripV closeV closing).ChargeSound := by
  have read : (s.voltagesRead tripV closeV closing).ChargeSound := by
    refine State.refreshCharge_sound ⟨fun ready => ?_, fun ready => ?_⟩
    all_goals
      simp only [State.withCdu_cdu, Bool.and_eq_true, decide_eq_true_eq, Bool.not_eq_true'] at ready
      exact ready.symm
  rw [State.deliverVoltages_eq]
  exact read.handReports

theorem deliver (f : MeasFields) (closing : Bool) (d : Delivery) : (s.deliver f closing d).ChargeSound := by
  cases d with
  | ocu => exact h.frameStep f
  | cdu => exact deliverVoltages _ _ _
  | btu => exact h.deliverBattery _ _ _
  | sqc => exact h.keep rfl
  | lfsr => exact h.keep rfl
  | take => exact h.takeHead
  | test => exact (h.withBtu rfl).onlyIf fun _ => (h.withBtu rfl).startTest

theorem bitsToArrival (bits : List LinkBit) (order : List Delivery) : (s.bitsToArrival bits order).ChargeSound := by
  have sampled : (s.sampled bits).ChargeSound := h.keep rfl
  unfold State.bitsToArrival
  split
  · exact sampled
  · unfold State.frameArrives
    split
    · rw [State.takeGoodFrame_eq]
      exact State.delivered_invariant (fun d _ _ hu => hu.deliver _ _ d) (State.refreshCharge_sound h.ready)
    · exact sampled.keep rfl
  · exact h

/-- Stalled, which permits no charging, has the enables follow (R5, R51). -/
theorem stall : s.stall.ChargeSound := by
  cases stalled : s.mfp.stalled with
  | true =>
    rw [State.stall_again stalled]
    exact h.keep rfl
  | false =>
    rw [State.stall_first stalled]
    have frozen : (s.frozen.abandonTest .measurement).cdu = s.cdu := by simp [State.frozen]
    have followed : (s.frozen.abandonTest .measurement).refreshCharge.ChargeSound :=
      State.refreshCharge_sound (by rw [frozen]; exact h.ready)
    exact followed.keep rfl

theorem loseMeasurement : s.loseMeasurement.ChargeSound := by
  have set : (s.withMfp fun m => { m with lost := true, lostTimer := none }).ChargeSound := h.keep rfl
  unfold State.loseMeasurement
  dsimp only
  exact set.onlyIf fun _ => (set.record _).onlyIf fun _ => (set.record _).enterLockout _

/-! ### The service port (R170 to R172) -/

theorem serve (r : Request) : (s.serve r).ChargeSound := by
  cases r with
  | readStatus part => exact h.keep rfl
  | readRecordsFrom n => exact h.keep rfl
  | readPeerTable => exact h.keep rfl
  | readTagTable => exact h.keep rfl
  | operatorTrip => exact h.operatorTrip.keep rfl
  | operatorClose => exact h.operatorClose.keep rfl
  | tagApply code => exact keep (h.onlyIf fun _ => h.localApply _ _ _) rfl
  | tagRemove code =>
    unfold State.serve State.serveTagRemove
    dsimp only
    split
    · exact (h.localRemoval _ _ _).keep rfl
    · exact h.keep rfl
  | batteryTest => exact (h.requestTest .service).keep rfl
  | settingsRestart => exact h.keep (by simp [State.serve, State.chargeView])

theorem takeRequest (r : Request) : (s.takeRequest r).ChargeSound :=
  have reset : s.resetAssembly.ChargeSound := h.keep rfl
  h.onlyIf fun _ => reset.serve r

theorem assemble (rx : LineByte) : (s.assemble rx).ChargeSound := by
  have reset : s.resetAssembly.ChargeSound := h.keep rfl
  unfold State.assemble
  split
  · split
    · exact h.keep rfl
    · exact h
  · exact h
  · split <;> exact h.keep rfl
  · exact h.keep rfl
  · dsimp only
    split
    · unfold State.judgeFrame
      dsimp only
      repeat' split
      · exact h.keep rfl
      · exact reset.serve _
      · exact h.keep rfl
    · exact h.keep rfl
  · exact h.keep rfl

/-! ### The starts (R49, R66, R179 to R181) -/

theorem drawStarts (between : List LinkBit) (order : List Delivery) : (s.drawStarts between order).ChargeSound := by
  have drawn : s.drawSequence.ChargeSound := h.keep (by simp [State.chargeView])
  exact (drawn.bitsToArrival between order).keep (by simp [State.drawStarts, State.chargeView])

/-- A settings restart turns the enables off, lifts both spent marks and keeps readiness with its voltage (R66). -/
theorem restartBlocks (read : MemRead) (closedMade openMade : Bool) : (s.restartBlocks read closedMade openMade).ChargeSound :=
  ⟨nofun, nofun, rfl, fun ready => ⟨rfl, (h.tripReady ready).2⟩, fun ready => ⟨rfl, (h.closeReady ready).2⟩⟩

theorem followRead (event : ReadEvent) (closedMade openMade : Bool) : (s.followRead event closedMade openMade).ChargeSound := by
  cases event with
  | ready => exact h.keep (by simp [State.followRead, State.chargeView])
  | ended read =>
    refine onlyIf (f := fun s => s.endRead read closedMade openMade) h fun _ => ?_
    unfold State.endRead
    split
    · have setUp : (s.restartBlocks read closedMade openMade).setUpSqc.ChargeSound := (h.restartBlocks _ _ _).withSqc
      exact (setUp.drawStarts [] []).keep (by simp [State.applyRestart, State.recordStart, State.chargeView])
    · exact h.keep (by simp [State.chargeView])

end

/-- A cold start finds the blocks with every enable off and no capacitor ready (R66, R179). -/
theorem coldStart (s : State) (settings store : MemRead) (i : InputLevels) (between : List LinkBit) (order : List Delivery) :
    (s.coldStart settings store i between order).ChargeSound := by
  have blocks : (s.coldBlocks settings i).ChargeSound := ⟨nofun, nofun, rfl, nofun, nofun⟩
  have restored : (((s.coldBlocks settings i).recordFault (faultOf settings)).restoreTags store).ChargeSound :=
    blocks.keep (by simp [State.chargeView])
  have setUp : (((s.coldBlocks settings i).recordFault (faultOf settings)).restoreTags store).setUpSqc.ChargeSound :=
    restored.withSqc
  exact (setUp.drawStarts between order).keep rfl

end State.ChargeSound

/-! ### Every command and every step -/

/-- Every command answers a next state, whose charging is sound where the charging was. -/
theorem exec_keepsCharge (i : Instr) {s : State} (h : s.ChargeSound) : ∃ t, exec i s = .next t ∧ t.ChargeSound := by
  have same := State.Reaches.refl (d := false) s
  cases i with
  | coldStart settings store inputs between order => exact ⟨_, rfl, .coldStart s _ _ _ _ _⟩
  | shortFrame bits =>
    refine ⟨_, rfl, h.whenStarted ?_⟩
    unfold State.bitsToShort
    split <;> exact h.keep rfl
  | measurementFrame bits order => exact ⟨_, rfl, h.whenStarted (h.bitsToArrival _ _)⟩
  | stallPacedTake =>
    have paced : (s.withPru fun p => { p with pace := some 4 }).ChargeSound := h.keep rfl
    exact ⟨_, rfl, h.whenStarted (h.onlyIf fun _ => paced.takeHead)⟩
  | stalled => exact ⟨_, rfl, h.whenStarted (h.onlyIf fun _ => h.stall)⟩
  | measurementLost => exact ⟨_, rfl, h.whenStarted (h.onlyIf fun _ => h.loseMeasurement)⟩
  | measurementBack => exact ⟨_, rfl, h.whenStarted (h.onlyIf fun _ => h.keep rfl)⟩
  | closeChargeTimerExpiry => exact ⟨_, rfl, h.whenStarted (h.onlyIf fun _ => h.closeEnergyFault)⟩
  | tripPulseEnd => exact ⟨_, rfl, h.whenStarted (h.onlyIf fun _ => h.endPulse.handReports)⟩
  | closePulseEnd => exact ⟨_, rfl, h.whenStarted (h.onlyIf fun _ => h.endPulse.handReports)⟩
  | tripWindowEnd => exact ⟨_, rfl, h.whenStarted (h.onlyIf fun _ => h.endTripWindow)⟩
  | closeWindowEnd => exact ⟨_, rfl, h.whenStarted (h.onlyIf fun _ => h.endCloseWindow)⟩
  | tripWaitExpiry => exact ⟨_, rfl, h.whenStarted (h.onlyIf fun _ => h.tripEnergyFault)⟩
  | retripWaitExpiry => exact ⟨_, rfl, h.whenStarted (h.onlyIf fun _ => h.mechanismFailure)⟩
  | contactChange contact made clearFirst moment =>
    cases moment with
    | edge => exact ⟨_, rfl, h.whenStarted (h.keep (by simp [State.chargeView]))⟩
    | held => exact ⟨_, rfl, h.whenStarted (h.changeContact _ _ _)⟩
  | positionFault => exact ⟨_, rfl, h.whenStarted (h.onlyIf fun _ => h.keep rfl)⟩
  | recloseTimerExpiry => exact ⟨_, rfl, h.whenStarted (h.onlyIf fun _ => h.closeGate _)⟩
  | chargeTimerExpiry => exact ⟨_, rfl, h.whenStarted (h.onlyIf fun _ => h.withSqc.sqcCloseEnergyFault)⟩
  | resetTimerExpiry => exact ⟨_, rfl, h.whenStarted (h.onlyIf fun _ => h.sqcResetExpiry)⟩
  | manualCloseWindowExpiry => exact ⟨_, rfl, h.whenStarted (h.onlyIf fun _ => h.withSqc)⟩
  | startHoldExpiry => exact ⟨_, rfl, h.whenStarted (h.onlyIf fun _ => h.withSqc)⟩
  | holdExpiry kind => exact ⟨_, rfl, h.whenStarted (h.onlyIf fun _ => h.endHold _ _)⟩
  | acPresentChange present moment =>
    refine ⟨_, rfl, h.whenStarted (h.debounce .acp present moment fun hu => ?_)⟩
    cases present with
    | true => exact hu.acReturns
    | false => exact hu.acGoes
  | lowVoltageTimerExpiry => exact ⟨_, rfl, h.whenStarted (h.onlyIf fun _ => h.handed same.setShutdown (by simp))⟩
  | disconnectTimerExpiry => exact ⟨_, rfl, h.whenStarted (h.onlyIf fun _ => h.releaseContactor)⟩
  | setpointWordSent => exact ⟨_, rfl, h.whenStarted (h.onlyIf fun _ => h.handed same.endSetpointWord (by simp))⟩
  | taperTimerExpiry => exact ⟨_, rfl, h.whenStarted (h.onlyIf fun _ => (h.withBtu rfl).setCharger .float)⟩
  | boostLimitExpiry =>
    refine ⟨_, rfl, h.whenStarted (h.onlyIf fun _ => ?_)⟩
    unfold State.boostLimitEnds
    split
    · exact h.withBtu rfl
    · exact (h.withBtu rfl).setCharger .float
  | scheduleTimerExpiry => exact ⟨_, rfl, h.whenStarted (h.onlyIf fun _ => h.withBtu rfl)⟩
  | scheduledTestRequest => exact ⟨_, rfl, h.whenStarted (h.onlyIf fun _ => (h.withBtu rfl).requestTest _)⟩
  | testStart => exact ⟨_, rfl, h.whenStarted (h.onlyIf fun _ => h.startTest)⟩
  | settleTimerExpiry => exact ⟨_, rfl, h.whenStarted (h.onlyIf fun _ => h.withBtu rfl)⟩
  | loadTimerExpiry => exact ⟨_, rfl, h.whenStarted (h.onlyIf fun _ => h.loadEnds)⟩
  | quietCountEnd => exact ⟨_, rfl, h.whenStarted (h.onlyIf fun _ => h.keep (by simp [State.chargeView]))⟩
  | backoffEnd => exact ⟨_, rfl, h.whenStarted (h.onlyIf fun _ => h.keep (by simp [State.chargeView]))⟩
  | radioReadySeen => exact ⟨_, rfl, h.whenStarted (h.keep (by simp [State.chargeView]))⟩
  | readyTimerExpiry => exact ⟨_, rfl, h.whenStarted (h.onlyIf fun _ => h.keep (by simp [State.chargeView]))⟩
  | readyDrop sent back => exact ⟨_, rfl, h.whenStarted (h.keep (by simp [State.chargeView]))⟩
  | abortSent => exact ⟨_, rfl, h.whenStarted (h.onlyIf fun _ => h.keep (by simp [State.chargeView]))⟩
  | copySent => exact ⟨_, rfl, h.whenStarted (h.onlyIf fun _ => h.sendCopy)⟩
  | keyDownExpiry => exact ⟨_, rfl, h.whenStarted (h.onlyIf fun _ => h.keep (by simp [State.chargeView]))⟩
  | jabberExpiry => exact ⟨_, rfl, h.whenStarted (h.onlyIf fun _ => h.keep (by simp [State.chargeView]))⟩
  | carrierChange present => exact ⟨_, rfl, h.whenStarted (h.onlyIf fun _ => h.keep (by simp [State.chargeView]))⟩
  | radioByte rx => exact ⟨_, rfl, h.whenStarted (h.keep (by simp [State.chargeView]))⟩
  | receiveGapTimeout => exact ⟨_, rfl, h.whenStarted (h.onlyIf fun _ => h.keep rfl)⟩
  | beaconTimerExpiry => exact ⟨_, rfl, h.whenStarted (h.onlyIf fun _ => h.keep (by simp [State.chargeView]))⟩
  | peerSilent id => exact ⟨_, rfl, h.whenStarted (h.agePeer _ _ _)⟩
  | peerRemoval id => exact ⟨_, rfl, h.whenStarted (h.agePeer _ _ _)⟩
  | wandAbort runs => exact ⟨_, rfl, h.whenStarted (h.keep (by simp [State.chargeView]))⟩
  | crewCodeComplete runs => exact ⟨_, rfl, h.whenStarted (h.keep (by simp [State.chargeView, State.followCode]))⟩
  | crewWindowExpiry => exact ⟨_, rfl, h.whenStarted (h.onlyIf fun _ => h.keep rfl)⟩
  | errorToneExpiry => exact ⟨_, rfl, h.whenStarted (h.onlyIf fun _ => h.keep rfl)⟩
  | toneToggle => exact ⟨_, rfl, h.whenStarted (h.onlyIf fun _ => h.keep rfl)⟩
  | tripKey pressed moment =>
    exact ⟨_, rfl, h.whenStarted (h.debounce _ _ _ fun hu => hu.keyChange _ _ fun hv => hv.tripPress)⟩
  | closeKey pressed moment =>
    exact ⟨_, rfl, h.whenStarted (h.debounce _ _ _ fun hu => hu.keyChange _ _ fun hv => hv.closePress)⟩
  | tagOnKey pressed moment =>
    exact ⟨_, rfl, h.whenStarted (h.debounce _ _ _ fun hu => hu.keyChange _ _ fun hv => hv.tagOnPress)⟩
  | tagOffKey pressed moment =>
    exact ⟨_, rfl, h.whenStarted (h.debounce _ _ _ fun hu => hu.keyChange _ _ fun hv => hv.tagOffPress)⟩
  | batteryTestKey pressed moment =>
    exact ⟨_, rfl, h.whenStarted (h.debounce _ _ _ fun hu => hu.keyChange _ _ fun hv => hv.requestTest _)⟩
  | handleDown btuFirst moment => exact ⟨_, rfl, h.whenStarted (h.debounce _ _ _ fun hu => hu.handleGoesDown _)⟩
  | handleUp moment => exact ⟨_, rfl, h.whenStarted (h.debounce _ _ _ fun hu => hu.keep rfl)⟩
  | operatorTrip => exact ⟨_, rfl, h.whenStarted (h.takeRequest _)⟩
  | operatorClose => exact ⟨_, rfl, h.whenStarted (h.takeRequest _)⟩
  | tagApply code => exact ⟨_, rfl, h.whenStarted (h.takeRequest _)⟩
  | tagRemove code => exact ⟨_, rfl, h.whenStarted (h.takeRequest _)⟩
  | tagStoreWriteEnd acknowledged => exact ⟨_, rfl, h.whenStarted (h.onlyIf fun _ => h.keep (by simp [State.chargeView]))⟩
  | batteryTest => exact ⟨_, rfl, h.whenStarted (h.takeRequest _)⟩
  | readStatus part => exact ⟨_, rfl, h.whenStarted (h.takeRequest _)⟩
  | readRecordsFrom number => exact ⟨_, rfl, h.whenStarted (h.takeRequest _)⟩
  | readPeerTable => exact ⟨_, rfl, h.whenStarted (h.takeRequest _)⟩
  | readTagTable => exact ⟨_, rfl, h.whenStarted (h.takeRequest _)⟩
  | settingsRestart => exact ⟨_, rfl, h.whenStarted (h.takeRequest _)⟩
  | settingsRestartApply event closedMade openMade => exact ⟨_, rfl, h.whenStarted (h.onlyIf fun _ => h.followRead _ _ _)⟩
  | badRequest code payload => exact ⟨_, rfl, h.whenStarted (h.onlyIf fun _ => h.keep rfl)⟩
  | requestDiscarded cause => exact ⟨_, rfl, h.whenStarted (h.onlyIf fun _ => h.keep rfl)⟩
  | serviceGapTimeout => exact ⟨_, rfl, h.whenStarted (h.onlyIf fun _ => h.keep rfl)⟩
  | responseSent => exact ⟨_, rfl, h.whenStarted (h.onlyIf fun _ => h.keep rfl)⟩
  | wandMark runs => exact ⟨_, rfl, h.whenStarted (h.keep (by simp [State.chargeView]))⟩
  | serviceByte rx => exact ⟨_, rfl, h.whenStarted (h.onlyIf fun _ => h.assemble _)⟩

/-- A millisecond of an attempt leaves it running (R52). -/
theorem State.ChargeSound.advance {s : State} (h : s.ChargeSound) : s.advance.ChargeSound := by
  obtain ⟨trip, close, attempt, tripReady, closeReady⟩ := h
  exact ⟨trip, close, (tickTimer_isSome _).trans attempt, tripReady, closeReady⟩

theorem State.ChargeSound.idle {s : State} (h : s.ChargeSound) : s.idle.ChargeSound := by
  unfold State.idle
  repeat' split
  · exact h.advance
  · exact h.keep rfl
  · exact h

end Sys2Proof.Machine

/-! ### The statement -/

open Sys2Proof.Machine in
/-- Settles O7: every command keeps the charging sound, from the queue's rest, and so does the clock. -/
theorem stepKeepsTheChargeSound : Obligations.StepKeepsTheChargeSound := by
  intro s t h stepped
  unfold step at stepped
  split at stepped
  · next i rest _ =>
    have waiting : ({ s with pending := rest } : State).ChargeSound := h.keep rfl
    obtain ⟨u, answer, sound⟩ := exec_keepsCharge i waiting
    rw [answer, Host.Outcome.next.injEq] at stepped
    exact stepped ▸ sound
  · rw [Host.Outcome.next.injEq] at stepped
    exact stepped ▸ h.idle

end

section
/-! SUPPORT. The contacts whose change leaves or brings no definite position, and the end of the 500 ms (R62, R64). -/

namespace Sys2Proof.Machine

/-! ### The position (R62) -/

/-- The position is Indeterminate exactly while the contacts are alike. -/
theorem positionOf_eq_indeterminate_iff (closedMade openMade : Bool) :
    positionOf closedMade openMade = .indeterminate ↔ closedMade = openMade := by
  cases closedMade <;> cases openMade <;> decide

theorem State.position_eq_indeterminate_iff (s : State) : s.position = .indeterminate ↔ s.cdu.closedMade = s.cdu.openMade :=
  positionOf_eq_indeterminate_iff _ _

theorem State.judgePosition_enters {s : State} {before : Position} (alike : s.cdu.closedMade = s.cdu.openMade)
    (entered : before ≠ .indeterminate) (clearFirst : Bool) :
    s.judgePosition before clearFirst = s.withCdu fun c => { c with indeterminate := some 500 } := by
  rw [State.judgePosition, s.position_eq_indeterminate_iff.mpr alike]
  exact (congrArg (fun c => s.onlyIf c _) (bne_iff_ne.mpr entered)).trans (State.onlyIf_true ..)

theorem State.judgePosition_stays {s : State} (alike : s.cdu.closedMade = s.cdu.openMade) (clearFirst : Bool) :
    s.judgePosition .indeterminate clearFirst = s := by
  rw [State.judgePosition, s.position_eq_indeterminate_iff.mpr alike]
  rfl

/-- A return to Closed, which is the last definite position, is no definite change. -/
theorem State.judgePosition_closedAgain {s : State} (closedMade : s.cdu.closedMade = true) (openMade : s.cdu.openMade = false)
    (lastClosed : s.cdu.lastClosed = true) (before : Position) (clearFirst : Bool) :
    s.judgePosition before clearFirst = s.withCdu fun c => { c with indeterminate := none, positionFault := false } := by
  have closed : s.position = .closed := by simp [State.position, positionOf, closedMade, openMade]
  rw [State.judgePosition, closed]
  simp [lastClosed]

/-! ### The contacts that have held the level (R62; log 35) -/

theorem exec_contactChange {s : State} (on : s.started = true) (contact : Contact) (made clearFirst : Bool) :
    exec (.contactChange contact made clearFirst) s = .next (s.changeContact contact made clearFirst) :=
  congrArg Host.Outcome.next (State.whenStarted_of_started _ _ on)

theorem exec_contactEdge {s : State} (on : s.started = true) (contact : Contact) (made clearFirst : Bool) :
    exec (.contactChange contact made clearFirst .edge) s = .next (s.contactsGo contact made) :=
  congrArg Host.Outcome.next (State.whenStarted_of_started _ _ on)

/-- Only the pins that have held the level count. -/
theorem State.changeContact_congr {s : State} {one other : Contact} {made : Bool}
    (pins : (contactPins one).filter (fun pin => s.inputHolds pin made) =
      (contactPins other).filter (fun pin => s.inputHolds pin made)) (clearFirst : Bool) :
    s.changeContact one made clearFirst = s.changeContact other made clearFirst := by
  rw [State.changeContact, State.changeContact, pins]

/-- The closed contact alone has held the level. -/
theorem State.changeContact_closed {s : State} {made : Bool} (was : s.cdu.closedMade ≠ made) (held : s.Held .posc made)
    (clearFirst : Bool) :
    s.changeContact .closedContact made clearFirst = (s.setContacts [.posc] made).judgePosition s.position clearFirst := by
  have holds : s.inputHolds .posc made = true := (s.inputHolds_iff _ _).mpr ⟨held, was⟩
  rw [State.changeContact, show (contactPins .closedContact).filter (fun pin => s.inputHolds pin made) = [.posc] by
    simp [contactPins, holds]]
  rfl

/-- Both contacts have held the level. -/
theorem State.changeContact_both {s : State} {made : Bool} (closedWas : s.cdu.closedMade ≠ made) (openWas : s.cdu.openMade ≠ made)
    (closedHeld : s.Held .posc made) (openHeld : s.Held .poso made) (clearFirst : Bool) :
    s.changeContact .bothContacts made clearFirst =
      (s.setContacts [.posc, .poso] made).judgePosition s.position clearFirst := by
  have closedHolds : s.inputHolds .posc made = true := (s.inputHolds_iff _ _).mpr ⟨closedHeld, closedWas⟩
  have openHolds : s.inputHolds .poso made = true := (s.inputHolds_iff _ _).mpr ⟨openHeld, openWas⟩
  rw [State.changeContact, show (contactPins .bothContacts).filter (fun pin => s.inputHolds pin made) = [.posc, .poso] by
    simp [contactPins, closedHolds, openHolds]]
  rfl

theorem State.inputHolds_of_not_held {s : State} {pin : InputPin} {level : Bool} (unheld : ¬ s.Held pin level) :
    s.inputHolds pin level = false :=
  Bool.eq_false_iff.mpr fun holds => unheld ((s.inputHolds_iff _ _).mp holds).1

theorem State.started_inputGoes (s : State) (pin : InputPin) (level : Bool) : (s.inputGoes pin level).started = s.started := by
  simp [State.started]

section

variable {s : State} (on : s.started = true)

include on

/-- The closed contact changes to the state of the open one. -/
theorem exec_leavesDefinite {made : Bool} (was : s.cdu.closedMade = !made) (openMade : s.cdu.openMade = made)
    (held : s.Held .posc made) (clearFirst : Bool) :
    exec (.contactChange .closedContact made clearFirst) s =
      .next
        { s with
          inputs := s.inputs.still .posc, cdu := { s.cdu with closedMade := made, indeterminate := some 500 } } := by
  have definite : s.position ≠ .indeterminate := by
    simp [State.position_eq_indeterminate_iff, was, openMade]
  rw [exec_contactChange on, State.changeContact_closed (by simp [was]) held,
    State.judgePosition_enters (s := s.setContacts [.posc] made) openMade.symm definite]
  rfl

/-- The closed contact makes again before the open one has made. -/
theorem exec_returnsClosed (closedMade : s.cdu.closedMade = false) (openMade : s.cdu.openMade = false)
    (lastClosed : s.cdu.lastClosed = true) (held : s.Held .posc true) (clearFirst : Bool) :
    exec (.contactChange .closedContact true clearFirst) s =
      .next
        { s with
          inputs := s.inputs.still .posc
          cdu := { s.cdu with closedMade := true, indeterminate := none, positionFault := false } } := by
  rw [exec_contactChange on, State.changeContact_closed (by simp [closedMade]) held,
    State.judgePosition_closedAgain (s := s.setContacts [.posc] true) rfl openMade lastClosed]
  rfl

/-- Both contacts change at one moment, from one Indeterminate form to the other. -/
theorem exec_bothChange {made : Bool} (closedMade : s.cdu.closedMade = !made) (openMade : s.cdu.openMade = !made)
    (closedHeld : s.Held .posc made) (openHeld : s.Held .poso made) (clearFirst : Bool) :
    exec (.contactChange .bothContacts made clearFirst) s =
      .next
        { s with
          inputs := (s.inputs.still .posc).still .poso
          cdu := { s.cdu with closedMade := made, openMade := made } } := by
  have position : s.position = .indeterminate := s.position_eq_indeterminate_iff.mpr (closedMade.trans openMade.symm)
  rw [exec_contactChange on, State.changeContact_both (by simp [closedMade]) (by simp [openMade]) closedHeld openHeld, position,
    State.judgePosition_stays (s := s.setContacts [.posc, .poso] made) rfl]
  rfl

theorem exec_both_of_open_unheld {made : Bool} (unheld : ¬ s.Held .poso made) (clearFirst : Bool) :
    exec (.contactChange .bothContacts made clearFirst) s = exec (.contactChange .closedContact made clearFirst) s := by
  have pins : (contactPins .bothContacts).filter (fun pin => s.inputHolds pin made) =
      (contactPins .closedContact).filter (fun pin => s.inputHolds pin made) := by
    simp [contactPins, List.filter_cons, State.inputHolds_of_not_held unheld]
  rw [exec_contactChange on, exec_contactChange on, State.changeContact_congr pins]

theorem exec_both_of_closed_unheld {made : Bool} (unheld : ¬ s.Held .posc made) (clearFirst : Bool) :
    exec (.contactChange .bothContacts made clearFirst) s = exec (.contactChange .openContact made clearFirst) s := by
  have pins : (contactPins .bothContacts).filter (fun pin => s.inputHolds pin made) =
      (contactPins .openContact).filter (fun pin => s.inputHolds pin made) := by
    simp [contactPins, List.filter_cons, State.inputHolds_of_not_held unheld]
  rw [exec_contactChange on, exec_contactChange on, State.changeContact_congr pins]

/-- The edges of both contacts are those of the closed one and then of the open one. -/
theorem exec_bothEdges {made clearFirst : Bool} {t : State}
    (goes : exec (.contactChange .closedContact made clearFirst .edge) s = .next t) :
    exec (.contactChange .bothContacts made clearFirst .edge) s = exec (.contactChange .openContact made clearFirst .edge) t := by
  rw [exec_contactEdge on] at goes
  obtain rfl : s.inputGoes .posc made = t := Host.Outcome.next.inj goes
  rw [exec_contactEdge on, exec_contactEdge ((s.started_inputGoes _ _).trans on)]
  rfl

/-- The 500 ms of an Indeterminate position end. -/
theorem exec_positionFault (ended : s.cdu.indeterminate = some 0) :
    exec .positionFault s =
      .next
        { s with
          cdu := { s.cdu with indeterminate := none, positionFault := true }
          rcs := s.withRecords
            [{ kind := .positionFault, reason := some (if s.cdu.closedMade = true then .both else .neither) }] } :=
  congrArg Host.Outcome.next
    (State.whenStarted_onlyIf (c := fun u => due u.cdu.indeterminate) (f := State.raisePositionFault) on (by simp [ended]))

end

end Sys2Proof.Machine

/-! ### The statement -/

open Sys2Proof.Machine in
/-- Settles O28: each change of the contacts is the change of those that have held the level, then the judgement of the position. -/
theorem indeterminatePosition : Obligations.IndeterminatePosition := by
  intro s clearFirst on
  refine ⟨fun closedMade openMade held => exec_leavesDefinite (made := false) on closedMade openMade held clearFirst,
    fun closedMade openMade held => exec_leavesDefinite (made := true) on closedMade openMade held clearFirst,
    fun closedMade openMade lastClosed held => exec_returnsClosed on closedMade openMade lastClosed held clearFirst,
    fun made closedMade openMade closedHeld openHeld => exec_bothChange on closedMade openMade closedHeld openHeld clearFirst,
    fun made => ⟨fun unheld => exec_both_of_open_unheld on unheld clearFirst,
      fun unheld => exec_both_of_closed_unheld on unheld clearFirst, fun _ goes => exec_bothEdges on goes⟩,
    fun ended _ => exec_positionFault on ended⟩

end

section
/-! SUPPORT. The empty queue: what has come due in the part, the inputs' commands among it, and the millisecond (00, Time; log 3). -/

namespace Sys2Proof.Machine

/-! ### The empty queue (log 3) -/

theorem step_of_empty {s : State} (empty : s.pending = []) : step s = .next s.idle := by
  simp [step, empty]

theorem State.idle_of_not_started {s : State} (off : s.started = false) : s.idle = s := by
  simp [State.idle, off]

theorem State.idle_of_due {s : State} (on : s.started = true) (due : s.dueCommands ≠ []) :
    s.idle = { s with pending := s.dueCommands } := by
  simp [State.idle, on, due]

theorem State.idle_of_nothing_due {s : State} (on : s.started = true) (nothing : s.dueCommands = []) : s.idle = s.advance := by
  simp [State.idle, on, nothing]

/-! ### The commands of the inputs that have held a level (R62, R67, R149, R151) -/

theorem mem_commandWhen {holds : Bool} (c : Instr) (h : holds = true) : c ∈ commandWhen holds c := by
  simp [commandWhen, h]

theorem State.mem_dueInput {s : State} {pin : InputPin} {level : Bool} (change : Bool → Instr)
    (holds : s.inputHolds pin level = true) : change level ∈ s.dueInput pin change := by
  cases level
  · exact List.mem_append_right _ (mem_commandWhen _ holds)
  · exact List.mem_append_left _ (mem_commandWhen _ holds)

section

variable {s : State} {level : Bool}

/-- A contact that has held the level is due alone, or with the other. -/
theorem State.mem_dueContacts_closed (holds : s.inputHolds .posc level = true) :
    ∃ c ∈ s.dueContacts level,
      c = .contactChange .closedContact level false ∨ c = .contactChange .bothContacts level false := by
  cases other : s.inputHolds .poso level
  · exact ⟨_, by simp [State.dueContacts, commandWhen, holds, other], .inl rfl⟩
  · exact ⟨_, by simp [State.dueContacts, commandWhen, holds, other], .inr rfl⟩

theorem State.mem_dueContacts_open (holds : s.inputHolds .poso level = true) :
    ∃ c ∈ s.dueContacts level,
      c = .contactChange .openContact level false ∨ c = .contactChange .bothContacts level false := by
  cases other : s.inputHolds .posc level
  · exact ⟨_, by simp [State.dueContacts, commandWhen, holds, other], .inl rfl⟩
  · exact ⟨_, by simp [State.dueContacts, commandWhen, holds, other], .inr rfl⟩

theorem State.dueContacts_subset (s : State) (level : Bool) : s.dueContacts level ⊆ s.dueInputs := by
  intro c due
  cases level <;> simp [State.dueInputs, due]

theorem State.dueInputs_subset (s : State) : s.dueInputs ⊆ s.dueCommands := List.subset_append_right _ _

/-- An input that has held a level for its span has its command due, a contact's perhaps as the command of both. -/
theorem State.mem_dueInputs {pin : InputPin} (holds : s.inputHolds pin level = true) :
    ∃ c ∈ s.dueInputs, c = pin.command level false .held ∨ c = .contactChange .bothContacts level false := by
  have single (change : Bool → Instr) (is : change level = pin.command level false .held)
      (among : s.dueInput pin change ⊆ s.dueInputs) :
      ∃ c ∈ s.dueInputs, c = pin.command level false .held ∨ c = .contactChange .bothContacts level false :=
    ⟨_, among (State.mem_dueInput change holds), .inl is⟩
  cases pin with
  | posc =>
    obtain ⟨c, due, is⟩ := State.mem_dueContacts_closed holds
    exact ⟨c, s.dueContacts_subset level due, is⟩
  | poso =>
    obtain ⟨c, due, is⟩ := State.mem_dueContacts_open holds
    exact ⟨c, s.dueContacts_subset level due, is⟩
  | acp => exact single (.acPresentChange ·) rfl fun c due => by simp [State.dueInputs, due]
  | tripKey => exact single (.tripKey ·) rfl fun c due => by simp [State.dueInputs, due]
  | closeKey => exact single (.closeKey ·) rfl fun c due => by simp [State.dueInputs, due]
  | tagOnKey => exact single (.tagOnKey ·) rfl fun c due => by simp [State.dueInputs, due]
  | tagOffKey => exact single (.tagOffKey ·) rfl fun c due => by simp [State.dueInputs, due]
  | batteryKey => exact single (.batteryTestKey ·) rfl fun c due => by simp [State.dueInputs, due]
  | hndl =>
    exact single (fun down => if down then .handleDown false else .handleUp) rfl fun c due => by simp [State.dueInputs, due]

end

/-! ### Before COLD_START (log 2) -/

/-- Every command but COLD_START asks first whether the station has started. -/
theorem exec_of_not_started {c : Instr} {s : State} (off : s.started = false)
    (other : ∀ a b i k o, c ≠ .coldStart a b i k o) : exec c s = .next s := by
  have discards (f : State → State) : Host.Outcome.next (s.whenStarted f) = (.next s : Host.Outcome State Fault Refusal) :=
    congrArg Host.Outcome.next (State.whenStarted_of_not_started _ _ off)
  cases c with
  | coldStart a b i k o => exact absurd rfl (other a b i k o)
  | _ => exact discards _

end Sys2Proof.Machine

/-! ### The statement -/

open Sys2Proof.Machine in
/-- Settles O2: the three cases of the empty queue, the due inputs one by one, and the gate of COLD_START. -/
theorem emptyQueueAndColdStartGate : Obligations.EmptyQueueAndColdStartGate := by
  refine ⟨fun s empty => ?_, fun s pin level held changes => ?_, fun c s off other => exec_of_not_started off other⟩
  · rw [step_of_empty empty]
    refine ⟨fun off => ?_, fun on due => ?_, fun on nothing => ?_⟩
    · rw [State.idle_of_not_started off]
    · rw [State.idle_of_due on due]
    · rw [State.idle_of_nothing_due on nothing]
      exact ⟨s.advance, rfl, rfl, empty, rfl, rfl, rfl, rfl, rfl, rfl, rfl, rfl, rfl, rfl, rfl, rfl, rfl,
        fun pin => s.inputs.tick_line pin⟩
  · obtain ⟨c, due, is⟩ := State.mem_dueInputs ((s.inputHolds_iff pin level).mpr ⟨held, changes⟩)
    exact ⟨c, s.dueInputs_subset due, is⟩

end

section
/-! SUPPORT. The entry in service: its place in the transmit queue, a copy of it sent, and its loss at the jabber expiry (R75, R90, R92,
R100, R101). -/

namespace Sys2Proof.Machine

/-! ### The entry in service (R90) -/

/-- The entry in service stands first in its part, and what else is queued is `front` and `status`. -/
structure Chc.Serving (c : Chc) (e : TxEntry) (front status : List TxEntry) : Prop where
  place : (c.front = e :: front ∧ c.status = status ∧ e.kind ≠ .beacon) ∨
    (c.front = front ∧ c.status = e :: status ∧ e.kind = .beacon)
  inService : e.inService = true
  others : ∀ x ∈ front ++ status, x.inService = false

/-- A BEACON is the one Status report (R112). -/
theorem ReportKind.cls_eq_status (k : ReportKind) : (k.cls == .status) = decide (k = .beacon) := by cases k <;> rfl

/-- An entry joins at the tail of its part (R90). -/
theorem State.joinQueue_eq (s : State) (e : TxEntry) :
    s.joinQueue e =
      { s with
        chc :=
          { s.chc with
            front := if e.kind = .beacon then s.chc.front else s.chc.front ++ [e]
            status := if e.kind = .beacon then s.chc.status ++ [e] else s.chc.status } } := by
  rw [State.joinQueue, ReportKind.cls_eq_status]
  by_cases beacon : e.kind = .beacon
  · simp only [beacon, decide_true, if_true]
    rfl
  · simp only [beacon, decide_false, Bool.false_eq_true, if_false]
    rfl

theorem filter_others {l : List TxEntry} (others : ∀ x ∈ l, x.inService = false) : l.filter (fun x => !x.inService) = l :=
  List.filter_eq_self.mpr fun x member => by simp [others x member]

section

variable {s : State} {e : TxEntry} {front status : List TxEntry} (serving : s.chc.Serving e front status)

include serving

theorem Chc.Serving.entry : s.chc.inService = some e := by
  obtain ⟨⟨first, -, -⟩ | ⟨first, second, -⟩, inService, others⟩ := serving
  · simp [Chc.inService, first, inService]
  · have none : front.find? (·.inService) = none :=
      List.find?_eq_none.mpr fun x member => by simp [others x (List.mem_append_left _ member)]
    simp [Chc.inService, first, second, none, inService]

theorem State.dropInService_serving : s.dropInService = { s with chc := { s.chc with front := front, status := status } } := by
  obtain ⟨place, inService, others⟩ := serving
  have fronts := filter_others fun x member => others x (List.mem_append_left _ member)
  have statuses := filter_others fun x member => others x (List.mem_append_right _ member)
  rcases place with ⟨first, second, -⟩ | ⟨first, second, -⟩
  · simp [State.dropInService, State.withChc, first, second, inService, fronts, statuses]
  · simp [State.dropInService, State.withChc, first, second, inService, fronts, statuses]

/-! ### A copy sent (R75, R92, R100) -/

theorem State.countCopy_serving {again : List TxEntry}
    (isAgain : again = if e.copies ≤ 1 then [] else [{ e with copies := e.copies - 1, attempts := 0, inService := false }]) :
    s.countCopy =
      { s with
        chc :=
          { s.chc with
            front := if e.kind = .beacon then front else front ++ again
            status := if e.kind = .beacon then status ++ again else status
            framesSent := min 65535 (s.chc.framesSent + 1) } } := by
  rw [State.countCopy, serving.entry, isAgain]
  dsimp only
  rw [State.dropInService_serving serving]
  split
  · simp [State.withChc, count16, satAdd]
  · rw [State.joinQueue_eq]
    simp [State.withChc, count16, satAdd]

theorem State.sendsShutdown_serving : s.sendsShutdown = decide (e.kind = .shutdown) := by
  rw [State.sendsShutdown, serving.entry, beq_eq_decide, Option.map_some]
  exact decide_eq_decide.mpr (Option.some_inj)

end

/-- The release of the contactor under a condition; a second release finds it done (R51, R75). -/
theorem State.onlyIf_releaseContactor (s : State) (c : Prop) [Decidable c] :
    s.onlyIf (decide c) State.releaseContactor =
      if c ∧ s.btu.reserve ≠ .disconnect then
        { s with
          btu := { s.btu with reserve := .disconnect, disconnect := none }
          cdu := { s.cdu with tcen := false, ccen := false, closeCharge := none } }
      else s := by
  by_cases holds : c
  · rw [decide_eq_true holds, State.onlyIf_true, State.releaseContactor]
    by_cases released : s.btu.reserve = .disconnect
    · rw [if_neg fun both => both.right released, released]
      rfl
    · rw [if_pos ⟨holds, released⟩, show (s.btu.reserve != .disconnect) = true by simpa using released, State.onlyIf_true,
        State.refreshCharge_released rfl]
      rfl
  · rw [decide_eq_false holds, State.onlyIf_false, if_neg fun both => holds both.left]

/-! ### The jabber expiry (R94, R101) -/

theorem State.firstServable_isSome (s : State) : s.firstServable.isSome = (s.chc.front ++ s.chc.status).any s.servable := by
  rw [State.firstServable, Bool.eq_iff_iff, List.find?_isSome, List.any_eq_true]

/-- An idle transmitter that looks at its queue again goes to DEFER where an entry is servable (R94). -/
theorem State.settleTransmitter_idle {s : State} (idle : s.chc.tx = .idle) :
    s.settleTransmitter = if (s.chc.front ++ s.chc.status).any s.servable then s.enterDefer else s := by
  rw [State.settleTransmitter, idle, ← State.firstServable_isSome]
  cases s.firstServable <;> rfl

/-- The station once the entry in service is lost, KEY released and the CHANNEL_FAULT record made, the transmitter in IDLE. -/
def State.jabbered (s : State) (front status : List TxEntry) : State :=
  { s with
    chc :=
      { s.chc with
        front := front, status := status, reportsLost := min 255 (s.chc.reportsLost + 1)
        tx := .idle, quiet := 0, backoff := none, slot := none
        readyTimer := none, readyLatch := false, jabber := none, keyDown := none, airFrame := [], aborting := false }
    rcs := s.withRecords [{ kind := .channelFault, reason := some .jabber }] }

theorem State.channelReset_serving {s : State} {e : TxEntry} {front status : List TxEntry}
    (serving : s.chc.Serving e front status) : s.channelReset = (s.jabbered front status).settleTransmitter := by
  rw [State.channelReset, State.dropInService_serving serving]
  rfl

/-! ### The commands -/

section

variable {s : State} (on : s.started = true) (sending : s.chc.tx = .sending)

include on sending

theorem exec_copySent (whole : s.chc.aborting = false) : exec .copySent s = .next s.sendCopy :=
  congrArg Host.Outcome.next
    (State.whenStarted_onlyIf (c := fun u => u.chc.tx == .sending && !u.chc.aborting) on (by simp [sending, whole]))

theorem exec_jabberExpiry (due : s.chc.jabber = some 0) : exec .jabberExpiry s = .next s.channelReset :=
  congrArg Host.Outcome.next
    (State.whenStarted_onlyIf (c := fun u => u.chc.tx == .sending && Machine.due u.chc.jabber) on (by simp [sending, due]))

end

end Sys2Proof.Machine

/-! ### The statement -/

open Sys2Proof.Machine in
/-- Settles O46: a copy leaves the entry's place and rejoins or not, and only a SHUTDOWN's releases the contactor; the jabber expiry
takes the entry away and looks at what else is queued. -/
theorem copySentAndJabber : Obligations.CopySentAndJabber := by
  intro s e front status on sending place inService others
  have serving : s.chc.Serving e front status := ⟨place, inService, others⟩
  refine ⟨?_, fun due => ⟨_, exec_jabberExpiry on sending due, ?_⟩⟩
  · intro whole again sent isAgain isSent
    have counted : s.countCopy.enterKeyDown = sent := by
      rw [State.countCopy_serving serving isAgain, isSent]
      simp [State.enterKeyDown, State.withChc, whole]
    have btu : s.btu = sent.btu := by rw [isSent]
    have cdu : s.cdu = sent.cdu := by rw [isSent]
    rw [exec_copySent on sending whole, State.sendCopy, State.sendsShutdown_serving serving, counted, btu, cdu]
    exact congrArg Host.Outcome.next (sent.onlyIf_releaseContactor _)
  · rw [State.channelReset_serving serving, State.settleTransmitter_idle rfl]
    have servable : ((s.jabbered front status).chc.front ++ (s.jabbered front status).chc.status).any
        (s.jabbered front status).servable = (front ++ status).any s.servable := rfl
    rw [servable]
    split
    · exact ⟨rfl, rfl, rfl, rfl, rfl, rfl, rfl, rfl, rfl, rfl, rfl, rfl, rfl, rfl⟩
    · exact ⟨rfl, rfl, rfl, rfl, rfl, rfl, rfl, rfl, rfl, rfl, rfl, rfl, rfl, rfl⟩

end

section
/-! SUPPORT. The end of a load test: its resistance and its verdict, and what a result that is no abandonment leaves (R77, R80, R81,
R83). -/

namespace Sys2Proof.Machine

/-! ### The verdict (R81) -/

theorem testVerdict_eq (limit v1 : Nat) (resistance : Option Nat) :
    testVerdict limit v1 resistance =
      if (∃ r, resistance = some r ∧ r ≤ limit) ∧ 2280 ≤ v1 then .pass else .fail := by
  cases resistance with
  | none => exact (if_neg fun passes => nomatch passes.left.choose_spec.left).symm
  | some r => simp [testVerdict]

/-! ### A result (R83) -/

/-- The BTU after a test that has ended with a result, the schedule timer started again. -/
def Btu.concluded (b : Btu) (schedule : Timer) (result : TestResult) (resistance : Option Nat) : Btu :=
  { b with
    lastResult := some result, lastResistance := resistance, settle := none, load := none, schedule := schedule, test := .idle
    sources := noSources }

/-- The BTU with the charger in the mode that the test found, while AC is present. -/
def Btu.resumed (b : Btu) : Btu :=
  if b.acPresent = true then { b with charger := if b.resumeBoost = true then .boost else .float }.sends else b

/-- Resuming moves the charger mode and the setpoint word alone (R69, R83). -/
theorem Btu.resumed_eq (b : Btu) :
    ∃ sending, b.resumed =
      { b with
        charger := if b.acPresent = true then (if b.resumeBoost = true then .boost else .float) else b.charger
        sending := sending } := by
  unfold Btu.resumed
  split
  · exact Btu.sends_eq _
  · exact ⟨b.sending, rfl⟩

theorem State.resumes_eq (s : State) (present : Bool) :
    (s.onlyIf present fun k => k.setCharger (if k.btu.resumeBoost then .boost else .float)) =
      { s with
        btu :=
          if present = true then { s.btu with charger := if s.btu.resumeBoost = true then .boost else .float }.sends
          else s.btu } := by
  cases present with
  | true => exact State.setCharger_eq _ _
  | false => rfl

theorem State.handleResult_ended {s : State} {result : TestResult} (ended : (result == .abandoned) = false)
    (resistance : Option Nat) :
    s.handleResult result resistance none =
      { s with
        btu := (s.btu.concluded (scheduleStart s.cfg) result resistance).resumed
        rcs := s.withRecords
          [{ kind := .batteryTest, outcome := some { result := result, sources := s.btu.sources }
             v0 := s.btu.v0, v1 := s.btu.v1, i1 := s.btu.i1, resistance := resistance }] } := by
  simp only [State.handleResult, ended]
  exact (State.resumes_eq _ _).trans rfl

/-! ### The load timer's expiry (R80, R81) -/

/-- The station with V1 and I1 taken and the verdict shown, the result still to be handled. -/
def State.loadTaken (s : State) (failed : Bool) : State :=
  { s with
    free := s.free + 1
    btu := { s.btu with load := none, v1 := some s.btu.battV, i1 := some s.loadCurrent, failed := failed } }

theorem State.loadEnds_eq (s : State) {resistance : Option Nat} {verdict : TestResult}
    (resists : testResistance (s.btu.v0.getD 0) s.btu.battV s.loadCurrent = resistance)
    (judged : testVerdict s.cfg.resistanceLimit s.btu.battV resistance = verdict) :
    s.loadEnds = (s.loadTaken (verdict == .fail)).handleResult verdict resistance none := by
  rw [← judged, ← resists]
  rfl

theorem exec_loadTimerExpiry {s : State} (on : s.started = true) (due : s.btu.load = some 0) :
    exec .loadTimerExpiry s = .next s.loadEnds :=
  congrArg Host.Outcome.next (State.whenStarted_onlyIf (c := fun u => Machine.due u.btu.load) on (by simp [due]))

end Sys2Proof.Machine

/-! ### The statement -/

open Sys2Proof.Machine in
/-- Settles O41: the values that the load timer's expiry takes, then the result that they bring, handled as one that ends the test. -/
theorem loadTestVerdict : Obligations.LoadTestVerdict := by
  intro s v0 on due taken
  refine ⟨s.loadCurrent, fun finite => if_neg finite, fun resistance verdict isResistance isVerdict => ?_⟩
  have resists : testResistance (s.btu.v0.getD 0) s.btu.battV s.loadCurrent = resistance := by
    rw [taken, isResistance]
    rfl
  have judged : testVerdict s.cfg.resistanceLimit s.btu.battV resistance = verdict :=
    (testVerdict_eq _ _ _).trans isVerdict.symm
  have ended : (verdict == .abandoned) = false := judged ▸ State.Preserves.testVerdict_ne_abandoned _ _ _
  obtain ⟨sending, btu⟩ :=
    ((s.loadTaken (verdict == .fail)).btu.concluded (scheduleStart s.cfg) verdict resistance).resumed_eq
  refine ⟨_, exec_loadTimerExpiry on due, ?_⟩
  rw [s.loadEnds_eq resists judged, State.handleResult_ended ended]
  refine ⟨?_, ?_⟩
  · rw [← taken]
    rfl
  · dsimp only
    rw [show (s.loadTaken (verdict == .fail)).cfg = s.cfg from rfl, btu]
    exact ⟨beq_eq_decide _ _, rfl, rfl, rfl, rfl, rfl, rfl, rfl, rfl, rfl, rfl, rfl, rfl⟩

end

section
/-! SUPPORT. The battery test from its request to its load: who asks for it, when it starts, and the end of its settle time (R71, R76 to
R79). -/

namespace Sys2Proof.Machine

/-! ### Requests (R76, R77) -/

theorem TestSources.add_eq (t : TestSources) (source : TestSource) :
    t.add source =
      { panel := t.panel || decide (source = .panel), service := t.service || decide (source = .service)
        schedule := t.schedule || decide (source = .schedule) } := by
  cases source <;> simp [TestSources.add]

theorem State.requestTest_eq (s : State) (source : TestSource) :
    s.requestTest source =
      { s with
        btu := s.btu.asked (decide (source = .panel)) (decide (source = .service)) (decide (source = .schedule)) } := by
  unfold State.requestTest Btu.asked
  simp only [beq_iff_eq, TestSources.add_eq]
  rfl

theorem State.scheduleConditions_iff (s : State) :
    s.scheduleConditions = true ↔ s.btu.scheduleDue = true ∧ s.btu.reserve = .normal ∧ s.btu.charger = .float := by
  simp [State.scheduleConditions, and_assoc]

/-! ### The start (R71, R78, R79) -/

theorem State.anyPicked_eq_false_iff (s : State) : s.anyPicked = false ↔ ∀ e ∈ s.ocu.elems.toList, e.picked = false := by
  simp [State.anyPicked, PerElem.map, PerElem.anySet, PerElem.toList, and_assoc]

theorem State.testConditions_iff (s : State) :
    s.testConditions = true ↔
      s.btu.acPresent = true ∧ s.btu.reserve = .normal ∧ s.sqc.seq = .ready ∧ (∀ e ∈ s.ocu.elems.toList, e.picked = false) ∧
        s.cdu.tripReady = true ∧ s.cdu.closeReady = true ∧ s.cdu.pulse = .none := by
  simp [State.testConditions, ← State.anyPicked_eq_false_iff, State.noPulse, and_assoc]

theorem State.startTest_eq (s : State) :
    s.startTest =
      { s with
        btu :=
          { s.btu with
            test := .settle, testMoment := false, resumeBoost := decide (s.btu.charger = Charger.boost), taper := none,
            settle := some 5000, v0 := none, v1 := none, i1 := none, charger := .off }.sends } := by
  rw [State.startTest, State.setCharger_eq]
  rfl

/-! ### The commands -/

/-- A started station, the condition of an event not met (log 4). -/
theorem State.whenStarted_unmet {s : State} {c : State → Bool} {f : State → State} (on : s.started = true)
    (fails : ¬c s = true) : (s.whenStarted fun u => u.onlyIf (c u) f) = s := by
  rw [State.whenStarted_of_started _ _ on, Bool.eq_false_of_not_eq_true fails, State.onlyIf_false]

section

variable {s : State} (on : s.started = true)

include on

theorem exec_scheduleTimerExpiry (due : s.btu.schedule = some 0) :
    exec .scheduleTimerExpiry s = .next { s with btu := { s.btu with schedule := none, scheduleDue := true } } :=
  congrArg Host.Outcome.next (State.whenStarted_onlyIf (c := fun u => Machine.due u.btu.schedule) on (by simp [due]))

theorem exec_scheduledTestRequest (conditions : s.scheduleConditions = true) :
    exec .scheduledTestRequest s = .next ((s.withBtu fun b => { b with scheduleDue := false }).requestTest .schedule) :=
  congrArg Host.Outcome.next (State.whenStarted_onlyIf (c := State.scheduleConditions)
    (f := fun u => (u.withBtu fun b => { b with scheduleDue := false }).requestTest .schedule) on conditions)

theorem exec_scheduledTestRequest_unmet (fails : ¬s.scheduleConditions = true) : exec .scheduledTestRequest s = .next s :=
  congrArg Host.Outcome.next (State.whenStarted_unmet (c := State.scheduleConditions) on fails)

/-- The battery test key has held its level: its debounced state follows, and a press asks for a test (R76, R149). -/
theorem exec_batteryTestKey {pressed : Bool} (was : s.tgu.keys.battery ≠ pressed) (held : s.Held .batteryKey pressed) :
    exec (.batteryTestKey pressed) s =
      .next
        (State.onlyIf
          { s with
            inputs := s.inputs.still .batteryKey
            tgu := { s.tgu with keys := { s.tgu.keys with battery := pressed } } }
          pressed fun u => u.requestTest .panel) :=
  congrArg Host.Outcome.next (State.whenStarted_debounce on held was _)

theorem exec_testStart (starts : (s.btu.test == .pending && s.btu.testMoment && s.testConditions) = true) :
    exec .testStart s = .next s.startTest :=
  congrArg Host.Outcome.next
    (State.whenStarted_onlyIf (c := fun u => u.btu.test == .pending && u.btu.testMoment && u.testConditions) on starts)

theorem exec_testStart_unmet (fails : ¬(s.btu.test = .pending ∧ s.testConditions = true)) : exec .testStart s = .next s :=
  congrArg Host.Outcome.next
    (State.whenStarted_unmet (c := fun u => u.btu.test == .pending && u.btu.testMoment && u.testConditions) on
      fun starts => fails (by simp only [Bool.and_eq_true, beq_iff_eq] at starts; exact ⟨starts.left.left, starts.right⟩))

theorem exec_settleTimerExpiry (due : s.btu.settle = some 0) : exec .settleTimerExpiry s = .next s.settleEnds :=
  congrArg Host.Outcome.next (State.whenStarted_onlyIf (c := fun u => Machine.due u.btu.settle) on (by simp [due]))

end

end Sys2Proof.Machine

/-! ### The statement -/

open Sys2Proof.Machine in
/-- Settles O40: each source's request, and the start and the settle time of the test that was asked for. -/
theorem batteryTestIsAskedAndStarts : Obligations.BatteryTestIsAskedAndStarts := by
  refine ⟨fun s on => ⟨exec_scheduleTimerExpiry on, fun scheduled normal float => ?_, fun lacks => ?_, fun listen => ?_,
    fun was held => ?_, fun was held => exec_batteryTestKey on (by simp [was]) held⟩,
    fun s on => ⟨fun pending moment ac normal ready unpicked tripReady closeReady pulse => ?_, fun lacks => ?_,
      exec_settleTimerExpiry on⟩⟩
  · rw [exec_scheduledTestRequest on (s.scheduleConditions_iff.mpr ⟨scheduled, normal, float⟩), State.requestTest_eq]
    rfl
  · refine exec_scheduledTestRequest_unmet on fun conditions => ?_
    obtain ⟨scheduled, normal, float⟩ := s.scheduleConditions_iff.mp conditions
    simp [scheduled, normal, float] at lacks
  · have served : exec .batteryTest s = .next ((s.resetAssembly.requestTest .service).respond 0x30#8 .done []) :=
      exec_request on listen .batteryTest
    rw [served, State.requestTest_eq, State.respond_eq]
    rfl
  · rw [exec_batteryTestKey on (by simp [was]) held, State.onlyIf_true, State.requestTest_eq]
    rfl
  · have conditions := s.testConditions_iff.mpr ⟨ac, normal, ready, unpicked, tripReady, closeReady, pulse⟩
    rw [exec_testStart on (by simp [pending, moment, conditions]), State.startTest_eq]
  · refine exec_testStart_unmet on fun ⟨pending, conditions⟩ => ?_
    obtain ⟨ac, normal, ready, unpicked, tripReady, closeReady, pulse⟩ := s.testConditions_iff.mp conditions
    have picked : ¬∃ e ∈ s.ocu.elems.toList, e.picked = true := fun ⟨e, member, up⟩ => by simp [unpicked e member] at up
    simp [pending, ac, normal, ready, picked, tripReady, closeReady, pulse] at lacks

end

section
/-! SUPPORT. The float setpoint: no operation beside the battery values of a good frame and a cold start changes it (R68, R84). Every
operation that has a lemma of the frame layer saying that it leaves the BTU leaves the setpoint by that lemma; the others follow here, in
the order of the model. -/

namespace Sys2Proof.Machine

/-! ### Conditions -/

@[simp] theorem Btu.vf_ite (c : Prop) [Decidable c] (a b : Btu) : (if c then a else b).vf = if c then a.vf else b.vf :=
  apply_ite Btu.vf c a b

@[simp] theorem State.vf_ite (c : Prop) [Decidable c] (t u : State) :
    (if c then t else u).btu.vf = if c then t.btu.vf else u.btu.vf := apply_ite (fun v : State => v.btu.vf) c t u

section

variable (s : State)

/-- What a started station does, or nothing. -/
theorem State.whenStarted_vf {f : State → State} (h : (f s).btu.vf = s.btu.vf) : (s.whenStarted f).btu.vf = s.btu.vf := by
  unfold State.whenStarted
  split
  · exact h
  · rfl

theorem State.onlyIf_vf {c : Bool} {f : State → State} (h : (f s).btu.vf = s.btu.vf) : (s.onlyIf c f).btu.vf = s.btu.vf := by
  cases c
  · rfl
  · exact h

/-! ### The charger and the battery test (R69, R71, R76 to R83) -/

@[simp] theorem State.sendSetpoint_vf : s.sendSetpoint.btu.vf = s.btu.vf := by simp [State.sendSetpoint]

@[simp] theorem State.setCharger_vf (mode : Charger) : (s.setCharger mode).btu.vf = s.btu.vf := by simp [State.setCharger]

@[simp] theorem State.endBoost_vf : s.endBoost.btu.vf = s.btu.vf := by simp [State.endBoost]

@[simp] theorem State.requestTest_vf (source : TestSource) : (s.requestTest source).btu.vf = s.btu.vf := by
  simp [State.requestTest]

@[simp] theorem State.handleResult_vf (result : TestResult) (resistance : Option Nat) (cause : Option AbandonCause) :
    (s.handleResult result resistance cause).btu.vf = s.btu.vf := by simp [State.handleResult]

@[simp] theorem State.abandonTest_vf (cause : AbandonCause) : (s.abandonTest cause).btu.vf = s.btu.vf := by
  simp [State.abandonTest]

/-! ### Entries to a sequence state, trips and closes (R25 to R48) -/

@[simp] theorem State.enterSeq_vf (new : SeqState) : (s.enterSeq new).btu.vf = s.btu.vf := by simp [State.enterSeq]

@[simp] theorem State.enterLockout_vf (reason : LockReason) : (s.enterLockout reason).btu.vf = s.btu.vf := by
  simp [State.enterLockout]

@[simp] theorem State.beginTrip_vf (trip : CurrentTrip) : (s.beginTrip trip).btu.vf = s.btu.vf := by simp [State.beginTrip]

@[simp] theorem State.sqcTripOrder_vf (o : TripOrder) : (s.sqcTripOrder o).btu.vf = s.btu.vf := by
  unfold State.sqcTripOrder State.takeTrip State.takeLockoutTrip
  split <;> simp

@[simp] theorem State.sqcTripConfirm_vf : s.sqcTripConfirm.btu.vf = s.btu.vf := by
  unfold State.sqcTripConfirm
  repeat' split
  all_goals simp

@[simp] theorem State.tripFailed_vf : s.tripFailed.btu.vf = s.btu.vf := by
  refine s.onlyIf_vf ?_
  dsimp only
  split <;> simp

@[simp] theorem State.closeFailure_vf : s.closeFailure.btu.vf = s.btu.vf := by simp [State.closeFailure]

@[simp] theorem State.fireClose_vf : s.fireClose.btu.vf = s.btu.vf := by simp [State.fireClose]

@[simp] theorem State.closeGate_vf (wait : Bool) : (s.closeGate wait).btu.vf = s.btu.vf := by simp [State.closeGate]

@[simp] theorem State.readyByHand_vf : s.readyByHand.btu.vf = s.btu.vf := by simp [State.readyByHand]

@[simp] theorem State.closeConfirm_vf : s.closeConfirm.btu.vf = s.btu.vf := by
  refine s.onlyIf_vf ?_
  dsimp only
  split <;> simp

@[simp] theorem State.closeReadyReport_vf : s.closeReadyReport.btu.vf = s.btu.vf := by
  unfold State.closeReadyReport
  split <;> simp

@[simp] theorem State.handReports_vf : s.handReports.btu.vf = s.btu.vf := by simp [State.handReports]

@[simp] theorem State.operatorTrip_vf : s.operatorTrip.btu.vf = s.btu.vf := by
  unfold State.operatorTrip
  split <;> simp

@[simp] theorem State.operatorClose_vf : s.operatorClose.btu.vf = s.btu.vf := by simp [State.operatorClose]

@[simp] theorem State.openWithoutPulse_vf : s.openWithoutPulse.btu.vf = s.btu.vf := by
  unfold State.openWithoutPulse
  split <;> simp

@[simp] theorem State.closedWithoutPulse_vf : s.closedWithoutPulse.btu.vf = s.btu.vf := by simp [State.closedWithoutPulse]

@[simp] theorem State.sqcTagOn_vf : s.sqcTagOn.btu.vf = s.btu.vf := by
  unfold State.sqcTagOn
  split <;> simp

@[simp] theorem State.sqcMeasurementLost_vf : s.sqcMeasurementLost.btu.vf = s.btu.vf := by simp [State.sqcMeasurementLost]

@[simp] theorem State.sqcCritical_vf : s.sqcCritical.btu.vf = s.btu.vf := by
  unfold State.sqcCritical
  split <;> simp

@[simp] theorem State.sqcCloseEnergyFault_vf : s.sqcCloseEnergyFault.btu.vf = s.btu.vf := by
  unfold State.sqcCloseEnergyFault
  split <;> simp

@[simp] theorem State.sqcHandleDown_vf : s.sqcHandleDown.btu.vf = s.btu.vf := by simp [State.sqcHandleDown]

@[simp] theorem State.sqcResetExpiry_vf : s.sqcResetExpiry.btu.vf = s.btu.vf := by simp [State.sqcResetExpiry]

@[simp] theorem State.sqcEpisodeEnd_vf (longestRun : Nat) (orderRaised : Bool) :
    (s.sqcEpisodeEnd longestRun orderRaised).btu.vf = s.btu.vf := by
  unfold State.sqcEpisodeEnd State.stepSequence
  split <;> simp

/-! ### Orders, holds and the frame step (R12, R16 to R22, R132 to R140) -/

@[simp] theorem State.raiseOrder_vf (o : TripOrder) : (s.raiseOrder o).btu.vf = s.btu.vf := by simp [State.raiseOrder]

@[simp] theorem State.releaseTest_vf (k : Kind) : (s.releaseTest k).btu.vf = s.btu.vf := by simp [State.releaseTest]

@[simp] theorem State.endHold_vf (k : Kind) (cause : Reason) : (s.endHold k cause).btu.vf = s.btu.vf := by
  unfold State.endHold
  split <;> simp

@[simp] theorem State.endHolds_vf (cause : Reason) : (s.endHolds cause).btu.vf = s.btu.vf := by simp [State.endHolds]

@[simp] theorem State.partnerEnd_vf (k : Kind) (sender : Nat) (cause : Reason) :
    (s.partnerEnd k sender cause).btu.vf = s.btu.vf := by
  unfold State.partnerEnd
  split <;> simp

@[simp] theorem State.partnerEnds_vf (sender : Nat) (cause : Reason) : (s.partnerEnds sender cause).btu.vf = s.btu.vf := by
  simp [State.partnerEnds]

@[simp] theorem State.tripConfirmed_vf (clearFirst : Bool) : (s.tripConfirmed clearFirst).btu.vf = s.btu.vf := by
  simp [State.tripConfirmed]

@[simp] theorem State.firstPickup_vf (elements : ElementSet) (largest : Nat) :
    (s.firstPickup elements largest).btu.vf = s.btu.vf := by simp [State.firstPickup]

@[simp] theorem State.frameStep_vf (f : MeasFields) : (s.frameStep f).btu.vf = s.btu.vf := by
  have noticed : (s.noticed f).btu.vf = s.btu.vf := by simp [State.noticed, State.stepped]
  have ordered : (s.ordered f).btu.vf = s.btu.vf := by
    unfold State.ordered
    split <;> simp [noticed]
  simp [State.frameStep_eq, ordered]

/-! ### The breaker and the coils' reports (R52 to R64) -/

@[simp] theorem State.changeToOpen_vf (clearFirst : Bool) : (s.changeToOpen clearFirst).btu.vf = s.btu.vf := by
  simp [State.changeToOpen, State.confirmTrip]

@[simp] theorem State.changeToClosed_vf : s.changeToClosed.btu.vf = s.btu.vf := by simp [State.changeToClosed]

@[simp] theorem State.judgePosition_vf (before : Position) (clearFirst : Bool) :
    (s.judgePosition before clearFirst).btu.vf = s.btu.vf := by
  unfold State.judgePosition State.definiteChange
  repeat' split
  all_goals simp

@[simp] theorem State.changeContact_vf (contact : Contact) (made clearFirst : Bool) :
    (s.changeContact contact made clearFirst).btu.vf = s.btu.vf := by simp [State.changeContact]

@[simp] theorem State.mechanismFailure_vf : s.mechanismFailure.btu.vf = s.btu.vf := by simp [State.mechanismFailure]

@[simp] theorem State.endTripWindow_vf : s.endTripWindow.btu.vf = s.btu.vf := by
  unfold State.endTripWindow
  repeat' split
  all_goals simp

@[simp] theorem State.endCloseWindow_vf : s.endCloseWindow.btu.vf = s.btu.vf := by simp [State.endCloseWindow]

@[simp] theorem State.tripEnergyFault_vf : s.tripEnergyFault.btu.vf = s.btu.vf := by simp [State.tripEnergyFault]

@[simp] theorem State.closeEnergyFault_vf : s.closeEnergyFault.btu.vf = s.btu.vf := by simp [State.closeEnergyFault]

/-! ### The reserve state, AC and the BTU's timers (R67 to R75, R79 to R81) -/

@[simp] theorem State.judgeBattery_vf : s.judgeBattery.btu.vf = s.btu.vf := by
  simp [State.judgeBattery, State.changeReserve]

@[simp] theorem State.acReturns_vf : s.acReturns.btu.vf = s.btu.vf := by simp [State.acReturns]

@[simp] theorem State.acGoes_vf : s.acGoes.btu.vf = s.btu.vf := by simp [State.acGoes]

@[simp] theorem State.setShutdown_vf : s.setShutdown.btu.vf = s.btu.vf := by simp [State.setShutdown]

@[simp] theorem State.releaseContactor_vf : s.releaseContactor.btu.vf = s.btu.vf := by simp [State.releaseContactor]

@[simp] theorem State.sendCopy_vf : s.sendCopy.btu.vf = s.btu.vf := by simp [State.sendCopy]

@[simp] theorem State.endSetpointWord_vf : s.endSetpointWord.btu.vf = s.btu.vf := by simp [State.endSetpointWord]

@[simp] theorem State.boostLimitEnds_vf : s.boostLimitEnds.btu.vf = s.btu.vf := by simp [State.boostLimitEnds]

@[simp] theorem State.startTest_vf : s.startTest.btu.vf = s.btu.vf := by simp [State.startTest]

@[simp] theorem State.settleEnds_vf : s.settleEnds.btu.vf = s.btu.vf := rfl

@[simp] theorem State.loadEnds_vf : s.loadEnds.btu.vf = s.btu.vf := by simp [State.loadEnds]

/-! ### Tags, keys and the handle (R149 to R158) -/

/-- What a tag that comes into force brings beside the change to the tags (R36, R140). -/
@[simp] theorem State.tagEvent_vf {event : State → State} (h : (event s).btu.vf = s.btu.vf) :
    (s.tagEvent event).btu.vf = s.btu.vf := by simp [State.tagEvent, h]

@[simp] theorem State.localApply_vf (source : TagSource) (code : Word16) (slot : Option Nat) :
    (s.localApply source code slot).btu.vf = s.btu.vf := by simp [State.localApply]

@[simp] theorem State.localRemoval_vf (own other : TagSource) (code : Word16) :
    (s.localRemoval own other code).btu.vf = s.btu.vf := by
  unfold State.localRemoval
  split <;> simp

@[simp] theorem State.tripPress_vf : s.tripPress.btu.vf = s.btu.vf := by simp [State.tripPress]

@[simp] theorem State.closePress_vf : s.closePress.btu.vf = s.btu.vf := by simp [State.closePress]

@[simp] theorem State.tagOnPress_vf : s.tagOnPress.btu.vf = s.btu.vf := by
  unfold State.tagOnPress
  split <;> simp

@[simp] theorem State.tagOffPress_vf : s.tagOffPress.btu.vf = s.btu.vf := by
  unfold State.tagOffPress
  split <;> simp

@[simp] theorem State.keyChange_vf (pressed : Bool) (follow : Keys → Keys) {press : State → State}
    (h : ∀ u : State, (press u).btu.vf = u.btu.vf) : (s.keyChange pressed follow press).btu.vf = s.btu.vf := by
  simp [State.keyChange, h]

@[simp] theorem State.debounce_vf (pin : InputPin) (level : Bool) (moment : InputMoment) {change : State → State}
    (h : ∀ u : State, (change u).btu.vf = u.btu.vf) : (s.debounce pin level moment change).btu.vf = s.btu.vf := by
  cases moment <;> simp [State.debounce, h]

@[simp] theorem State.handleGoesDown_vf (btuFirst : Bool) : (s.handleGoesDown btuFirst).btu.vf = s.btu.vf := by
  simp [State.handleGoesDown]

/-! ### Records of peers (R122 to R130) -/

@[simp] theorem State.partnerHandOff_vf (r : RxRecord) (kind : ReportKind) : (s.partnerHandOff r kind).btu.vf = s.btu.vf := by
  refine s.onlyIf_vf ?_
  cases kind <;> simp

@[simp] theorem State.handOff_vf (r : RxRecord) (kind : ReportKind) : (s.handOff r kind).btu.vf = s.btu.vf := by
  refine s.onlyIf_vf ?_
  cases kind with
  | tag => simp [State.peerTag]
  | untag => simp [State.peerUntag]
  | beacon => simp [State.peerTagList]
  | _ => simp

@[simp] theorem State.applyRecord_vf (r : RxRecord) : (s.applyRecord r).btu.vf = s.btu.vf := by
  unfold State.applyRecord
  dsimp only
  repeat' split
  all_goals simp

@[simp] theorem State.takeHead_vf : s.takeHead.btu.vf = s.btu.vf := by
  unfold State.takeHead
  split <;> simp

@[simp] theorem State.agePeer_vf (id : Nat) (isDue : PeerEntry → Bool) (change : PeerEntry → Option PeerEntry) :
    (s.agePeer id isDue change).btu.vf = s.btu.vf := by
  unfold State.agePeer
  repeat' split
  all_goals simp

/-! ### The service port (R170 to R172) -/

@[simp] theorem State.serve_vf (x : Request) : (s.serve x).btu.vf = s.btu.vf := by
  cases x <;> simp [State.serve, State.serveTrip, State.serveClose, State.serveTagApply, State.serveTagRemove]

@[simp] theorem State.takeRequest_vf (x : Request) : (s.takeRequest x).btu.vf = s.btu.vf := by simp [State.takeRequest]

@[simp] theorem State.judgeFrame_vf (frame : List Byte) : (s.judgeFrame frame).btu.vf = s.btu.vf := by
  unfold State.judgeFrame
  dsimp only
  repeat' split
  all_goals simp

@[simp] theorem State.assemble_vf (rx : LineByte) : (s.assemble rx).btu.vf = s.btu.vf := by
  unfold State.assemble
  repeat' split
  all_goals simp

/-! ### The measurement link (R1 to R8, R122) -/

@[simp] theorem State.stall_vf : s.stall.btu.vf = s.btu.vf := by simp [State.stall]

@[simp] theorem State.loseMeasurement_vf : s.loseMeasurement.btu.vf = s.btu.vf := by simp [State.loseMeasurement]

@[simp] theorem State.pacedTake_vf : s.pacedTake.btu.vf = s.btu.vf := by simp [State.pacedTake]

/-- A delivery beside the battery's leaves the setpoint. -/
theorem State.deliver_vf (f : MeasFields) (closing : Bool) {d : Delivery} (other : d ≠ .btu) :
    (s.deliver f closing d).btu.vf = s.btu.vf := by
  cases d with
  | btu => exact absurd rfl other
  | cdu => simp [State.deliver, State.deliverVoltages]
  | test => simp [State.deliver, State.testAtArrival]
  | _ => simp [State.deliver]

/-- The battery values bring the setpoint of their temperature (R68). -/
theorem State.deliverBattery_vf (v : Nat) (i temperature : Int) :
    (s.deliverBattery v i temperature).btu.vf = floatSetpoint temperature := by
  simp [State.deliverBattery, State.watchTaper, State.watchLowVoltage]

theorem State.delivered_vf (f : MeasFields) (closing : Bool) {order : List Delivery} (nodup : order.Nodup)
    (member : .btu ∈ order) : (s.delivered f closing order).btu.vf = floatSetpoint f.temperature :=
  State.delivered_sets (part := fun u => u.btu.vf) nodup member (fun _ other u => u.deliver_vf f closing other)
    (fun u => u.deliverBattery_vf f.battV f.battI f.temperature) s

/-! ### The starts (R84, R179, R181) -/

/-- With no bits between the draws of a start no frame arrives. -/
theorem State.bitsToArrival_nil (order : List Delivery) : s.bitsToArrival [] order = s.sampled [] := rfl

theorem State.drawStarts_vf (order : List Delivery) : (s.drawStarts [] order).btu.vf = s.btu.vf := by
  simp [State.drawStarts, State.bitsToArrival_nil]

/-- A settings restart keeps the setpoint (log 43). -/
@[simp] theorem State.applyRestart_vf (read : MemRead) (closedMade openMade : Bool) :
    (s.applyRestart read closedMade openMade).btu.vf = s.btu.vf := by
  have blocks : (s.restartBlocks read closedMade openMade).btu.vf = s.btu.vf := rfl
  simp [State.applyRestart, State.drawStarts_vf, blocks]

@[simp] theorem State.followRead_vf (event : ReadEvent) (closedMade openMade : Bool) :
    (s.followRead event closedMade openMade).btu.vf = s.btu.vf := by
  cases event <;> simp [State.followRead, State.endRead]

theorem State.coldStart_vf (settings store : MemRead) (i : InputLevels) (order : List Delivery) :
    (s.coldStart settings store i [] order).btu.vf = 2700 := by
  have blocks : (s.coldBlocks settings i).btu.vf = 2700 := rfl
  simp [State.coldStart, State.drawStarts_vf, blocks]

end

/-! ### Every command -/

/-- Every command but COLD_START and MEASUREMENT_FRAME keeps the setpoint, by the lemma of the operation that is its meaning; the
moment of an input and the direction of AC-present part the meaning of three. -/
theorem exec_keepsVf {c : Instr} (s : State) (cold : ∀ a b i k o, c ≠ .coldStart a b i k o)
    (frame : ∀ bits order, c ≠ .measurementFrame bits order) : ∃ t, exec c s = .next t ∧ t.btu.vf = s.btu.vf := by
  cases c with
  | coldStart a b i k o => exact absurd rfl (cold a b i k o)
  | measurementFrame bits order => exact absurd rfl (frame bits order)
  | contactChange contact made clearFirst moment =>
    cases moment <;> exact ⟨_, rfl, s.whenStarted_vf (by simp)⟩
  | acPresentChange present moment => cases present <;> exact ⟨_, rfl, s.whenStarted_vf (by simp)⟩
  | crewCodeComplete runs => exact ⟨_, rfl, s.whenStarted_vf (by simp [State.followCode])⟩
  | handleUp moment => exact ⟨_, rfl, s.whenStarted_vf (s.debounce_vf _ _ _ fun _ => rfl)⟩
  | _ => exact ⟨_, rfl, s.whenStarted_vf (by simp)⟩

/-! ### The setpoint of a temperature (R68) -/

theorem floatSetpoint_eq (temperature : Int) :
    floatSetpoint temperature =
      if 50 ≤ temperature then max 2520 (2700 - 36 * (temperature - 50).toNat / 20)
      else min 2880 (2700 + 36 * (50 - temperature).toNat / 20) := by
  unfold floatSetpoint
  by_cases warm : 50 ≤ temperature
  · obtain ⟨n, above⟩ := Int.eq_ofNat_of_zero_le (Int.sub_nonneg_of_le warm)
    have trunc : Int.tdiv (36 * (n : Int)) 20 = 36 * (n : Int) / 20 := Int.tdiv_eq_ediv_of_nonneg (by omega)
    rw [if_pos warm, above, trunc]
    omega
  · obtain ⟨n, below⟩ := Int.eq_ofNat_of_zero_le (Int.sub_nonneg_of_le (Int.le_of_lt (not_le.mp warm)))
    have trunc : Int.tdiv (36 * -(n : Int)) 20 = -(36 * (n : Int) / 20) := by
      rw [Int.mul_neg, Int.neg_tdiv, Int.tdiv_eq_ediv_of_nonneg (by omega)]
    rw [if_neg warm, below, show temperature - 50 = -(n : Int) by omega, trunc]
    omega

end Sys2Proof.Machine

/-! ### The statement -/

open Sys2Proof.Machine in
/-- Settles O36: the battery's delivery alone sets the setpoint in a good frame, a cold start sets it with its blocks, and every other
command keeps it. -/
theorem floatSetpoint : Obligations.FloatSetpoint := by
  refine ⟨fun s bits bytes order on brings good => ⟨_, exec_goodFrame on brings good order, ?_⟩,
    fun s settings store inputs order => ⟨_, rfl, s.coldStart_vf settings store inputs order⟩,
    fun c s t goes cold frame => ?_⟩
  · have nodup := deliveryOrder_nodup order
    have member : Sys2Proof.Delivery.btu ∈ deliveryOrder order := mem_deliveryOrder.mpr (.inr (by decide))
    have battery := (s.arrival (measFields bytes)).delivered_battery (measFields bytes) (s.cdu.pulse == .close) nodup member
    simp only [Prod.mk.injEq] at battery
    obtain ⟨-, -, temperature⟩ := battery
    have size : bytes.length = 24 := good.left
    rw [State.delivered_vf _ _ _ nodup member, temperature, ← floatSetpoint_eq]
    exact ⟨rfl, signedField_eq bytes 17 (by omega)⟩
  · by_cases arrives : ∃ bits order, c = .measurementFrame bits order
    · obtain ⟨bits, order, rfl⟩ := arrives
      obtain ⟨bytes, brings, bad⟩ := frame bits order rfl
      cases on : s.started with
      | true =>
        rw [exec_badFrame on brings bad] at goes
        exact Host.Outcome.next.inj goes ▸ rfl
      | false =>
        rw [exec_of_not_started on cold] at goes
        exact Host.Outcome.next.inj goes ▸ rfl
    · obtain ⟨u, goes', kept⟩ := exec_keepsVf (c := c) s cold fun bits order is => arrives ⟨bits, order, is⟩
      rw [goes'] at goes
      exact Host.Outcome.next.inj goes ▸ kept

end

section
/-! SUPPORT. The transmit queue as R90 has it, and what each of its operations leaves of it (R90 to R101). -/

namespace Sys2Proof.Machine

/-! ### The queue and its entry in service (R90) -/

/-- The two parts of the transmit queue in their order, each entry in its ranges, whoever is in service (R90). -/
structure Chc.Stocked (c : Chc) : Prop where
  front : ∀ e ∈ c.front, e.kind.cls ≠ .status
  status : ∀ e ∈ c.status, e.kind = .beacon
  beacons : c.status.length ≤ 1
  size : c.queued ≤ 8
  copies : ∀ e ∈ c.front ++ c.status, 1 ≤ e.copies ∧ e.copies ≤ 3 ∧ e.attempts ≤ 2

/-- How many entries are in service. -/
def Chc.served (c : Chc) : Nat := ((c.front ++ c.status).filter (·.inService)).length

/-- How many entries a transmit state serves: one in KEY_UP and SENDING (R90, R97). -/
def TxState.serves (x : TxState) : Nat := if x = .keyUp ∨ x = .sending then 1 else 0

theorem State.queueSound_iff (s : State) : s.QueueSound ↔ s.chc.Stocked ∧ s.chc.served = s.chc.tx.serves :=
  ⟨fun h => ⟨⟨h.front, h.status, h.beacons, h.size, h.copies⟩, h.served⟩,
    fun ⟨h, served⟩ => ⟨h.front, h.status, h.beacons, h.size, h.copies, served⟩⟩

/-- The parts of the queue. -/
def Chc.parts (c : Chc) : List TxEntry × List TxEntry := (c.front, c.status)

theorem Chc.served_eq_of_parts {c d : Chc} (parts : d.parts = c.parts) : d.served = c.served := by
  rw [Chc.parts, Chc.parts, Prod.mk.injEq] at parts
  rw [Chc.served, parts.1, parts.2, Chc.served]

theorem Chc.served_eq_zero {c : Chc} : c.served = 0 ↔ ∀ e ∈ c.front ++ c.status, e.inService = false := by
  rw [Chc.served, List.length_eq_zero_iff, List.filter_eq_nil_iff]
  simp only [Bool.not_eq_true]

namespace Chc.Stocked

variable {c d : Chc} (h : c.Stocked)

include h

theorem of_parts (parts : d.parts = c.parts) : d.Stocked := by
  rw [Chc.parts, Chc.parts, Prod.mk.injEq] at parts
  obtain ⟨front, status⟩ := parts
  exact ⟨by rw [front]; exact h.front, by rw [status]; exact h.status, by rw [status]; exact h.beacons,
    by rw [Chc.queued, front, status]; exact h.size, by rw [front, status]; exact h.copies⟩

/-- Entries that leave leave a queue in order. -/
theorem sublist (front : d.front.Sublist c.front) (status : d.status.Sublist c.status) : d.Stocked where
  front e member := h.front e (front.subset member)
  status e member := h.status e (status.subset member)
  beacons := status.length_le.trans h.beacons
  size := (Nat.add_le_add front.length_le status.length_le).trans h.size
  copies e member := h.copies e ((front.append status).subset member)

/-- Entries that change in place, each keeping its kind and its ranges. -/
theorem map {f : TxEntry → TxEntry} (front : d.front = c.front.map f) (status : d.status = c.status.map f)
    (kind : ∀ e, (f e).kind = e.kind)
    (copies : ∀ e ∈ c.front ++ c.status, 1 ≤ (f e).copies ∧ (f e).copies ≤ 3 ∧ (f e).attempts ≤ 2) : d.Stocked where
  front := by simpa [front, kind] using h.front
  status := by simpa [status, kind] using h.status
  beacons := by simpa [status] using h.beacons
  size := by simpa [Chc.queued, front, status] using h.size
  copies := by
    rw [front, status, ← List.map_append, List.forall_mem_map]
    exact copies

/-- A Fault or Crew entry joins where there is room. -/
theorem join_front {e : TxEntry} (cls : e.kind.cls ≠ .status) (room : c.queued < 8)
    (copies : 1 ≤ e.copies ∧ e.copies ≤ 3 ∧ e.attempts ≤ 2) : { c with front := c.front ++ [e] }.Stocked where
  front x member := by
    rcases List.mem_append.mp member with old | new
    · exact h.front x old
    · rw [List.mem_singleton.mp new]
      exact cls
  status := h.status
  beacons := h.beacons
  size := by
    simp only [Chc.queued, List.length_append, List.length_singleton] at room ⊢
    omega
  copies x member := by
    simp only [List.mem_append, List.mem_singleton] at member
    rcases member with (old | rfl) | old
    · exact h.copies x (List.mem_append_left _ old)
    · exact copies
    · exact h.copies x (List.mem_append_right _ old)

/-- The BEACON joins an empty Status part where there is room. -/
theorem join_status {e : TxEntry} (kind : e.kind = .beacon) (empty : c.status = []) (room : c.queued < 8)
    (copies : 1 ≤ e.copies ∧ e.copies ≤ 3 ∧ e.attempts ≤ 2) : { c with status := c.status ++ [e] }.Stocked where
  front := h.front
  status := by simp [empty, kind]
  beacons := by simp [empty]
  size := by
    simp only [Chc.queued, List.length_append, List.length_singleton] at room ⊢
    omega
  copies x member := by
    simp only [empty, List.nil_append, List.mem_append, List.mem_singleton] at member
    rcases member with old | rfl
    · exact h.copies x (List.mem_append_left _ old)
    · exact copies

end Chc.Stocked

/-- The one entry in service is the one that is found. -/
theorem Chc.eq_of_inService {c : Chc} {e x : TxEntry} (one : c.served ≤ 1) (found : c.inService = some e)
    (member : x ∈ c.front ++ c.status) (serves : x.inService = true) : x = e := by
  have head : ((c.front ++ c.status).filter (·.inService)).head? = some e := by
    rw [List.head?_filter]
    exact found
  have held : x ∈ (c.front ++ c.status).filter (·.inService) := List.mem_filter.mpr ⟨member, serves⟩
  obtain ⟨y, only⟩ := List.length_eq_one_iff.mp (le_antisymm one (List.length_pos_of_mem held))
  rw [only] at head held
  rw [List.mem_singleton.mp held]
  simpa using head

theorem Chc.inService_mem {c : Chc} {e : TxEntry} (found : c.inService = some e) :
    e ∈ c.front ++ c.status ∧ e.inService = true :=
  ⟨List.mem_of_find?_eq_some found, by simpa using List.find?_some found⟩

/-- With no entry found in service none is. -/
theorem Chc.served_of_inService_none {c : Chc} (found : c.inService = none) : c.served = 0 := by
  rw [Chc.served_eq_zero]
  simpa using List.find?_eq_none.mp found

/-! ### Operations that serve no entry (R90 to R96) -/

namespace State.QueueSound

variable {s t : State} (h : s.QueueSound)

include h

theorem stocked : s.chc.Stocked := ((State.queueSound_iff s).mp h).1

theorem served_eq : s.chc.served = s.chc.tx.serves := ((State.queueSound_iff s).mp h).2

theorem served_le : s.chc.served ≤ 1 := by
  rw [h.served_eq, TxState.serves]
  split <;> omega

/-- An operation that leaves the queue and serves as many entries as before. -/
theorem keep (parts : t.chc.parts = s.chc.parts) (serves : t.chc.tx.serves = s.chc.tx.serves) : t.QueueSound :=
  (State.queueSound_iff t).mpr
    ⟨h.stocked.of_parts parts, by rw [Chc.served_eq_of_parts parts, serves]; exact h.served_eq⟩

/-- From a transmit state that serves no entry to another. -/
theorem enterDefer (idle : s.chc.tx.serves = 0) : s.enterDefer.QueueSound := h.keep rfl idle.symm

theorem enterIdle (idle : s.chc.tx.serves = 0) : s.enterIdle.QueueSound := h.keep rfl idle.symm

theorem redraw (e : TxEntry) : (s.redraw e).QueueSound := by
  unfold State.redraw
  repeat' split
  · exact h.keep rfl rfl
  · exact h
  · exact h

theorem settleTransmitter : s.settleTransmitter.QueueSound := by
  unfold State.settleTransmitter
  split
  · next tx _ => exact h.enterDefer (by rw [tx]; rfl)
  · next tx _ => exact h.enterIdle (by rw [tx]; rfl)
  · next tx _ => exact h.enterIdle (by rw [tx]; rfl)
  · exact h.redraw _
  · exact h.redraw _
  · exact h

theorem judgeBusy : s.judgeBusy.QueueSound := by
  unfold State.judgeBusy
  split
  · next busy =>
    simp only [Bool.and_eq_true, Bool.or_eq_true, beq_iff_eq] at busy
    obtain ⟨-, tx | tx⟩ := busy
    · exact h.enterDefer (by rw [tx]; rfl)
    · exact h.enterDefer (by rw [tx]; rfl)
  · exact h

theorem loseReport : s.loseReport.QueueSound := h.keep rfl rfl

/-- A new entry, not in service, joins its part where there is room, the BEACON where no other is queued (R90). -/
theorem joinQueue {e : TxEntry} (waits : e.inService = false) (copies : 1 ≤ e.copies ∧ e.copies ≤ 3 ∧ e.attempts ≤ 2)
    (room : s.chc.queued < 8) (alone : e.kind = .beacon → s.chc.status = []) : (s.joinQueue e).QueueSound := by
  rw [State.queueSound_iff, State.joinQueue_eq]
  by_cases beacon : e.kind = .beacon
  · simp only [beacon, if_true]
    refine ⟨h.stocked.join_status beacon (alone beacon) room copies, ?_⟩
    simpa [Chc.served, waits] using h.served_eq
  · simp only [beacon, if_false]
    refine ⟨h.stocked.join_front (fun status => beacon ?_) room copies, ?_⟩
    · simpa [status] using e.kind.cls_eq_status
    · simpa [Chc.served, waits] using h.served_eq

/-- The queued BEACON takes a new sequence and payload in its own place (R91). -/
theorem superseded (seq : Byte) (payload : List Byte) :
    (s.withChc fun c => { c with status := c.status.map (supersede seq payload) }).QueueSound := by
  have kind (e : TxEntry) : (supersede seq payload e).kind = e.kind := by unfold supersede; split <;> rfl
  have service (e : TxEntry) : (supersede seq payload e).inService = e.inService := by unfold supersede; split <;> rfl
  have fronts : s.chc.front.map (supersede seq payload) = s.chc.front :=
    List.map_congr_left (g := id) (fun e member => by
      have event := h.front e member
      have other : ¬e.kind = .beacon := fun beacon => event (by rw [beacon]; rfl)
      simp [supersede, other]) |>.trans (List.map_id _)
  rw [State.queueSound_iff]
  refine ⟨h.stocked.map (f := supersede seq payload) fronts.symm rfl kind fun e member => ?_, ?_⟩
  · have ranges := h.copies e member
    unfold supersede
    split
    · simp
    · exact ranges
  · have filtered : (s.chc.status.map (supersede seq payload)).filter (·.inService) =
        (s.chc.status.filter (·.inService)).map (supersede seq payload) := by
      rw [List.filter_map]
      simp only [Function.comp_def, service]
    have count := h.served_eq
    simp only [Chc.served, List.filter_append, List.length_append, State.withChc_chc, filtered, List.length_map] at count ⊢
    exact count

/-- The one Status entry, not in service, leaves the queue (R91, R93). -/
theorem withoutStatus (waits : s.chc.status.any (fun x => !x.inService) = true) :
    ∃ e, s.chc.status = [e] ∧ e.inService = false := by
  match eq : s.chc.status, waits, h.beacons with
  | [e], waits, _ => exact ⟨e, rfl, by simpa using waits⟩
  | _ :: _ :: _, _, one => simp at one

/-- A report is taken, case by case of R91's table. -/
theorem takeReport (kind : ReportKind) (seq : Byte) (payload : List Byte) : (s.takeReport kind seq payload).QueueSound := by
  have copies : 1 ≤ (newEntry kind seq payload).copies ∧ (newEntry kind seq payload).copies ≤ 3 ∧
      (newEntry kind seq payload).attempts ≤ 2 := by
    simp only [newEntry]
    split <;> simp
  unfold State.takeReport
  simp only
  split
  · exact h
  split
  · exact h.superseded seq payload
  split
  · exact h
  next unqueued =>
  split
  · next room =>
    refine (h.joinQueue rfl copies room fun beacon => ?_).settleTransmitter
    have is : kind = .beacon := beacon
    rw [List.eq_nil_iff_forall_not_mem]
    intro e member
    exact unqueued (by simpa [is] using ⟨e, member, h.status e member⟩)
  split
  · next event =>
    rw [Bool.and_eq_true] at event
    obtain ⟨cls, waits⟩ := event
    obtain ⟨e, status, service⟩ := h.withoutStatus waits
    have left : (s.withChc fun c => { c with status := removeLast (fun x => !x.inService) c.status }).chc =
        { s.chc with status := [] } := by
      simp [status, removeLast, service]
    have dropped : (s.withChc fun c => { c with status := removeLast (fun x => !x.inService) c.status }).QueueSound := by
      rw [State.queueSound_iff, left]
      refine ⟨h.stocked.sublist (.refl _) (List.nil_sublist _), ?_⟩
      simpa [Chc.served, status, service] using h.served_eq
    refine ((dropped.loseReport).joinQueue rfl copies ?_ fun beacon => ?_).settleTransmitter
    · have size := h.size
      rw [State.loseReport, State.withChc_chc, left]
      simp only [Chc.queued, status, List.length_singleton, List.length_nil] at size ⊢
      omega
    · rw [show kind = .beacon from beacon] at cls
      simp [ReportKind.cls] at cls
  · exact h.loseReport

/-- The drop order takes the Status entries that are not in service (R93). -/
theorem dropStatus : s.dropStatus.QueueSound := by
  refine settleTransmitter ((State.queueSound_iff _).mpr ⟨h.stocked.sublist (.refl _) List.filter_sublist, ?_⟩)
  simpa [Chc.served, List.filter_filter] using h.served_eq

omit h in
/-- An operation of the transmitter that ends with no entry in service, in a state that serves none. -/
theorem of_unserved (stocked : t.chc.Stocked) (unserved : t.chc.served = 0) (tx : t.chc.tx.serves = 0) : t.QueueSound :=
  (State.queueSound_iff t).mpr ⟨stocked, by rw [unserved, tx]⟩

end State.QueueSound

end Sys2Proof.Machine
end

section
/-! SUPPORT. The transmitter's moves, which serve the first servable entry and let it go again, keep the transmit queue in order
(R92, R96 to R101). -/

namespace Sys2Proof.Machine

/-! ### A queue with no entry in service -/

/-- A queue in order with no entry in service. -/
structure Chc.Resting (c : Chc) : Prop where
  stocked : c.Stocked
  unserved : c.served = 0

namespace Chc.Resting

variable {c d : Chc} (h : c.Resting)

include h

theorem of_parts (parts : d.parts = c.parts) : d.Resting :=
  ⟨h.stocked.of_parts parts, by rw [Chc.served_eq_of_parts parts, h.unserved]⟩

end Chc.Resting

/-- A queue with no entry in service is sound in every transmit state that serves none. -/
theorem State.QueueSound.of_resting {s : State} (resting : s.chc.Resting) (tx : s.chc.tx.serves = 0) : s.QueueSound :=
  .of_unserved resting.stocked resting.unserved tx

theorem State.deferOrIdle_queueSound {s : State} (resting : s.chc.Resting) : s.deferOrIdle.QueueSound := by
  unfold State.deferOrIdle
  split
  · exact .of_resting (resting.of_parts rfl) rfl
  · exact .of_resting (resting.of_parts rfl) rfl

/-- Without the entry in service the queue rests (R90). -/
theorem Chc.Stocked.dropInService {s : State} (h : s.chc.Stocked) : s.dropInService.chc.Resting where
  stocked := h.sublist List.filter_sublist List.filter_sublist
  unserved := by
    rw [Chc.served_eq_zero]
    intro e member
    simp only [State.dropInService, State.withChc_chc, ← List.filter_append, List.mem_filter] at member
    simpa using member.2

/-- The first entry that a list holds for a test is put in service there, and nothing else of the list changes. -/
theorem markFirst_eq {p : TxEntry → Bool} {l : List TxEntry} (some_ : l.any p = true) :
    ∃ before e after, l = before ++ e :: after ∧ l.find? p = some e ∧
      markFirst p l = before ++ { e with inService := true } :: after := by
  induction l with
  | nil => simp at some_
  | cons x rest ih =>
    by_cases here : p x = true
    · exact ⟨[], x, rest, rfl, by simp [here], by simp [markFirst, here]⟩
    · obtain ⟨before, e, after, split, found, marked⟩ := ih (by simpa [here] using some_)
      exact ⟨x :: before, e, after, by simp [split], by simpa [here] using found, by simp [markFirst, here, marked]⟩

/-- One entry of a resting queue put in service, in its place. -/
theorem Chc.Resting.serve {c d : Chc} (h : c.Resting) {before after : List TxEntry} {e : TxEntry}
    (held : c.front ++ c.status = before ++ e :: after)
    (serves : d.front ++ d.status = before ++ { e with inService := true } :: after)
    (front : d.front.map (·.kind) = c.front.map (·.kind)) (status : d.status.map (·.kind) = c.status.map (·.kind)) :
    d.Stocked ∧ d.served = 1 := by
  have unserved := Chc.served_eq_zero.mp h.unserved
  rw [held] at unserved
  have lengths : d.front.length = c.front.length ∧ d.status.length = c.status.length :=
    ⟨by simpa only [List.length_map] using congrArg List.length front,
      by simpa only [List.length_map] using congrArg List.length status⟩
  refine ⟨⟨?_, ?_, by rw [lengths.2]; exact h.stocked.beacons, by rw [Chc.queued, lengths.1, lengths.2]; exact h.stocked.size, ?_⟩, ?_⟩
  · have kinds := h.stocked.front
    rw [← List.forall_mem_map (f := fun e : TxEntry => e.kind) (P := fun k => k.cls ≠ .status), ← front, List.forall_mem_map] at kinds
    exact kinds
  · have kinds := h.stocked.status
    rw [← List.forall_mem_map (f := fun e : TxEntry => e.kind) (P := fun k => k = .beacon), ← status, List.forall_mem_map] at kinds
    exact kinds
  · have copies := h.stocked.copies
    rw [held] at copies
    rw [serves]
    simp only [List.forall_mem_append, List.forall_mem_cons] at copies ⊢
    exact copies
  · have none_ : ∀ l : List TxEntry, (∀ x ∈ l, x.inService = false) → l.filter (·.inService) = [] := fun l all =>
      List.filter_eq_nil_iff.mpr fun x member => by simp [all x member]
    rw [Chc.served, serves, List.filter_append, List.filter_cons_of_pos rfl, none_ before fun x m => unserved x (by simp [m]),
      none_ after fun x m => unserved x (by simp [m])]
    rfl

namespace State.QueueSound

variable {s : State} (h : s.QueueSound)

include h

/-- In a transmit state that serves none the queue rests. -/
theorem resting (tx : s.chc.tx.serves = 0) : s.chc.Resting := ⟨h.stocked, by rw [h.served_eq, tx]⟩

/-! ### Backoff and key-up (R95 to R97) -/

theorem enterBackoff (tx : s.chc.tx = .defer) : s.enterBackoff.QueueSound := by
  have quiet : s.chc.tx.serves = 0 := by rw [tx]; rfl
  unfold State.enterBackoff
  split
  · exact h.enterIdle quiet
  · split
    · exact h.keep rfl quiet.symm
    · exact h.keep rfl quiet.symm

theorem enterKeyUp (tx : s.chc.tx = .backoff) : s.enterKeyUp.QueueSound := by
  have quiet : s.chc.tx.serves = 0 := by rw [tx]; rfl
  have resting := h.resting quiet
  unfold State.enterKeyUp
  split
  · exact h.enterIdle quiet
  · next e servable =>
    have kinds {l : List TxEntry} (some_ : l.any s.servable = true) : (markFirst s.servable l).map (·.kind) = l.map (·.kind) := by
      obtain ⟨before, e, after, split, -, marked⟩ := markFirst_eq some_
      rw [marked, split]
      simp
    rw [State.queueSound_iff]
    simp only [State.withChc_chc]
    by_cases front : s.chc.front.any s.servable = true
    · obtain ⟨before, e, after, split, -, marked⟩ := markFirst_eq front
      simp only [front, if_true]
      exact resting.serve (before := before) (after := after ++ s.chc.status) (e := e) (by simp [split]) (by simp [marked])
        (kinds front) rfl
    · have status : s.chc.status.any s.servable = true := by
        have any_ := List.find?_isSome.mp (Option.isSome_iff_exists.mpr ⟨e, servable⟩)
        simp only [List.mem_append, List.any_eq_true] at any_ front ⊢
        obtain ⟨x, member | member, serves⟩ := any_
        · exact absurd ⟨x, member, serves⟩ front
        · exact ⟨x, member, serves⟩
      obtain ⟨before, e, after, split, -, marked⟩ := markFirst_eq status
      simp only [front, Bool.false_eq_true, if_false]
      exact resting.serve (before := s.chc.front ++ before) (after := after) (e := e) (by simp [split]) (by simp [marked]) rfl
        (kinds status)

/-! ### An attempt (R97 to R99) -/

theorem enterSending (tx : s.chc.tx = .keyUp) : s.enterSending.QueueSound := by
  unfold State.enterSending
  split
  · next none_ => exact State.deferOrIdle_queueSound ⟨h.stocked.of_parts rfl, Chc.served_of_inService_none none_⟩
  · exact h.keep rfl (by rw [tx]; rfl)

theorem seeReady : s.seeReady.QueueSound := by
  have seen : (s.withChc fun c => { c with rrdy := true }).QueueSound := h.keep rfl rfl
  unfold State.seeReady State.onlyIf
  split
  · next tx => exact seen.enterSending (by simpa using tx)
  · exact seen

theorem dropReady (sent : Nat) (back : Bool) : (s.dropReady sent back).QueueSound := by
  unfold State.dropReady State.onlyIf
  simp only
  split
  · exact h.keep rfl rfl
  · exact h.keep rfl rfl

/-- After a failed attempt no entry is in service, and the one that was has risen attempts or has left (R98). -/
theorem failAttempt (cause : AttemptCause) : (s.failAttempt cause).chc.Resting := by
  unfold State.failAttempt
  split
  · next none_ => exact ⟨h.stocked, Chc.served_of_inService_none none_⟩
  · next e found =>
    simp only
    split
    · exact h.stocked.dropInService.of_parts rfl
    next few =>
    split
    · exact h.stocked.dropInService.of_parts rfl
    · refine ⟨h.stocked.map (f := fun x => if x.inService then { x with attempts := x.attempts + 1, inService := false } else x)
          rfl rfl (fun x => by split <;> rfl) fun x member => ?_, ?_⟩
      · have ranges := h.copies x member
        split
        · next serves =>
          obtain rfl := Chc.eq_of_inService h.served_le found member serves
          simp only
          omega
        · exact ranges
      · rw [Chc.served_eq_zero]
        simp only [State.changeInService, State.withChc_chc, ← List.map_append, List.forall_mem_map]
        intro x _
        split
        · rfl
        · next waits => simpa using waits

theorem readyFails : s.readyFails.QueueSound := State.deferOrIdle_queueSound ((h.failAttempt _).of_parts rfl)

theorem endAbort : s.endAbort.QueueSound := .of_resting ((h.failAttempt _).of_parts rfl) rfl

/-! ### A copy sent, the key released, the channel reset (R92, R100, R101) -/

/-- After a copy no entry is in service, and the one that was rejoins with its copies left or has left (R92). -/
theorem countCopy : s.countCopy.chc.Resting := by
  have resting := h.stocked.dropInService
  unfold State.countCopy
  split
  · next none_ => exact ⟨h.stocked, Chc.served_of_inService_none none_⟩
  · next e found =>
    simp only
    split
    · exact resting.of_parts rfl
    · next more =>
      obtain ⟨member, serves⟩ := Chc.inService_mem found
      have ranges := h.copies e member
      have left : s.dropInService.chc.queued < s.chc.queued := by
        have fewer := List.length_filter_lt_length_iff_exists (p := fun x : TxEntry => !x.inService) |>.mpr
          ⟨e, member, by simp [serves]⟩
        rwa [List.filter_append, List.length_append, List.length_append] at fewer
      have dropped : (s.dropInService.withChc fun c => { c with framesSent := count16 c.framesSent, tx := .idle }).QueueSound :=
        .of_resting (resting.of_parts rfl) rfl
      have joined := dropped.joinQueue (e := { e with copies := e.copies - 1, attempts := 0, inService := false }) rfl
        (by simp only; omega) (lt_of_lt_of_le left h.size) fun beacon => by
          have held : e ∈ s.chc.status := by
            rcases List.mem_append.mp member with front | status
            · exact absurd (by rw [show e.kind = .beacon from beacon]; rfl) (h.front e front)
            · exact status
          match eq : s.chc.status, held, h.beacons with
          | [x], held, _ =>
            rw [List.mem_singleton.mp held] at serves
            simp [State.dropInService, eq, serves]
          | _ :: _ :: _, _, one => simp at one
      refine (joined.resting ?_).of_parts ?_
      · rw [State.joinQueue_eq]
        rfl
      · rw [State.joinQueue_eq, State.joinQueue_eq]
        rfl

theorem endKeyDown (tx : s.chc.tx = .keyDown) : s.endKeyDown.QueueSound :=
  State.deferOrIdle_queueSound ((h.resting (by rw [tx]; rfl)).of_parts rfl)

theorem sentCopy : s.countCopy.enterKeyDown.QueueSound := .of_resting (h.countCopy.of_parts rfl) rfl

theorem channelReset : s.channelReset.QueueSound :=
  settleTransmitter (.of_resting (h.stocked.dropInService.of_parts rfl) rfl)

end State.QueueSound

end Sys2Proof.Machine
end

section
/-! SUPPORT. One relation for the operations that touch neither the table of tags nor the peer table: the transmit queue and the event
ring stay sound, no hold begins, and the tables, the receive queue and the settings in force stand. -/

namespace Sys2Proof.Machine

/-! ### The event ring (R163, R166) -/

theorem State.RingSound.of_rcs {s t : State} (h : s.RingSound) (rcs : t.rcs = s.rcs) : t.RingSound := by
  obtain ⟨size, unread, numbers⟩ := h
  rw [← rcs] at size unread
  refine ⟨size, unread, fun i hi => ?_⟩
  simp only [rcs] at hi ⊢
  exact numbers i hi

/-- A record takes the next number, and the oldest of 64 leaves for it. -/
theorem State.RingSound.record {s : State} (h : s.RingSound) (body : RecordBody) : (s.record body).RingSound := by
  obtain ⟨size, unread, numbers⟩ := h
  have length : (s.record body).rcs.ring.length = s.rcs.ring.length + 1 - (s.rcs.ring.length + 1 - 64) := by
    rw [State.record_ring, List.length_drop, List.length_append, List.length_singleton]
  refine ⟨State.record_ring_length_le s body, ?_, fun i hi => ?_⟩
  · rw [length, State.record_unread, satAdd]
    omega
  · rw [length] at hi
    have later (m : Nat) : s.rcs.next - BitVec.ofNat 32 m = s.rcs.next + 1 - BitVec.ofNat 32 (m + 1) := by
      rw [BitVec.ofNat_add]
      exact (add_sub_add_right_eq_sub _ _ _).symm
    simp only [State.record_next, State.record_ring, List.getElem_drop, List.length_drop, List.length_append, List.length_singleton]
    by_cases old : s.rcs.ring.length + 1 - 64 + i < s.rcs.ring.length
    · rw [List.getElem_append_left old, numbers _ old, later]
      congr 2
      omega
    · rw [List.getElem_append_right (by omega), List.getElem_singleton,
        show s.rcs.ring.length + 1 - (s.rcs.ring.length + 1 - 64) - i = 0 + 1 by omega, ← later]
      simp

/-! ### The relation -/

/-- What the groups look at beside the transmit queue. -/
def State.besideQueue (s : State) :=
  (s.rcs, (s.tgu.tags, s.tgu.overflow), (s.ocu.phase.hold, s.ocu.ground.hold), s.pru.peers, s.chc.queue, s.svp.settings)

/-- The tables, the receive queue with its senders, and the settings in force. -/
def State.tables (s : State) :=
  ((s.tgu.tags, s.tgu.overflow), s.pru.peers, s.chc.queue, s.svp.settings)

/-- An operation that touches neither table: the transmit queue and the event ring stay sound, and no hold begins. -/
structure State.Spares (s t : State) : Prop where
  queue : s.QueueSound → t.QueueSound
  ring : s.RingSound → t.RingSound
  holds : ∀ k, (s.ocu.kind k).hold = none → (t.ocu.kind k).hold = none
  tables : t.tables = s.tables

namespace State.Spares

variable {r s t u : State}

@[refl] theorem refl (s : State) : s.Spares s := ⟨id, id, fun _ => id, rfl⟩

theorem trans (h : r.Spares s) (k : s.Spares t) : r.Spares t :=
  ⟨k.queue ∘ h.queue, k.ring ∘ h.ring, fun kind => k.holds kind ∘ h.holds kind, k.tables.trans h.tables⟩

/-- A hand-off of the transmitter, which leaves the OCU and both tables. -/
theorem of_transmitter {t : State} (reaches : s.Reaches true t) (queue : s.QueueSound → t.QueueSound)
    (same : (t.ocu, t.pru, t.tgu) = (s.ocu, s.pru, s.tgu)) : s.Spares t := by
  simp only [Prod.mk.injEq] at same
  obtain ⟨ocu, pru, tgu⟩ := same
  refine ⟨queue, fun ring => ?_, fun k none => by rw [ocu]; exact none, ?_⟩
  · obtain ⟨after, rcs⟩ := reaches.records
    suffices written : ∀ (bodies : List RecordBody) (u : State), u.RingSound → { u with rcs := u.withRecords bodies }.RingSound from
      (written after s ring).of_rcs rcs
    intro bodies
    induction bodies with
    | nil => exact fun _ sound => sound
    | cons body rest ih => exact fun u sound => (ih _ (sound.record body)).of_rcs rfl
  · simp only [State.tables, pru, tgu, reaches.queue, reaches.settings]

/-- An operation beside all that the groups look at. -/
theorem of_beside (parts : t.chc.parts = s.chc.parts) (tx : t.chc.tx = s.chc.tx) (same : t.besideQueue = s.besideQueue) : s.Spares t := by
  simp only [State.besideQueue, Prod.mk.injEq] at same
  obtain ⟨rcs, ⟨tags, overflow⟩, ⟨phase, ground⟩, peers, heard, settings⟩ := same
  refine ⟨fun queue => queue.keep parts (by rw [tx]), fun ring => ring.of_rcs rcs, fun k none => ?_, ?_⟩
  · cases k with
    | phase => exact phase.trans none
    | ground => exact ground.trans none
  · simp only [State.tables, tags, overflow, peers, heard, settings]

section

variable (h : r.Spares s)

include h

theorem withMfp (f : Mfp → Mfp) : r.Spares (s.withMfp f) := h.trans (of_beside rfl rfl rfl)

theorem withSqc (f : Sqc → Sqc) : r.Spares (s.withSqc f) := h.trans (of_beside rfl rfl rfl)

theorem withCdu (f : Cdu → Cdu) : r.Spares (s.withCdu f) := h.trans (of_beside rfl rfl rfl)

theorem withBtu (f : Btu → Btu) : r.Spares (s.withBtu f) := h.trans (of_beside rfl rfl rfl)

/-- An update of the OCU that begins no hold. -/
theorem withOcu {f : Ocu → Ocu} (holds : ∀ k, (s.ocu.kind k).hold = none → ((f s.ocu).kind k).hold = none) :
    r.Spares (s.withOcu f) :=
  h.trans ⟨fun queue => queue.keep rfl rfl, fun ring => ring.of_rcs rfl, holds, rfl⟩

theorem withKind (k : Kind) {f : KindState → KindState} (holds : ∀ x : KindState, x.hold = none → (f x).hold = none) :
    r.Spares (s.withOcu fun o => o.withKind k f) := by
  refine h.withOcu fun j none => ?_
  cases k <;> cases j
  · exact holds _ none
  · exact none
  · exact none
  · exact holds _ none

theorem withChc {f : Chc → Chc} (parts : (f s.chc).parts = s.chc.parts) (tx : (f s.chc).tx = s.chc.tx)
    (heard : (f s.chc).queue = s.chc.queue) : r.Spares (s.withChc f) :=
  h.trans (of_beside parts tx (by simp only [State.besideQueue, State.withChc_chc, heard]; rfl))

theorem withPru {f : Pru → Pru} (peers : (f s.pru).peers = s.pru.peers) : r.Spares (s.withPru f) :=
  h.trans (of_beside rfl rfl (by simp only [State.besideQueue, State.withPru_pru, peers]; rfl))

theorem withTgu {f : Tgu → Tgu} (table : ((f s.tgu).tags, (f s.tgu).overflow) = (s.tgu.tags, s.tgu.overflow)) :
    r.Spares (s.withTgu f) :=
  h.trans (of_beside rfl rfl (by simp only [State.besideQueue, State.withTgu_tgu, table]; rfl))

theorem withSvp {f : Svp → Svp} (settings : (f s.svp).settings = s.svp.settings) : r.Spares (s.withSvp f) :=
  h.trans (of_beside rfl rfl (by simp only [State.besideQueue, State.withSvp_svp, settings]; rfl))

theorem record (body : RecordBody) : r.Spares (s.record body) :=
  h.trans ⟨fun queue => queue.keep rfl rfl, fun ring => ring.record body, fun _ => id, rfl⟩

theorem onlyIf {c : Bool} {f : State → State} (hf : c = true → r.Spares (f s)) : r.Spares (s.onlyIf c f) := by
  cases c with
  | false => exact h
  | true => exact hf rfl

/-! ### The transmitter (R90 to R101) -/

theorem settleTransmitter : r.Spares s.settleTransmitter :=
  h.trans (of_transmitter (State.Reaches.refl s).settleTransmitter (·.settleTransmitter) (by simp))

theorem judgeBusy : r.Spares s.judgeBusy :=
  h.trans (of_transmitter (State.Reaches.refl s).judgeBusy (·.judgeBusy) (by simp))

theorem takeReport (kind : ReportKind) (seq : Byte) (payload : List Byte) : r.Spares (s.takeReport kind seq payload) :=
  h.trans (of_transmitter ((State.Reaches.refl s).takeReport kind seq payload) (·.takeReport kind seq payload) (by simp))

theorem dropStatus : r.Spares s.dropStatus :=
  h.trans (of_transmitter (State.Reaches.refl s).dropStatus (·.dropStatus) (by simp))

theorem enterBackoff (tx : s.chc.tx = .defer) : r.Spares s.enterBackoff :=
  h.trans (of_transmitter (State.Reaches.refl s).enterBackoff (·.enterBackoff tx) (by simp))

theorem enterKeyUp (tx : s.chc.tx = .backoff) : r.Spares s.enterKeyUp :=
  h.trans (of_transmitter (State.Reaches.refl s).enterKeyUp (·.enterKeyUp tx) (by simp))

theorem seeReady : r.Spares s.seeReady :=
  h.trans (of_transmitter (State.Reaches.refl s).seeReady (·.seeReady) (by simp))

theorem dropReady (sent : Nat) (back : Bool) : r.Spares (s.dropReady sent back) :=
  h.trans (of_transmitter ((State.Reaches.refl s).dropReady sent back) (·.dropReady sent back) (by simp))

theorem endKeyDown (tx : s.chc.tx = .keyDown) : r.Spares s.endKeyDown :=
  h.trans (of_transmitter (State.Reaches.refl s).endKeyDown (·.endKeyDown tx) (by simp))

theorem advanceLfsr : r.Spares s.advanceLfsr := h.withChc rfl rfl rfl

end

end State.Spares

end Sys2Proof.Machine
end

section
/-! SUPPORT. The reports, the battery, the coils and the sequence touch neither table and keep the queue and the ring. -/

namespace Sys2Proof.Machine

namespace State.Spares

section

variable {r s : State} (h : r.Spares s)

include h

/-! ### Reports and the beacon timer (R112 to R120) -/

theorem buildReport (kind : ReportKind) (payload : List Byte) : r.Spares (s.buildReport kind payload) :=
  (h.withPru rfl).takeReport kind _ payload

theorem buildPickup (elements : ElementSet) (largest : Nat) : r.Spares (s.buildPickup elements largest) :=
  h.onlyIf fun _ => h.buildReport _ _

theorem stopBeacon : r.Spares s.stopBeacon := h.withPru rfl

theorem buildBeacon : r.Spares s.buildBeacon := h.buildReport _ _

theorem reloadBeacon : r.Spares s.reloadBeacon := h.withPru rfl

theorem expireBeacon : r.Spares s.expireBeacon := h.buildBeacon.reloadBeacon

theorem respanBeacon : r.Spares s.respanBeacon := by
  unfold State.respanBeacon
  split
  · next t i _ _ =>
    split
    · exact h
    · have spanned : r.Spares (s.withPru fun p => { p with beacon := some { t with span := i } }) := h.withPru rfl
      exact spanned.onlyIf fun _ => spanned.expireBeacon
  · exact h

theorem drawBeaconDelay : r.Spares s.drawBeaconDelay := h.advanceLfsr.withPru rfl

theorem drawSequence : r.Spares s.drawSequence := h.advanceLfsr.withPru rfl

theorem followReserve (old : Reserve) : r.Spares (s.followReserve old) := by
  unfold State.followReserve
  split
  · exact h.stopBeacon
  cases s.btu.reserve with
  | critical => exact h.stopBeacon
  | disconnect => exact h.stopBeacon
  | normal =>
    simp only
    split
    · exact h.drawBeaconDelay
    · exact h.respanBeacon
  | reserve =>
    simp only
    split
    · exact h.drawBeaconDelay
    · exact h.respanBeacon

/-! ### The charger and the battery test (R69 to R71, R76 to R83) -/

theorem sendSetpoint : r.Spares s.sendSetpoint := h.onlyIf fun _ => h.withBtu _

theorem setCharger (mode : Charger) : r.Spares (s.setCharger mode) := (h.withBtu _).sendSetpoint

theorem endBoost : r.Spares s.endBoost := (h.withBtu _).setCharger _

theorem boostLimitEnds : r.Spares s.boostLimitEnds := by
  unfold State.boostLimitEnds
  split
  · exact h.withBtu _
  · exact h.endBoost

theorem requestTest (source : TestSource) : r.Spares (s.requestTest source) := h.withBtu _

theorem handleResult (result : TestResult) (resistance : Option Nat) (cause : Option AbandonCause) :
    r.Spares (s.handleResult result resistance cause) := by
  unfold State.handleResult
  dsimp only
  exact onlyIf ((h.record _).withBtu _) fun _ => ((h.record _).withBtu _).setCharger _

theorem abandonTest (cause : AbandonCause) : r.Spares (s.abandonTest cause) := h.onlyIf fun _ => h.handleResult _ _ _

theorem startTest : r.Spares s.startTest := (h.withBtu _).setCharger _

theorem testAtArrival : r.Spares s.testAtArrival := by
  have tested := h.withBtu fun b => { b with testMoment := false }
  exact tested.onlyIf fun _ => tested.startTest

theorem loadEnds : r.Spares s.loadEnds := by
  have freed : r.Spares { s with free := s.free + 1 } := h.trans (of_beside rfl rfl rfl)
  exact (freed.withBtu _).handleResult _ _ _

/-! ### The coils (R50 to R61) -/

theorem refreshCharge : r.Spares s.refreshCharge := by
  rw [State.refreshCharge_eq]
  exact h.withCdu fun c => c.charged s.tripChargePermitted s.closeChargePermitted

theorem beginTripPulse (request : TripRequest) : r.Spares (s.beginTripPulse request) := (h.withCdu _).refreshCharge

theorem beginClosePulse : r.Spares s.beginClosePulse := (h.withCdu _).refreshCharge

theorem endPulse : r.Spares s.endPulse := (h.withCdu _).refreshCharge

theorem preempt : r.Spares s.preempt := h.onlyIf fun _ => (h.withCdu _).endPulse.record _

theorem cduTripOrder : r.Spares s.cduTripOrder := by
  unfold State.cduTripOrder
  simp only
  repeat' split
  · exact (h.preempt.withCdu _).beginTripPulse _
  · exact (h.preempt.withCdu _).withCdu _
  · exact h.preempt.withCdu _
  · exact h.preempt.withCdu _

theorem cduAttemptOrder : r.Spares s.cduAttemptOrder := h.onlyIf fun _ => h.beginTripPulse _

theorem endTripRequest : r.Spares s.endTripRequest := h.withCdu _

theorem withdrawTrip : r.Spares s.withdrawTrip := by
  unfold State.withdrawTrip
  split
  · exact h
  · exact h.endTripRequest
  · exact h.endTripRequest
  · exact h.withCdu _

/-! ### Entries to a sequence state, trips and closes (R25 to R48) -/

theorem enterSeq (new : SeqState) : r.Spares (s.enterSeq new) := by
  have moved := h.withSqc fun q => q.enter new
  have marked := moved.onlyIf (c := new.isClosed)
    (f := fun m => m.withOcu fun o =>
      { o with phase := { o.phase with ownOrder := false }, ground := { o.ground with ownOrder := false } })
    fun _ => moved.withOcu fun k none => by cases k <;> exact none
  have unbarred := marked.onlyIf (c := new.clearsBar)
    (f := fun m => (m.withCdu fun c => { c with closeBarred := false }).refreshCharge)
    fun _ => (marked.withCdu _).refreshCharge
  exact unbarred.onlyIf fun _ => unbarred.abandonTest _

theorem enterLockout (reason : LockReason) : r.Spares (s.enterLockout reason) :=
  (((h.enterSeq .lockout).withSqc _).record _).buildReport _ _

theorem beginTrip (trip : CurrentTrip) : r.Spares (s.beginTrip trip) :=
  ((((h.enterSeq .tripping).withSqc _).cduTripOrder).buildReport _ _).record _

theorem takeTrip (o : TripOrder) : r.Spares (s.takeTrip o) := (h.withSqc _).beginTrip _

theorem sqcTripOrder (o : TripOrder) : r.Spares (s.sqcTripOrder o) := by
  unfold State.sqcTripOrder
  split
  · exact h.takeTrip o
  · exact h.takeTrip o
  · split
    · exact h.takeTrip o
    · exact h
  · split
    · exact h.beginTrip _
    · exact h
  all_goals exact h

theorem sqcTripConfirm : r.Spares s.sqcTripConfirm := by
  unfold State.sqcTripConfirm
  split
  · split
    · exact h.enterLockout _
    · split
      · exact h.enterLockout _
      · exact (h.enterSeq _).withSqc _
  · exact h.enterLockout _
  · exact h

theorem tripFailed : r.Spares s.tripFailed := by
  refine h.onlyIf fun _ => ?_
  have moved := (h.enterSeq .breakerFail).withSqc fun q => { q with reason := some .mechanism }
  cases s.sqc.trip with
  | some trip => exact ((moved.buildReport _ _).buildReport _ _).record _
  | none => exact (moved.buildReport _ _).record _

theorem closeFailure : r.Spares s.closeFailure := h.onlyIf fun _ => h.enterLockout _

theorem fireClose : r.Spares s.fireClose := by
  have ordered := h.withSqc fun q => { q with closeBegun := true, charge := none }
  unfold State.fireClose
  simp only
  split
  · exact ordered.beginClosePulse
  · exact ordered.closeFailure

theorem closeGate (wait : Bool) : r.Spares (s.closeGate wait) := by
  unfold State.closeGate
  repeat' split
  · exact h.enterLockout _
  · exact h.enterLockout _
  · exact h.enterLockout _
  · exact h.enterLockout _
  · exact h.enterLockout _
  · exact ((h.enterSeq _).withSqc _).fireClose
  · exact (h.enterSeq _).withSqc _
  · exact h

theorem readyByHand : r.Spares s.readyByHand := ((h.enterSeq _).withSqc _).record _

theorem closeConfirm : r.Spares s.closeConfirm := by
  refine h.onlyIf fun _ => ?_
  cases s.sqc.closeKind with
  | operator => exact h.readyByHand
  | automatic =>
    simp only
    split
    · exact ((h.record _).enterSeq _).withSqc _
    · exact ((h.record _).enterSeq _).withSqc _

/-! ### Capacitor reports (R31, R34, R41, R50, R55, R57) -/

theorem tripReadyReport : r.Spares s.tripReadyReport := by
  unfold State.tripReadyReport
  split
  · exact h.beginTripPulse _
  · exact h.beginTripPulse _
  · exact h.onlyIf fun _ => h.cduAttemptOrder

theorem closeReadyReport : r.Spares s.closeReadyReport := by
  unfold State.closeReadyReport
  split
  · exact h.closeGate _
  · exact h.onlyIf fun _ => h.fireClose
  · exact h

theorem tripHanded : r.Spares s.tripHanded := by
  unfold State.tripHanded
  split
  · exact (h.withCdu _).tripReadyReport
  · exact h

theorem handReports : r.Spares s.handReports := by
  rw [State.handReports_eq]
  split
  · exact (h.tripHanded.withCdu _).closeReadyReport
  · exact h.tripHanded

theorem deliverVoltages (tripV closeV : Nat) (closing : Bool) : r.Spares (s.deliverVoltages tripV closeV closing) :=
  ((h.withCdu _).refreshCharge).handReports

/-! ### Operator trip and close, and the events from the other blocks (R34, R36, R39 to R44) -/

theorem operatorTrip : r.Spares s.operatorTrip := by
  unfold State.operatorTrip
  repeat' split
  · exact h.beginTrip _
  · exact h.beginTrip _
  · exact h.beginTrip _
  · exact h.enterLockout _
  · exact h.beginTrip _
  · exact h
  · exact h.withSqc _
  · exact h.enterLockout _
  · exact h.enterLockout _
  · exact h

theorem operatorClose : r.Spares s.operatorClose := by
  refine h.onlyIf fun _ => ?_
  have closing := (h.enterSeq .closing).withSqc fun q => { q with closeKind := .operator }
  simp only
  split
  · exact closing.fireClose
  · exact closing.withSqc _

theorem openWithoutPulse : r.Spares s.openWithoutPulse := by
  unfold State.openWithoutPulse
  split
  · exact h.enterLockout _
  · exact h.enterLockout _
  · exact h.enterLockout _
  · exact h

theorem closedWithoutPulse : r.Spares s.closedWithoutPulse := by
  refine h.onlyIf fun _ => ?_
  repeat' split
  · exact h.readyByHand
  · exact h.withSqc _
  · exact h.enterLockout _

theorem sqcTagOn : r.Spares s.sqcTagOn := by
  unfold State.sqcTagOn
  repeat' split
  · exact h.enterLockout _
  · exact h.enterLockout _
  · exact h
  · exact h.enterLockout _
  · exact h

theorem sqcMeasurementLost : r.Spares s.sqcMeasurementLost := h.onlyIf fun _ => h.enterLockout _

theorem sqcCritical : r.Spares s.sqcCritical := by
  unfold State.sqcCritical
  repeat' split
  · exact h.enterLockout _
  · exact h
  · exact h.enterLockout _
  · exact h

theorem sqcCloseEnergyFault : r.Spares s.sqcCloseEnergyFault := by
  unfold State.sqcCloseEnergyFault
  repeat' split
  · exact h.enterLockout _
  · exact h
  · exact h.enterLockout _
  · exact h

theorem sqcHandleDown : r.Spares s.sqcHandleDown := (h.onlyIf fun _ => h.withdrawTrip).enterLockout _

theorem handleGoesDown (btuFirst : Bool) : r.Spares (s.handleGoesDown btuFirst) := by
  have down : r.Spares (s.withTgu fun t => { t with handleDown := true }) := h.withTgu rfl
  unfold State.handleGoesDown
  simp only
  split
  · exact (down.abandonTest _).sqcHandleDown
  · exact down.sqcHandleDown.abandonTest _

theorem sqcResetExpiry : r.Spares s.sqcResetExpiry := by
  have ready := (h.enterSeq .ready).withSqc fun q => { q with shots := 0, stepped := false }
  unfold State.sqcResetExpiry
  simp only
  split
  · exact ready.buildReport _ _
  · exact ready

theorem stepSequence (elements : ElementSet) : r.Spares (s.stepSequence elements) := by
  have raised := h.withSqc fun q => { q with shots := q.shots + 1, stepped := true, stepSet := elements }
  exact (((raised.onlyIf fun _ => raised.enterSeq _).withSqc _).record _).buildReport _ _

theorem sqcEpisodeEnd (longestRun : Nat) (orderRaised : Bool) : r.Spares (s.sqcEpisodeEnd longestRun orderRaised) := by
  unfold State.sqcEpisodeEnd
  cases s.sqc.memory with
  | none => exact h.withSqc _
  | some elements => exact (h.onlyIf fun _ => h.stepSequence elements).withSqc _

end

end State.Spares

end Sys2Proof.Machine
end

section
/-! SUPPORT. The overcurrent elements, the breaker, the reserve, the panel, the memory link, the receiver's states and the service port
touch neither table either; of the holds, only their ends are among these operations. -/

namespace Sys2Proof.Machine

namespace State.Spares

section

variable {r s : State} (h : r.Spares s)

include h

/-! ### Orders, ends of holds, and the frame step (R12, R16 to R22, R136 to R140) -/

/-- An update of the OCU that leaves both kinds as they are held. -/
theorem withOcu_held {f : Ocu → Ocu} (phase : (f s.ocu).phase.hold = s.ocu.phase.hold)
    (ground : (f s.ocu).ground.hold = s.ocu.ground.hold) : r.Spares (s.withOcu f) :=
  h.withOcu fun k none => by
    cases k with
    | phase => exact phase.trans none
    | ground => exact ground.trans none

theorem raiseOrder (o : TripOrder) : r.Spares (s.raiseOrder o) := (h.withOcu_held rfl rfl).sqcTripOrder o

theorem releaseTest (k : Kind) : r.Spares (s.releaseTest k) := by
  unfold State.releaseTest
  split
  · exact h.withKind k fun _ none => none
  · exact h.onlyIf fun _ => h.raiseOrder _

theorem endHold (k : Kind) (cause : Reason) : r.Spares (s.endHold k cause) := by
  unfold State.endHold
  split
  · exact h
  · exact ((h.withKind k fun _ _ => rfl).record _).releaseTest k

theorem endHolds (cause : Reason) : r.Spares (s.endHolds cause) := (h.endHold .phase cause).endHold .ground cause

theorem partnerEnd (k : Kind) (sender : Nat) (cause : Reason) : r.Spares (s.partnerEnd k sender cause) := by
  unfold State.partnerEnd
  repeat' split
  · exact h.endHold k cause
  · exact h
  · exact h

theorem partnerEnds (sender : Nat) (cause : Reason) : r.Spares (s.partnerEnds sender cause) :=
  (h.partnerEnd .phase sender cause).partnerEnd .ground sender cause

theorem firstPickup (elements : ElementSet) (largest : Nat) : r.Spares (s.firstPickup elements largest) :=
  ((h.buildPickup elements largest).withSqc _).abandonTest _

theorem frameStep (f : MeasFields) : r.Spares (s.frameStep f) := by
  have stepped : r.Spares (s.stepped f) := h.withOcu_held rfl rfl
  have noticed : r.Spares (if (s.computeStep f).first then
      (s.stepped f).firstPickup (s.computeStep f).picked (s.computeStep f).largest else s.stepped f) := by
    split
    · exact stepped.firstPickup _ _
    · exact stepped
  have ordered {o : Option TripOrder} {u : State} (hu : r.Spares u) :
      r.Spares (match o with | some o => u.raiseOrder o | none => u) := by
    cases o with
    | some o => exact hu.raiseOrder o
    | none => exact hu
  unfold State.frameStep
  simp only
  split
  · exact (ordered noticed).sqcEpisodeEnd _ _
  · exact ordered noticed

theorem clearElements : r.Spares s.clearElements := h.withOcu_held rfl rfl

theorem freezeCounts : r.Spares s.freezeCounts := h.withOcu_held rfl rfl

theorem tripConfirmed (clearFirst : Bool) : r.Spares (s.tripConfirmed clearFirst) := by
  unfold State.tripConfirmed
  split
  · exact h.clearElements.endHolds _
  · exact (h.endHolds _).clearElements

/-! ### The breaker and the reports of the windows and waits (R52 to R65) -/

theorem changeToOpen (clearFirst : Bool) : r.Spares (s.changeToOpen clearFirst) := by
  unfold State.changeToOpen
  split
  · exact h.endTripRequest.sqcTripConfirm.tripConfirmed _
  · exact h.openWithoutPulse.onlyIf fun _ => h.openWithoutPulse.tripConfirmed _

theorem changeToClosed : r.Spares s.changeToClosed := by
  unfold State.changeToClosed
  split
  · exact (h.withCdu _).closeConfirm
  · exact h.closedWithoutPulse

theorem definiteChange (closed clearFirst : Bool) : r.Spares (s.definiteChange closed clearFirst) := by
  unfold State.definiteChange
  split
  · exact (h.withCdu _).changeToClosed
  · exact (h.withCdu _).changeToOpen _

theorem judgePosition (before : Position) (clearFirst : Bool) : r.Spares (s.judgePosition before clearFirst) := by
  have settled := h.withCdu fun c => { c with indeterminate := none, positionFault := false }
  unfold State.judgePosition
  split
  · exact h.onlyIf fun _ => h.withCdu _
  · exact settled.onlyIf fun _ => settled.definiteChange _ _
  · exact settled.onlyIf fun _ => settled.definiteChange _ _

theorem withInputs (f : Inputs → Inputs) : r.Spares (s.withInputs f) := h.trans (of_beside rfl rfl rfl)

theorem inputGoes (pin : InputPin) (level : Bool) : r.Spares (s.inputGoes pin level) := h.onlyIf fun _ => h.withInputs _

theorem endCount (pin : InputPin) : r.Spares (s.endCount pin) := h.withInputs _

/-- A hand-off for each member of a list, one after another. -/
theorem foldl {α : Type} {f : State → α → State} (hf : ∀ {s : State} (x : α), r.Spares s → r.Spares (f s x)) (l : List α) :
    r.Spares (l.foldl f s) := by
  induction l generalizing s with
  | nil => exact h
  | cons x rest ih => exact ih (hf x h)

theorem contactsGo (contact : Contact) (made : Bool) : r.Spares (s.contactsGo contact made) :=
  h.foldl (fun pin hs => hs.inputGoes pin made) _

theorem changeContact (contact : Contact) (made clearFirst : Bool) : r.Spares (s.changeContact contact made clearFirst) :=
  have ended (pins : List InputPin) : r.Spares (s.setContacts pins made) :=
    (h.foldl (fun pin hs => hs.endCount pin) pins).withCdu _
  h.onlyIf (f := fun s => (s.setContacts _ made).judgePosition s.position clearFirst) fun _ => (ended _).judgePosition _ _

theorem mechanismFailure : r.Spares s.mechanismFailure := h.endTripRequest.tripFailed

theorem endTripWindow : r.Spares s.endTripWindow := by
  have ended := h.withCdu fun c => { c with tripWindow := none }
  unfold State.endTripWindow
  simp only
  repeat' split
  · exact ended
  · exact ended.mechanismFailure
  · exact ended.withCdu _
  · exact ended
  · exact ended.mechanismFailure
  · exact ended.endTripRequest
  · exact ended

theorem endCloseWindow : r.Spares s.endCloseWindow := by
  have ended := h.withCdu fun c => { c with closeWindow := none, closeRequest := false }
  unfold State.endCloseWindow
  simp only
  split
  · exact ended.closeFailure
  · exact ended

theorem tripEnergyFault : r.Spares s.tripEnergyFault := ((h.record _).endTripRequest).tripFailed

theorem closeEnergyFault : r.Spares s.closeEnergyFault :=
  (((h.record _).withCdu _).refreshCharge).sqcCloseEnergyFault

theorem raisePositionFault : r.Spares s.raisePositionFault := (h.withCdu _).record _

/-! ### The reserve state and AC (R67 to R75) -/

theorem changeReserve (new : Reserve) : r.Spares (s.changeReserve new) := by
  have recorded := (h.withBtu fun b =>
      { b with
        reserve := new
        discharged := b.discharged || s.btu.reserve == .normal
        lowVoltage := if s.btu.reserve == .critical then none else b.lowVoltage }).record
    { kind := .reserveChange, reserve := some new, battV := some s.btu.battV }
  exact (((recorded.onlyIf fun _ => recorded.sqcCritical).refreshCharge).followReserve _).settleTransmitter

theorem judgeBattery : r.Spares s.judgeBattery := by
  unfold State.judgeBattery
  exact h.onlyIf fun _ => h.changeReserve _

theorem watchLowVoltage : r.Spares s.watchLowVoltage := h.withBtu _

theorem watchTaper : r.Spares s.watchTaper := h.onlyIf fun _ => h.withBtu _

theorem deliverBattery (v : Nat) (i temperature : Int) : r.Spares (s.deliverBattery v i temperature) :=
  ((h.withBtu _).sendSetpoint.judgeBattery.watchLowVoltage).watchTaper

theorem acReturns : r.Spares s.acReturns := by
  refine judgeBattery ?_
  split
  · exact (h.withBtu _).setCharger _
  · exact (h.withBtu _).setCharger _

theorem acGoes : r.Spares s.acGoes := (((h.withBtu _).setCharger _).abandonTest _).judgeBattery

theorem setShutdown : r.Spares s.setShutdown := ((((h.withBtu _).record _).buildReport _ _).dropStatus).stopBeacon

theorem releaseContactor : r.Spares s.releaseContactor := h.onlyIf fun _ => (h.withBtu _).refreshCharge

/-! ### The measurement link (R1 to R7) -/

theorem bitsToShort (bits : List LinkBit) : r.Spares (s.bitsToShort bits) := by
  unfold State.bitsToShort
  split
  · exact h.withMfp _
  · exact (h.withMfp _).withMfp _
  · exact h

theorem stall : r.Spares s.stall := by
  have ended := h.withMfp fun m => { m with stallTimer := none }
  unfold State.stall
  refine ended.onlyIf fun _ => ?_
  exact ((((ended.withMfp _).freezeCounts.withSqc _).abandonTest _).refreshCharge).withPru rfl

theorem loseMeasurement : r.Spares s.loseMeasurement := by
  have set := h.withMfp fun m => { m with lost := true, lostTimer := none }
  exact set.onlyIf (f := fun s => (s.record _).sqcMeasurementLost) fun _ => (set.record _).sqcMeasurementLost

theorem regainMeasurement : r.Spares s.regainMeasurement := (h.withMfp _).record _

/-! ### The memory link and the panel (R144 to R150, R160, R175) -/

theorem startWrite : r.Spares s.startWrite := (h.withTgu rfl).withSvp rfl

theorem requestWrite : r.Spares s.requestWrite := by
  unfold State.requestWrite
  repeat' split
  · exact h.withTgu rfl
  · exact h.startWrite
  · exact h.withTgu rfl

theorem idleWrite : r.Spares s.idleWrite := h.withTgu rfl

theorem afterWrite : r.Spares s.afterWrite := by
  unfold State.afterWrite
  repeat' split
  · exact (h.onlyIf fun _ => h.idleWrite).withSvp rfl
  · exact h.startWrite
  · exact h.idleWrite.withSvp rfl

theorem endWrite (acknowledged : Bool) : r.Spares (s.endWrite acknowledged) := by
  unfold State.endWrite
  simp only
  split
  · exact (h.withTgu rfl).afterWrite
  · exact ((h.withTgu rfl).record _).afterWrite

theorem freeLink : r.Spares s.freeLink := by
  unfold State.freeLink
  split
  · exact h.startWrite
  · exact h.withSvp rfl

theorem requestRead : r.Spares s.requestRead := h.withSvp (by split <;> rfl)

theorem startErrorTone : r.Spares s.startErrorTone := h.withTgu rfl

theorem closeWindow : r.Spares s.closeWindow := h.withTgu rfl

theorem followWand (runs : List WandRun) (own : Verdict → Bool) : r.Spares (s.followWand runs own) := by
  have beside := Tgu.wandRuns_besideWand s.cfg.wandTolerance runs s.tgu
  have tags := congrArg Tgu.tags beside
  have overflow := congrArg Tgu.overflow beside
  exact h.onlyIf fun _ => h.withTgu (Prod.ext tags overflow)

theorem completeCode : r.Spares s.completeCode := by
  have waiting : r.Spares (s.withTgu fun t => { t with decoder := .wait }) := h.withTgu rfl
  unfold State.completeCode
  simp only
  split
  · exact waiting.withTgu rfl
  · split
    · exact waiting.withTgu rfl
    · exact ((waiting.record _).startErrorTone).closeWindow

theorem followCode (runs : List WandRun) : r.Spares (s.followCode runs) :=
  have followed := h.followWand runs (· == .complete)
  followed.onlyIf fun _ => followed.completeCode

theorem tripPress : r.Spares s.tripPress := by
  unfold State.tripPress
  split
  · exact h.operatorTrip
  · exact h.startErrorTone

theorem closePress : r.Spares s.closePress := by
  unfold State.closePress
  split
  · exact h.operatorClose
  · exact h.startErrorTone

/-! ### The service port and the starts' records (R164, R170 to R172, R180) -/

theorem respond (code : Byte) (answer : Answer) (payload : List Byte) : r.Spares (s.respond code answer payload) :=
  h.withSvp rfl

theorem resetAssembly : r.Spares s.resetAssembly := h.withSvp rfl

theorem discardRequest : r.Spares s.discardRequest := h.resetAssembly.withSvp rfl

theorem serveBad (code : Byte) : r.Spares (s.serveBad code) := (h.withSvp rfl).respond _ _ _

theorem serveRestart : r.Spares s.serveRestart := by
  unfold State.serveRestart
  split
  · exact (h.withSvp rfl).requestRead
  · exact h.respond _ _ _

/-- Records read are unread no longer, and never more are unread than held (R168). -/
theorem serveRecords (n : Word32) : r.Spares (s.serveRecords n) := by
  refine respond (s := s.withRcs fun x => { x with unread := x.unreadAfter n }) (h.trans ?_) _ _ _
  exact ⟨fun queue => queue.keep rfl rfl, fun ring => ⟨ring.size, Nat.sub_le _ _, ring.numbers⟩, fun _ => id, rfl⟩

theorem recordFault (fault : Option SettingsFault) : r.Spares (s.recordFault fault) := by
  unfold State.recordFault
  split
  · exact h.record _
  · exact h

end

/-! ### Operations of the transmitter that make records or count (R92, R98 to R101) -/

section

variable {s : State}

theorem readyFails : s.Spares s.readyFails :=
  of_transmitter (State.Reaches.refl s).readyFails (·.readyFails) (by simp [State.readyFails])

theorem endAbort : s.Spares s.endAbort := of_transmitter (State.Reaches.refl s).endAbort (·.endAbort) (by simp [State.endAbort])

theorem sendCopy : s.Spares s.sendCopy := by
  have counted : s.Spares s.countCopy.enterKeyDown :=
    of_transmitter (State.Reaches.refl s).countCopy.enterKeyDown (·.sentCopy) (by simp)
  exact counted.onlyIf fun _ => counted.releaseContactor

theorem channelReset : s.Spares s.channelReset :=
  of_transmitter (State.Reaches.refl s).channelReset (·.channelReset) (by simp)

end

end State.Spares

end Sys2Proof.Machine
end

section
/-! SUPPORT. The table of tags with its overflow record: what an entry, a removal, a freed place, a restore and a settings restart leave
of it, and what a tag that comes into force leaves of the holds (R137, R140, R152 to R158, R161). -/

namespace Sys2Proof.Machine

/-! ### The table and the overflow record (R152, R157) -/

/-- The entries of a table in order, and a pair in the overflow record that is none of them (R152, R157). -/
structure Tgu.Listed (t : Tgu) : Prop where
  size : t.tags.length ≤ 8
  locals : (t.tags.filter (·.source.isLocal)).length ≤ 4
  pairs : (t.tags.map fun e => (e.source, e.code)).Nodup
  store : ∀ e ∈ t.tags, e.source = .store → e.code = 0 ∧ e.slot = none
  remote : ∀ e ∈ t.tags, e.source.isLocal = false → e.slot = none
  apart : ∀ p, t.overflow = some p → ∀ e ∈ t.tags, e.source = .peer p.peer → e.code ≠ p.code

/-- Such a table with a pair in the overflow record only where it is full (R157). -/
structure Tgu.TableSound (t : Tgu) : Prop where
  listed : t.Listed
  full : t.overflow ≠ none → t.tags.length = 8

/-- No hold stands. -/
def State.Unheld (s : State) : Prop := ∀ k, (s.ocu.kind k).hold = none

theorem State.hasTag_eq_false {s : State} {source : TagSource} {code : Word16} :
    s.hasTag source code = false ↔ ∀ e ∈ s.tgu.tags, e.source = source → e.code ≠ code := by
  simp [State.hasTag, List.any_eq_false]

theorem State.tagsSound_iff (s : State) : s.TagsSound ↔ s.tgu.TableSound ∧ (s.tagInForce = true → s.Unheld) := by
  constructor
  · intro h
    refine ⟨⟨⟨h.size, h.locals, h.pairs, h.store, h.remote, fun p held => State.hasTag_eq_false.mp (h.overflow p held).2⟩,
      fun some_ => ?_⟩, fun force k => ?_⟩
    · obtain ⟨p, held⟩ := Option.ne_none_iff_exists'.mp some_
      exact (h.overflow p held).1
    · obtain ⟨phase, ground⟩ := h.holds force
      cases k with
      | phase => exact phase
      | ground => exact ground
  · rintro ⟨⟨listed, full⟩, holds⟩
    exact ⟨listed.size, listed.locals, listed.pairs, listed.store, listed.remote,
      fun p held => ⟨full (by simp [held]), State.hasTag_eq_false.mpr (listed.apart p held)⟩,
      fun force => ⟨holds force .phase, holds force .ground⟩⟩

/-- The table and the overflow record. -/
def Tgu.table (t : Tgu) : List TagEntry × Option RemotePair := (t.tags, t.overflow)

/-- Tag in force looks at the table and the overflow record alone (R158). -/
theorem State.tagInForce_eq {s t : State} (table : t.tgu.table = s.tgu.table) : t.tagInForce = s.tagInForce := by
  simp only [Tgu.table, Prod.mk.injEq] at table
  rw [State.tagInForce, table.1, table.2, State.tagInForce]

namespace Tgu.Listed

variable {t u : Tgu} (h : t.Listed)

include h

/-- Entries that leave the table, with the overflow record kept or emptied. -/
theorem sublist (tags : u.tags.Sublist t.tags) (overflow : u.overflow = t.overflow ∨ u.overflow = none) : u.Listed where
  size := tags.length_le.trans h.size
  locals := (tags.filter _).length_le.trans h.locals
  pairs := h.pairs.sublist (tags.map _)
  store e member := h.store e (tags.subset member)
  remote e member := h.remote e (tags.subset member)
  apart p held e member := by
    rcases overflow with same | empty
    · exact h.apart p (same ▸ held) e (tags.subset member)
    · rw [empty] at held
      cases held

theorem of_table (table : u.table = t.table) : u.Listed := by
  simp only [Tgu.table, Prod.mk.injEq] at table
  exact h.sublist (by rw [table.1]) (.inl table.2)

/-- A new pair enters a table with room, its overflow record empty (R152). -/
theorem enter {e : TagEntry} (tags : u.tags = t.tags ++ [e]) (overflow : u.overflow = none) (room : t.tags.length < 8)
    (new : ∀ x ∈ t.tags, x.source = e.source → x.code ≠ e.code)
    (locals : e.source.isLocal = true → (t.tags.filter (·.source.isLocal)).length < 4) (store : e.source ≠ .store)
    (remote : e.source.isLocal = false → e.slot = none) : u.Listed where
  size := by
    rw [tags, List.length_append, List.length_singleton]
    exact room
  locals := by
    rw [tags, List.filter_append, List.length_append]
    by_cases isLocal : e.source.isLocal = true
    · simpa [isLocal] using locals isLocal
    · simpa [isLocal] using h.locals
  pairs := by
    rw [tags, List.map_append, List.map_singleton, List.nodup_append]
    refine ⟨h.pairs, List.nodup_singleton _, fun pair held other is => ?_⟩
    obtain ⟨x, member, rfl⟩ := List.mem_map.mp held
    rw [List.mem_singleton.mp is]
    intro same
    rw [Prod.mk.injEq] at same
    exact new x member same.1 same.2
  store x member is := by
    rw [tags, List.mem_append, List.mem_singleton] at member
    rcases member with old | rfl
    · exact h.store x old is
    · exact absurd is store
  remote x member is := by
    rw [tags, List.mem_append, List.mem_singleton] at member
    rcases member with old | rfl
    · exact h.remote x old is
    · exact remote is
  apart p held := by
    rw [overflow] at held
    cases held

/-- A table with its overflow record empty is sound. -/
theorem sound (empty : t.overflow = none) : t.TableSound := ⟨h, fun some_ => absurd empty some_⟩

end Tgu.Listed

namespace Tgu.TableSound

variable {t u : Tgu} (h : t.TableSound)

include h

theorem of_table (table : u.table = t.table) : u.TableSound := by
  refine ⟨h.listed.of_table table, ?_⟩
  simp only [Tgu.table, Prod.mk.injEq] at table
  rw [table.1, table.2]
  exact h.full

/-- Where there is room the overflow record is empty. -/
theorem empty_of_room (room : t.tags.length < 8) : t.overflow = none := by
  by_contra some_
  have full := h.full some_
  omega

/-- The slots are found afresh in another crew code table (R143, R162). -/
theorem restart (st : Settings) : (t.restart st).TableSound where
  listed :=
    { size := by simpa [Tgu.restart] using h.listed.size
      locals := by simpa [Tgu.restart, List.filter_map, Function.comp_def, TagEntry.reslot] using h.listed.locals
      pairs := by simpa [Tgu.restart, Function.comp_def, TagEntry.reslot] using h.listed.pairs
      store := by
        simp only [Tgu.restart, List.forall_mem_map]
        intro e member is
        obtain ⟨code, -⟩ := h.listed.store e member is
        have store : e.source = .store := is
        simp [TagEntry.reslot, store, TagSource.isLocal, code, Settings.crewSlot]
      remote := by
        simp only [Tgu.restart, List.forall_mem_map]
        intro e _ is
        have remote : e.source.isLocal = false := is
        simp [TagEntry.reslot, remote]
      apart := by
        simp only [Tgu.restart, List.forall_mem_map]
        exact h.listed.apart }
  full := by simpa [Tgu.restart] using h.full

end Tgu.TableSound

/-! ### Entries, removals and freed places (R152, R155 to R157) -/

/-- A pair that the table holds leaves it, and a place is free (R152). -/
theorem State.removeTag_listed {s : State} (h : s.tgu.Listed) {source : TagSource} {code : Word16}
    (held : s.hasTag source code = true) :
    (s.removeTag source code).tgu.Listed ∧ (s.removeTag source code).tgu.tags.length < 8 := by
  refine ⟨h.sublist List.filter_sublist (.inl rfl), lt_of_lt_of_le ?_ h.size⟩
  simp only [State.hasTag, List.any_eq_true] at held
  obtain ⟨e, member, is⟩ := held
  exact List.length_filter_lt_length_iff_exists.mpr ⟨e, member, by simp [is]⟩

/-- A freed place is offered to the overflow record (R157). -/
theorem State.offerPlace_tableSound {s : State} (h : s.tgu.Listed) (room : s.tgu.tags.length < 8) :
    s.offerPlace.tgu.TableSound := by
  unfold State.offerPlace
  split
  · next p held =>
    refine Tgu.Listed.sound ?_ rfl
    exact h.enter (e := { source := .peer p.peer, code := p.code, applied := s.now, slot := none }) rfl rfl room
      (h.apart p held) nofun nofun fun _ => rfl
  · next none_ => exact h.sound none_

/-- A remote pair that is not held goes to the table or to the overflow record of a full one (R155, R157). -/
theorem State.enterRemote_tableSound {s : State} (h : s.tgu.TableSound) {peer : Nat} {code : Word16}
    (new : s.hasTag (.peer peer) code = false) : (s.enterRemote peer code).tgu.TableSound := by
  have apart := State.hasTag_eq_false.mp new
  unfold State.enterRemote
  split
  · next room =>
    refine Tgu.Listed.sound ?_ (h.empty_of_room room)
    exact h.listed.enter (e := { source := .peer peer, code := code, applied := s.now, slot := none }) rfl
      (h.empty_of_room room) room apart nofun nofun fun _ => rfl
  · next full =>
    have size := h.listed.size
    refine ⟨⟨size, h.listed.locals, h.listed.pairs, h.listed.store, h.listed.remote, ?_⟩, fun _ => ?_⟩
    · rintro _ ⟨⟩
      exact apart
    · change s.tgu.tags.length = 8
      omega

/-- A pair not held by the table or the overflow record is not in the table. -/
theorem State.hasTag_of_not_holdsPair {s : State} {peer : Nat} {code : Word16} (new : (!s.holdsPair peer code) = true) :
    s.hasTag (.peer peer) code = false := by
  simp only [State.holdsPair, Bool.not_eq_true', Bool.or_eq_false_iff] at new
  exact new.1

/-! ### A peer tag list (R156) -/

/-- Entries that leave one after another leave a part of the table, and a smaller one where one was held. -/
theorem State.foldl_removeTag (l : List TagEntry) (s : State) :
    (l.foldl (fun s e => s.removeTag e.source e.code) s).tgu.overflow = s.tgu.overflow ∧
    (l.foldl (fun s e => s.removeTag e.source e.code) s).tgu.tags.Sublist s.tgu.tags ∧
    ((∃ e ∈ l.head?, e ∈ s.tgu.tags) →
      (l.foldl (fun s e => s.removeTag e.source e.code) s).tgu.tags.length < s.tgu.tags.length) := by
  induction l generalizing s with
  | nil => exact ⟨rfl, .refl _, by simp⟩
  | cons x rest ih =>
    obtain ⟨overflow, tags, -⟩ := ih (s.removeTag x.source x.code)
    refine ⟨overflow, tags.trans List.filter_sublist, ?_⟩
    simp only [List.head?_cons, Option.mem_def, Option.some.injEq, exists_eq_left']
    intro member
    exact tags.length_le.trans_lt (List.length_filter_lt_length_iff_exists.mpr ⟨x, member, by simp⟩)

/-- Strays leave the table and the overflow record (R156). -/
theorem State.dropStrays_listed {s : State} (h : s.tgu.TableSound) (peer : Nat) (codes : List Word16) :
    (s.dropStrays peer codes).tgu.Listed ∧
    (if (s.strayTags peer codes).isEmpty then (s.dropStrays peer codes).tgu.TableSound
      else (s.dropStrays peer codes).tgu.tags.length < 8) := by
  obtain ⟨overflow, tags, fewer⟩ := State.foldl_removeTag (s.strayTags peer codes) s
  have removed : ∀ u : State, u = (s.strayTags peer codes).foldl (fun s e => s.removeTag e.source e.code) s →
      (s.dropStrays peer codes).tgu.tags = u.tgu.tags ∧
      ((s.dropStrays peer codes).tgu.overflow = u.tgu.overflow ∨ (s.dropStrays peer codes).tgu.overflow = none) := by
    rintro _ rfl
    unfold State.dropStrays State.onlyIf
    simp only
    split
    · split
      · exact ⟨rfl, .inr rfl⟩
      · exact ⟨rfl, .inl rfl⟩
    · exact ⟨rfl, .inl rfl⟩
  obtain ⟨same, kept⟩ := removed _ rfl
  rw [overflow] at kept
  refine ⟨h.listed.sublist (by rw [same]; exact tags) kept, ?_⟩
  split
  · next none_ =>
    rw [List.isEmpty_iff.mp none_] at same
    refine ⟨h.listed.sublist (by rw [same]; rfl) kept, fun some_ => ?_⟩
    rw [same]
    refine h.full ?_
    rcases kept with kept | kept
    · rwa [← kept]
    · exact absurd kept some_
  · next some_ =>
    rw [same]
    refine lt_of_lt_of_le (fewer ?_) h.listed.size
    obtain ⟨e, rest, strays⟩ := List.exists_cons_of_ne_nil (by simpa using some_)
    have member : e ∈ s.strayTags peer codes := by simp [strays]
    exact ⟨e, by simp [strays], (List.mem_filter.mp member).1⟩

/-- The missing codes of a list are entered one after another (R156). -/
theorem State.enterList_tableSound {s : State} (h : s.tgu.TableSound) (peer : Nat) (codes : List Word16) :
    (s.enterList peer codes).tgu.TableSound := by
  unfold State.enterList
  generalize codes.eraseDups = l
  induction l generalizing s with
  | nil => exact h
  | cons code rest ih =>
    refine ih ?_
    dsimp only
    unfold State.onlyIf
    split
    · next new => exact State.enterRemote_tableSound h (State.hasTag_of_not_holdsPair new)
    · exact h

/-! ### The restore at cold start (R161) -/

/-- What an entry of a tag store image spells: a local source, with the code 0 for STORE. -/
theorem storeEntry_local {bytes : List Byte} {k : Nat} {entry : TagSource × Word16} (h : storeEntry bytes k = some entry) :
    entry.1.isLocal = true ∧ (entry.1 = .store → entry.2 = 0) := by
  unfold storeEntry at h
  simp only at h
  split at h
  · rw [Option.ite_none_left_eq_some, Option.some.injEq] at h
    obtain ⟨-, rfl⟩ := h
    exact ⟨rfl, nofun⟩
  · rw [Option.ite_none_left_eq_some, Option.some.injEq] at h
    obtain ⟨-, rfl⟩ := h
    exact ⟨rfl, nofun⟩
  · rw [Option.ite_none_right_eq_some, Option.some.injEq] at h
    obtain ⟨zero, rfl⟩ := h
    exact ⟨rfl, fun _ => zero⟩
  · cases h

theorem State.restoreTags_tableSound {s : State} (empty : s.tgu.overflow = none) (read : MemRead) :
    (s.restoreTags read).tgu.TableSound := by
  unfold State.restoreTags
  split
  · next entries judged =>
    have good : entries.length ≤ 4 ∧ entries.Nodup ∧ ∀ e ∈ entries, e.1.isLocal = true ∧ (e.1 = .store → e.2 = 0) := by
      unfold judgeStore at judged
      split at judged
      · cases judged
      · simp only at judged
        split at judged
        · next bytes good =>
          obtain ⟨-, -, few, length, nodup, -⟩ := good
          obtain rfl := Option.some.inj judged
          refine ⟨by omega, nodup, fun e member => ?_⟩
          obtain ⟨k, -, spelt⟩ := List.mem_filterMap.mp member
          exact storeEntry_local spelt
        · cases judged
    obtain ⟨few, nodup, locals⟩ := good
    refine Tgu.Listed.sound ⟨?_, ?_, ?_, ?_, ?_, ?_⟩ empty
    · simp only [State.withTgu_tgu, List.length_map]
      omega
    · refine (List.length_filter_le _ _).trans ?_
      simpa using few
    · simpa [Function.comp_def] using nodup
    · simp only [State.withTgu_tgu, List.forall_mem_map]
      intro e member is
      exact ⟨(locals e member).2 is, by simp [(locals e member).2 is, Settings.crewSlot]⟩
    · simp only [State.withTgu_tgu, List.forall_mem_map]
      intro e member is
      exact absurd ((locals e member).1.symm.trans is) (by decide)
    · intro p held
      rw [show s.tgu.overflow = some p from held] at empty
      cases empty
  · refine Tgu.Listed.sound ⟨Nat.le_of_ble_eq_true rfl, Nat.le_of_ble_eq_true rfl, List.nodup_singleton _, ?_, ?_, ?_⟩ empty
    · rintro e member -
      rw [List.mem_singleton.mp member]
      exact ⟨rfl, rfl⟩
    · rintro e member -
      rw [List.mem_singleton.mp member]
    · intro p held
      rw [show s.tgu.overflow = some p from held] at empty
      cases empty

end Sys2Proof.Machine
end

section
/-! SUPPORT. The four groups together: whatever of the queue, the ring, the table of tags and the peer table is sound stays sound. The
events that touch the tags, the partner pickups, and the places of the peer table. -/

namespace Sys2Proof.Machine

/-! ### The relation -/

/-- From one state to another, whatever of the four groups is sound stays sound. -/
structure State.Upholds (s t : State) : Prop where
  queue : s.QueueSound → t.QueueSound
  ring : s.RingSound → t.RingSound
  tags : s.TagsSound → t.TagsSound
  peers : s.PeersSound → t.PeersSound

theorem State.PeersSound.of_same {s t : State}
    (same : (t.pru.peers, t.chc.queue, t.svp.settings) = (s.pru.peers, s.chc.queue, s.svp.settings)) (h : s.PeersSound) :
    t.PeersSound := by
  simp only [Prod.mk.injEq] at same
  obtain ⟨peers, queue, settings⟩ := same
  have cfg : t.cfg = s.cfg := settings
  obtain ⟨places, ids, range, senders⟩ := h
  rw [← peers] at places ids range
  rw [← cfg] at range senders
  rw [← queue] at senders
  exact ⟨places, ids, range, senders⟩

theorem State.Spares.upholds {s t : State} (h : s.Spares t) : s.Upholds t := by
  have tables := h.tables
  simp only [State.tables, Prod.mk.injEq] at tables
  obtain ⟨⟨tags, overflow⟩, peers, queue, settings⟩ := tables
  have table : t.tgu.table = s.tgu.table := Prod.ext tags overflow
  refine ⟨h.queue, h.ring, fun sound => ?_, .of_same (by rw [peers, queue, settings])⟩
  rw [State.tagsSound_iff] at sound ⊢
  exact ⟨sound.1.of_table table, fun force k => h.holds k (sound.2 (by rwa [← State.tagInForce_eq table]) k)⟩

namespace State.Upholds

variable {r s t : State}

@[refl] theorem refl (s : State) : s.Upholds s := ⟨id, id, id, id⟩

theorem trans (h : r.Upholds s) (k : s.Upholds t) : r.Upholds t :=
  ⟨k.queue ∘ h.queue, k.ring ∘ h.ring, k.tags ∘ h.tags, k.peers ∘ h.peers⟩

/-- A further operation that touches neither table. -/
theorem andThen (h : r.Upholds s) (k : s.Spares t) : r.Upholds t := h.trans k.upholds

theorem onlyIf {c : Bool} {f : State → State} (hf : c = true → s.Upholds (f s)) : s.Upholds (s.onlyIf c f) := by
  cases c with
  | false => exact refl s
  | true => exact hf rfl

theorem whenStarted {f : State → State} (hf : s.Upholds (f s)) : s.Upholds (s.whenStarted f) := by
  unfold State.whenStarted
  split
  · exact hf
  · exact refl s

end State.Upholds

/-! ### Changes to the table of tags (R152 to R158) -/

/-- A change that may touch the table of tags, and begins no hold. -/
structure State.Retags (s t : State) : Prop where
  queue : s.QueueSound → t.QueueSound
  ring : s.RingSound → t.RingSound
  holds : s.Unheld → t.Unheld
  others : (t.pru.peers, t.chc.queue, t.svp.settings) = (s.pru.peers, s.chc.queue, s.svp.settings)

theorem State.Spares.retags {s t : State} (h : s.Spares t) : s.Retags t := by
  have tables := h.tables
  simp only [State.tables, Prod.mk.injEq] at tables
  obtain ⟨-, peers, queue, settings⟩ := tables
  exact ⟨h.queue, h.ring, fun none k => h.holds k (none k), by rw [peers, queue, settings]⟩

theorem State.Spares.table {s t : State} (h : s.Spares t) : t.tgu.table = s.tgu.table := congrArg Prod.fst h.tables

namespace State.Retags

variable {r s t : State}

@[refl] theorem refl (s : State) : s.Retags s := ⟨id, id, id, rfl⟩

theorem trans (h : r.Retags s) (k : s.Retags t) : r.Retags t :=
  ⟨k.queue ∘ h.queue, k.ring ∘ h.ring, k.holds ∘ h.holds, k.others.trans h.others⟩

section

variable (h : r.Retags s)

include h

theorem andThen (k : s.Spares t) : r.Retags t := h.trans k.retags

theorem withTgu (f : Tgu → Tgu) : r.Retags (s.withTgu f) :=
  h.trans ⟨fun queue => queue.keep rfl rfl, fun ring => ring.of_rcs rfl, id, rfl⟩

theorem record (body : RecordBody) : r.Retags (s.record body) := h.andThen ((State.Spares.refl s).record body)

theorem onlyIf {c : Bool} {f : State → State} (hf : c = true → r.Retags (f s)) : r.Retags (s.onlyIf c f) := by
  cases c with
  | false => exact h
  | true => exact hf rfl

theorem enterTag (source : TagSource) (code : Word16) (slot : Option Nat) : r.Retags (s.enterTag source code slot) :=
  (h.withTgu _).record _

theorem removeTag (source : TagSource) (code : Word16) : r.Retags (s.removeTag source code) := (h.withTgu _).record _

theorem clearOverflow : r.Retags s.clearOverflow := h.withTgu _

theorem offerPlace : r.Retags s.offerPlace := by
  unfold State.offerPlace
  split
  · exact h.clearOverflow.enterTag _ _ _
  · exact h

theorem enterRemote (peer : Nat) (code : Word16) : r.Retags (s.enterRemote peer code) := by
  unfold State.enterRemote
  split
  · exact h.enterTag _ _ _
  · exact (h.withTgu _).record _

theorem foldl {α : Type} {f : State → α → State} (hf : ∀ {s : State} (x : α), r.Retags s → r.Retags (f s x)) (l : List α) :
    r.Retags (l.foldl f s) := by
  induction l generalizing s with
  | nil => exact h
  | cons x rest ih => exact ih (hf x h)

theorem dropStrays (peer : Nat) (codes : List Word16) : r.Retags (s.dropStrays peer codes) := by
  have removed : r.Retags ((s.strayTags peer codes).foldl (fun s e => s.removeTag e.source e.code) s) :=
    h.foldl (fun e hs => hs.removeTag e.source e.code) _
  unfold State.dropStrays
  simp only
  split
  · exact removed.onlyIf fun _ => removed.clearOverflow
  · exact removed

theorem enterList (peer : Nat) (codes : List Word16) : r.Retags (s.enterList peer codes) :=
  h.foldl (fun code hs => hs.onlyIf fun _ => hs.enterRemote peer code) _

end

end State.Retags

namespace State.Upholds

variable (s : State)

/-- An event that touches the table is judged after it: a tag that comes into force ends both holds (R140, R158). -/
theorem tagEvent {s : State} {event : State → State} (retags : s.Retags (event s))
    (table : s.tgu.TableSound → (event s).tgu.TableSound) : s.Upholds (s.tagEvent event) := by
  have same := State.Spares.refl (event s)
  have judged : (event s).Spares (s.tagEvent event) := by
    unfold State.tagEvent
    exact same.onlyIf fun _ => same.sqcTagOn.endHolds _
  have all := retags.andThen judged
  refine ⟨all.queue, all.ring, fun sound => ?_, .of_same all.others⟩
  rw [State.tagsSound_iff] at sound ⊢
  obtain ⟨sound, holds⟩ := sound
  refine ⟨(table sound).of_table judged.table, fun force => ?_⟩
  rw [State.tagInForce_eq judged.table] at force
  by_cases before : s.tagInForce = true
  · exact all.holds (holds before)
  · rw [State.tagEvent, show (!s.tagInForce && (event s).tagInForce) = true by simp [before, force], State.onlyIf_true]
    rintro (_ | _)
    · exact State.endHolds_phase _ _
    · exact State.endHolds_ground _ _

/-- A local apply that is entered finds the pair new and room for it (R153). -/
theorem localApply {source : TagSource} (isLocal : source.isLocal = true) (store : source ≠ .store) (code : Word16)
    (slot : Option Nat) : s.Upholds (s.localApply source code slot) := by
  refine onlyIf fun entered => tagEvent ?_ fun sound => ?_
  · exact ((Retags.refl s).enterTag source code slot).andThen (((Spares.refl _).buildReport _ _).requestWrite)
  · have kept := (((Spares.refl (s.enterTag source code slot)).buildReport .tag (beBytes 2 code.toNat)).requestWrite).table
    refine Tgu.TableSound.of_table ?_ kept
    simp only [State.applyResult, beq_iff_eq] at entered
    split at entered
    · cases entered
    next new =>
    split at entered
    · cases entered
    next room =>
    obtain ⟨locals, room⟩ := not_or.mp room
    refine Tgu.Listed.sound ?_ (sound.empty_of_room (by omega))
    exact sound.listed.enter (e := { source := source, code := code, applied := s.now, slot := slot }) rfl
      (sound.empty_of_room (by omega)) (by omega) (State.hasTag_eq_false.mp (by simpa using new)) (fun _ => by omega) store
      fun remote => absurd (isLocal.symm.trans remote) (by decide)

/-- What a local removal takes out is an entry of the table. -/
theorem removalChoice_mem {s : State} {own other : TagSource} {code : Word16} {e : TagEntry}
    (chosen : s.removalChoice own other code = some e) : s.hasTag e.source e.code = true := by
  have member : e ∈ s.tgu.tags := by
    simp only [State.removalChoice, Option.or_eq_some_iff] at chosen
    rcases chosen with ((found | ⟨-, found⟩) | ⟨-, found⟩) | ⟨-, found⟩
    all_goals exact List.mem_of_find?_eq_some found
  simp only [State.hasTag, List.any_eq_true]
  exact ⟨e, member, by simp⟩

theorem localRemoval (own other : TagSource) (code : Word16) : s.Upholds (s.localRemoval own other code) := by
  unfold State.localRemoval
  split
  · exact refl s
  · next e chosen =>
    have later := ((Spares.refl (s.removeTag e.source e.code)).buildReport .untag (beBytes 2 e.code.toNat)).requestWrite
    refine tagEvent (((Retags.refl s).removeTag _ _).andThen later).offerPlace fun sound => ?_
    obtain ⟨listed, room⟩ := State.removeTag_listed sound.listed (removalChoice_mem chosen)
    refine State.offerPlace_tableSound (listed.of_table later.table) ?_
    have tags : ((s.removeTag e.source e.code).buildUntag e.code).requestWrite.tgu.tags = (s.removeTag e.source e.code).tgu.tags :=
      congrArg Prod.fst later.table
    rwa [tags]

theorem peerTag (peer : Nat) (code : Word16) : s.Upholds (s.peerTag peer code) :=
  onlyIf fun new => tagEvent ((Retags.refl s).enterRemote peer code) fun sound =>
    State.enterRemote_tableSound sound (State.hasTag_of_not_holdsPair new)

theorem peerUntag (peer : Nat) (code : Word16) : s.Upholds (s.peerUntag peer code) := by
  have same := Retags.refl s
  refine tagEvent ?_ fun sound => ?_
  · split
    · exact (same.removeTag _ _).offerPlace
    · exact same.onlyIf fun _ => same.clearOverflow
  · split
    · next held =>
      obtain ⟨listed, room⟩ := State.removeTag_listed sound.listed held
      exact State.offerPlace_tableSound listed room
    · unfold State.onlyIf
      split
      · exact (sound.listed.sublist (u := s.clearOverflow.tgu) (.refl _) (.inr rfl)).sound rfl
      · exact sound

theorem peerTagList (peer : Nat) (codes : List Word16) : s.Upholds (s.peerTagList peer codes) := by
  have dropped := (Retags.refl s).dropStrays peer codes
  refine tagEvent ((dropped.onlyIf fun _ => dropped.offerPlace).enterList peer codes) fun sound => ?_
  refine State.enterList_tableSound ?_ peer codes
  obtain ⟨listed, room⟩ := State.dropStrays_listed sound peer codes
  unfold State.onlyIf
  cases empty : (s.strayTags peer codes).isEmpty with
  | true =>
    rw [empty, if_pos rfl] at room
    exact room
  | false =>
    rw [empty, if_neg (by simp)] at room
    exact State.offerPlace_tableSound listed room

/-! ### The keys and requests that change tags (R150, R153, R154) -/

theorem tagOnPress : s.Upholds s.tagOnPress := by
  unfold State.tagOnPress
  split
  · exact refl s
  · next w _ =>
    have closed := (Spares.refl (s.localApply .localPanel w.code (some w.slot))).closeWindow
    exact (localApply s (source := .localPanel) rfl nofun _ _).andThen (closed.onlyIf fun _ => closed.startErrorTone)

theorem tagOffPress : s.Upholds s.tagOffPress := by
  unfold State.tagOffPress
  split
  · exact refl s
  · next w _ =>
    have closed := (Spares.refl (s.localRemoval .localPanel .service w.code)).closeWindow
    exact (localRemoval s _ _ _).andThen (closed.onlyIf fun _ => closed.startErrorTone)

theorem serveTagApply (code : Word16) : s.Upholds (s.serveTagApply code) := by
  have applied : s.Upholds (s.onlyIf (s.cfg.crewSlot code).isSome fun s => s.localApply .service code (s.cfg.crewSlot code)) :=
    onlyIf fun _ => localApply s (source := .service) rfl nofun _ _
  exact applied.andThen ((Spares.refl _).respond _ _ _)

theorem serveTagRemove (code : Word16) : s.Upholds (s.serveTagRemove code) := by
  unfold State.serveTagRemove
  split
  · exact (localRemoval s _ _ _).andThen ((Spares.refl _).respond _ _ _)
  · exact ((Spares.refl s).respond _ _ _).upholds

/-! ### Partner pickups (R132 to R135, R140) -/

/-- A hold that may begin begins with no tag in force (R140). -/
theorem of_hold {t : State} (force : s.tagInForce = false) (ring : s.RingSound → t.RingSound)
    (same : (t.chc, t.tgu, t.pru, t.svp) = (s.chc, s.tgu, s.pru, s.svp)) : s.Upholds t := by
  simp only [Prod.mk.injEq] at same
  obtain ⟨chc, tgu, pru, svp⟩ := same
  refine ⟨fun queue => queue.keep (by rw [chc]) (by rw [chc]), ring, fun sound => ?_, .of_same (by rw [pru, chc, svp])⟩
  rw [State.tagsSound_iff] at sound ⊢
  refine ⟨by rw [tgu]; exact sound.1, fun now => ?_⟩
  rw [State.tagInForce_eq (congrArg Tgu.table tgu), force] at now
  cases now

theorem partnerPickup (k : Kind) (sender position : Nat) (arrival : Word32) :
    s.Upholds (s.partnerPickup k sender position arrival) := by
  unfold State.partnerPickup
  simp only
  split
  · exact refl s
  · next admitted =>
    have force : s.tagInForce = false := by
      simp only [Bool.or_eq_true, not_or, Bool.not_eq_true] at admitted
      exact admitted.2
    split
    · refine onlyIf fun _ => of_hold s force (fun ring => ?_) rfl
      exact State.RingSound.record (s := s.withOcu _) (ring.of_rcs rfl) _
    · exact of_hold s force (fun ring => ring.of_rcs rfl) rfl

theorem partnerPickups (sender position : Nat) (elements : ElementSet) (arrival : Word32) :
    s.Upholds (s.partnerPickups sender position elements arrival) := by
  have phased : s.Upholds (s.onlyIf (elements.covers .phase) fun s => s.partnerPickup .phase sender position arrival) :=
    onlyIf fun _ => partnerPickup s _ _ _ _
  exact phased.trans (onlyIf (f := fun s => s.partnerPickup .ground sender position arrival) fun _ => partnerPickup _ _ _ _ _)

theorem partnerHandOff (x : RxRecord) (kind : ReportKind) : s.Upholds (s.partnerHandOff x kind) := by
  refine onlyIf fun _ => ?_
  split
  · exact partnerPickups s _ _ _ _
  · exact ((Spares.refl s).partnerEnds _ _).upholds
  · exact ((Spares.refl s).partnerEnds _ _).upholds
  · exact refl s

theorem handOff (x : RxRecord) (kind : ReportKind) : s.Upholds (s.handOff x kind) := by
  refine onlyIf fun _ => ?_
  cases kind with
  | pickup => exact partnerHandOff s x _
  | trip => exact partnerHandOff s x _
  | clear => exact partnerHandOff s x _
  | tag => exact peerTag s _ _
  | untag => exact peerUntag s _ _
  | beacon => exact peerTagList s _ _
  | lockout => exact refl s
  | shutdown => exact refl s

end State.Upholds

end Sys2Proof.Machine
end

section
/-! SUPPORT. The places of the peer table, the records taken from the receive queue, the deliveries of a frame and the receiver keep the
four groups sound. -/

namespace Sys2Proof.Machine

/-! ### The places of the peer table (R124, R127) -/

/-- The peer table of a station (R124). -/
structure PeerTable (station : Nat) (peers : List (Option PeerEntry)) : Prop where
  places : peers.length = 16
  ids : (peers.reduceOption.map (·.id)).Nodup
  range : ∀ e ∈ peers.reduceOption, 1 ≤ e.id ∧ e.id ≤ 250 ∧ 1 ≤ e.position ∧ e.position ≤ 63 ∧ e.id ≠ station

theorem State.peersSound_iff (s : State) :
    s.PeersSound ↔ PeerTable s.cfg.stationId s.pru.peers ∧ ∀ r ∈ s.chc.queue, r.sender ≠ s.cfg.stationId :=
  ⟨fun h => ⟨⟨h.places, h.ids, h.range⟩, h.senders⟩, fun ⟨h, senders⟩ => ⟨h.places, h.ids, h.range, senders⟩⟩

/-- A place of the table, what stands before it and after it, and the table with another entry there. -/
theorem Pru.place_split (p : Pru) {i : Nat} (inside : i < p.peers.length) :
    ∃ before after, p.peers = before ++ p.entryAt i :: after ∧ ∀ v, (p.setPlace i v).peers = before ++ v :: after := by
  refine ⟨p.peers.take i, p.peers.drop (i + 1), ?_, fun v => List.set_eq_take_append_cons_drop.trans (if_pos inside)⟩
  rw [Pru.entryAt, List.getElem?_eq_getElem inside, Option.join_some, List.cons_getElem_drop_succ, List.take_append_drop]

/-- The entries beside a place. -/
theorem reduceOption_split {α : Type} (before after : List (Option α)) (place : Option α) :
    (before ++ place :: after).reduceOption = before.reduceOption ++ place.toList ++ after.reduceOption := by
  cases place <;> simp [List.reduceOption_append, List.reduceOption_cons_of_some, List.reduceOption_cons_of_none]

namespace PeerTable

variable {station : Nat} {before after : List (Option PeerEntry)} {old : Option PeerEntry}
  (h : PeerTable station (before ++ old :: after))

include h

/-- An entry in a place, of a station that no other place holds. -/
theorem put {e : PeerEntry} (range : 1 ≤ e.id ∧ e.id ≤ 250 ∧ 1 ≤ e.position ∧ e.position ≤ 63 ∧ e.id ≠ station)
    (alone : ∀ x ∈ before.reduceOption ++ after.reduceOption, x.id ≠ e.id) :
    PeerTable station (before ++ some e :: after) where
  places := by simpa using h.places
  ids := by
    have ids := h.ids
    rw [reduceOption_split] at ids ⊢
    rw [Option.toList_some, List.append_assoc, List.singleton_append, List.map_append, List.map_cons, List.nodup_middle,
      ← List.map_append, List.nodup_cons]
    refine ⟨fun held => ?_, ids.sublist ?_⟩
    · obtain ⟨x, member, same⟩ := List.mem_map.mp held
      exact alone x member same
    · exact (List.Sublist.append_right (List.sublist_append_left _ _) _).map _
  range x member := by
    rw [reduceOption_split, Option.toList_some, List.mem_append, List.mem_append, List.mem_singleton] at member
    have old_ (m : x ∈ before.reduceOption ++ after.reduceOption) := h.range x (by
      rw [reduceOption_split]
      exact (List.Sublist.append_right (List.sublist_append_left _ _) _).subset m)
    rcases member with (m | rfl) | m
    · exact old_ (List.mem_append_left _ m)
    · exact range
    · exact old_ (List.mem_append_right _ m)

/-- The place of an entry is the only one of its station. -/
theorem alone {x : PeerEntry} (held : old = some x) : ∀ y ∈ before.reduceOption ++ after.reduceOption, y.id ≠ x.id := by
  have ids := h.ids
  rw [reduceOption_split, held, Option.toList_some, List.append_assoc, List.singleton_append, List.map_append, List.map_cons,
    List.nodup_middle, ← List.map_append, List.nodup_cons] at ids
  obtain ⟨apart, -⟩ := ids
  exact fun y member same => apart (same ▸ List.mem_map_of_mem member)

/-- A place left free. -/
theorem free : PeerTable station (before ++ none :: after) where
  places := by simpa using h.places
  ids := by
    have ids := h.ids
    rw [reduceOption_split] at ids ⊢
    rw [Option.toList_none, List.append_nil]
    exact ids.sublist ((List.Sublist.append_right (List.sublist_append_left _ _) _).map _)
  range x member := by
    rw [reduceOption_split, Option.toList_none, List.append_nil] at member
    refine h.range x ?_
    rw [reduceOption_split]
    exact (List.Sublist.append_right (List.sublist_append_left _ _) _).subset member

theorem range_of_held {x : PeerEntry} (held : old = some x) :
    1 ≤ x.id ∧ x.id ≤ 250 ∧ 1 ≤ x.position ∧ x.position ≤ 63 ∧ x.id ≠ station :=
  h.range x (by simp [reduceOption_split, held])

end PeerTable

/-- Whether a place bears an id, as `placeOf` looks for it. -/
theorem placeOf_test (id : Nat) (place : Option PeerEntry) :
    ((place.map fun x : PeerEntry => x.id == id) == some true) = true ↔ ∃ x, place = some x ∧ x.id = id := by
  cases place <;> simp

theorem Pru.entryAt_of_placeOf {p : Pru} {id i : Nat} (found : p.placeOf id = some i) : ∃ x, p.entryAt i = some x ∧ x.id = id := by
  obtain ⟨inside, bears, -⟩ := List.findIdx?_eq_some_iff_getElem.mp found
  obtain ⟨x, held, same⟩ := (placeOf_test id _).mp bears
  exact ⟨x, by rw [Pru.entryAt, List.getElem?_eq_getElem inside, held]; rfl, same⟩

theorem Pru.unplaced {p : Pru} {id : Nat} (found : p.placeOf id = none) {x : PeerEntry} (member : some x ∈ p.peers) : x.id ≠ id := by
  have bears := List.findIdx?_eq_none_iff.mp found _ member
  intro same
  rw [(placeOf_test id (some x)).mpr ⟨x, rfl, same⟩] at bears
  cases bears

theorem Pru.entryFor_id (p : Pru) (r : RxRecord) (i : Nat) : (p.entryFor r i).id = r.sender := by
  unfold Pru.entryFor
  split
  · split
    · next same => exact same
    · rfl
  · rfl

/-- The place that a record's station takes is its own, or it has none (R124). -/
theorem PeerTable.placed {p : Pru} {r : RxRecord} {i : Nat} {station : Nat} {now : Word32} (h : PeerTable station p.peers)
    (place : p.placeFor r.sender now = some i) {e : PeerEntry} (id : e.id = r.sender)
    (range : 1 ≤ e.id ∧ e.id ≤ 250 ∧ 1 ≤ e.position ∧ e.position ≤ 63 ∧ e.id ≠ station) :
    PeerTable station (p.setPlace i (some e)).peers := by
  by_cases inside : i < p.peers.length
  · obtain ⟨before, after, split, set⟩ := p.place_split inside
    rw [split] at h
    rw [set]
    refine h.put range fun x member => ?_
    rw [id]
    cases own : p.placeOf r.sender with
    | some j =>
      rw [Pru.placeFor, own, Option.some_or, Option.some_or, Option.some.injEq] at place
      subst place
      obtain ⟨y, held, same⟩ := Pru.entryAt_of_placeOf own
      rw [← same]
      exact h.alone held x member
    | none =>
      refine Pru.unplaced own ?_
      rw [split, List.mem_append, List.mem_cons]
      rcases List.mem_append.mp member with m | m
      · exact .inl (List.reduceOption_mem_iff.mp m)
      · exact .inr (.inr (List.reduceOption_mem_iff.mp m))
  · rwa [Pru.setPlace, List.set_eq_of_length_le (by omega)]

/-- A record that is not refused comes from a station and a position of R121 (R123). -/
theorem RxRecord.range_of_judged {r : RxRecord} {kind : ReportKind} (judged : r.judged = some kind) :
    1 ≤ r.sender ∧ r.sender ≤ 250 ∧ 1 ≤ r.position ∧ r.position ≤ 63 := by
  rw [RxRecord.judged, Option.ite_none_right_eq_some] at judged
  obtain ⟨ranges, -⟩ := judged
  simp only [inRange, Bool.and_eq_true, decide_eq_true_eq] at ranges
  omega

namespace State.Upholds

variable (s : State)

/-- An update of the PRU that leaves the peer table in order. -/
theorem withPru {s : State} {f : Pru → Pru}
    (peers : PeerTable s.cfg.stationId s.pru.peers → PeerTable s.cfg.stationId (f s.pru).peers) : s.Upholds (s.withPru f) := by
  refine ⟨fun queue => queue.keep rfl rfl, fun ring => ring.of_rcs rfl, fun tags => ?_, fun sound => ?_⟩
  · rw [State.tagsSound_iff] at tags ⊢
    exact tags
  · rw [State.peersSound_iff] at sound ⊢
    exact ⟨peers sound.1, sound.2⟩

theorem agePeer (id : Nat) (isDue : PeerEntry → Bool) {change : PeerEntry → Option PeerEntry}
    (same : ∀ e x, change e = some x → x.id = e.id ∧ x.position = e.position) : s.Upholds (s.agePeer id isDue change) := by
  unfold State.agePeer
  split
  · exact refl s
  next i place =>
  split
  · next e held =>
    refine onlyIf fun _ => withPru fun table => ?_
    obtain ⟨inside, -⟩ := List.findIdx?_eq_some_iff_getElem.mp place
    obtain ⟨before, after, split, set⟩ := s.pru.place_split inside
    rw [split] at table
    rw [set]
    cases changed : change e with
    | none => exact table.free
    | some x =>
      obtain ⟨id, position⟩ := same e x changed
      refine table.put ?_ ?_
      · rw [id, position]
        exact table.range_of_held held
      · rw [id]
        exact table.alone held
  · exact refl s

/-! ### Taking a record (R108, R122 to R126) -/

/-- What a record comes to: a PRU that keeps the peer table in order, the record being of another station, and a hand-off. -/
theorem applyRecord_eq (u : State) (x : RxRecord) :
    ∃ (f : Pru → Pru) (hand : State → State), u.applyRecord x = hand (u.withPru f) ∧ (∀ v : State, v.Upholds (hand v)) ∧
      (x.sender ≠ u.cfg.stationId → PeerTable u.cfg.stationId u.pru.peers → PeerTable u.cfg.stationId (f u.pru).peers) := by
  unfold State.applyRecord
  split
  · exact ⟨_, id, rfl, refl, fun _ table => table⟩
  next kind judged =>
  obtain ⟨low, high, near, far⟩ := RxRecord.range_of_judged judged
  split
  · exact ⟨_, fun v => v.handOff x kind, rfl, fun v => handOff v x kind, fun _ table => table⟩
  next i place =>
  have id := u.pru.entryFor_id x i
  simp only
  split
  · next repeats =>
    refine ⟨_, fun v => v, rfl, refl, fun foreign table => ?_⟩
    refine table.placed place (e := (u.pru.entryFor x i).heard x.arrival) id ?_
    have position : 1 ≤ (u.pru.entryFor x i).position ∧ (u.pru.entryFor x i).position ≤ 63 := by
      unfold Pru.entryFor at repeats ⊢
      split at repeats
      · next e held =>
        split at repeats
        · next same =>
          have member : e ∈ u.pru.peers.reduceOption := by
            rw [List.reduceOption_mem_iff]
            rw [Pru.entryAt, Option.join_eq_some_iff] at held
            exact List.mem_of_getElem? held
          obtain ⟨-, -, near, far, -⟩ := table.range e member
          simp [same, near, far]
        · simp [PeerEntry.repeats, newPeer] at repeats
      · simp [PeerEntry.repeats, newPeer] at repeats
    rw [show ((u.pru.entryFor x i).heard x.arrival).id = x.sender from id]
    exact ⟨low, high, position.1, position.2, foreign⟩
  · refine ⟨_, fun v => v.handOff x kind, rfl, fun v => handOff v x kind, fun foreign table => ?_⟩
    refine table.placed place (e := (u.pru.entryFor x i).applied x kind) id ?_
    rw [show ((u.pru.entryFor x i).applied x kind).id = x.sender from id]
    exact ⟨low, high, near, far, foreign⟩

theorem takeHead : s.Upholds s.takeHead := by
  unfold State.takeHead
  split
  · exact refl s
  · next x rest held =>
    obtain ⟨f, hand, applied, upholds, table⟩ := applyRecord_eq (s.withChc fun c => { c with queue := rest }) x
    rw [applied]
    refine trans ?_ (upholds _)
    refine ⟨fun queue => queue.keep rfl rfl, fun ring => ring.of_rcs rfl, fun tags => ?_, fun sound => ?_⟩
    · rw [State.tagsSound_iff] at tags ⊢
      exact tags
    · rw [State.peersSound_iff, held, List.forall_mem_cons] at sound
      obtain ⟨peers, foreign, senders⟩ := sound
      exact (State.peersSound_iff _).mpr ⟨table foreign peers, senders⟩

theorem pacedTake : s.Upholds s.pacedTake := ((Spares.refl s).withPru rfl).upholds.trans (takeHead _)

/-! ### The deliveries of a good frame (R4, R122) -/

theorem deliver (f : MeasFields) (closing : Bool) (d : Delivery) : s.Upholds (s.deliver f closing d) := by
  have same := Spares.refl s
  cases d with
  | ocu => exact (same.frameStep f).upholds
  | cdu => exact (same.deliverVoltages _ _ _).upholds
  | btu => exact (same.deliverBattery _ _ _).upholds
  | sqc => exact (same.withSqc _ : s.Spares (s.sqcSource f.source)).upholds
  | lfsr => exact same.advanceLfsr.upholds
  | take => exact takeHead s
  | test => exact same.testAtArrival.upholds

theorem foldl_deliver (f : MeasFields) (closing : Bool) (l : List Delivery) :
    s.Upholds (l.foldl (fun t d => t.deliver f closing d) s) := by
  induction l generalizing s with
  | nil => exact refl s
  | cons d rest ih => exact (deliver s f closing d).trans (ih _)

theorem takeGoodFrame (f : MeasFields) (order : List Delivery) : s.Upholds (s.takeGoodFrame f order) := by
  have taken := ((((Spares.refl s).withMfp fun m => m.takeGood f).withPru (f := fun p => { p with pace := none }) rfl).withBtu
    fun b => { b with testMoment := true }).refreshCharge
  exact taken.upholds.trans (foldl_deliver _ f _ _)

theorem bitsToArrival (bits : List LinkBit) (order : List Delivery) : s.Upholds (s.bitsToArrival bits order) := by
  have sampled : s.Spares (s.sampled bits) := (Spares.refl s).withMfp _
  unfold State.bitsToArrival
  split
  · exact sampled.upholds
  · refine sampled.upholds.trans ?_
    unfold State.frameArrives
    split
    · exact takeGoodFrame _ _ _
    · exact ((Spares.refl _).withMfp _).upholds
  · exact refl s

/-! ### The receiver (R102 to R108) -/

/-- An accepted body is of another station (R107, R108). -/
theorem completeBody (body : List Byte) : s.Upholds (s.completeBody body) := by
  have kept {t : State} (parts : t.chc.parts = s.chc.parts) (tx : t.chc.tx = s.chc.tx)
      (same : (t.rcs, t.tgu, t.ocu, t.pru, t.svp) = (s.rcs, s.tgu, s.ocu, s.pru, s.svp))
      (queue : t.chc.queue = s.chc.queue ∨ ∃ x, t.chc.queue = s.chc.queue ++ [x] ∧ x.sender ≠ s.cfg.stationId) : s.Upholds t := by
    simp only [Prod.mk.injEq] at same
    obtain ⟨rcs, tgu, ocu, pru, svp⟩ := same
    refine ⟨fun h => h.keep parts (by rw [tx]), fun h => h.of_rcs rcs, fun h => ?_, fun h => ?_⟩
    · rw [State.tagsSound_iff] at h ⊢
      rw [State.tagInForce_eq (congrArg Tgu.table tgu), tgu, State.Unheld, ocu]
      exact h
    · rw [State.peersSound_iff] at h ⊢
      rw [State.cfg, svp, pru]
      refine ⟨h.1, fun r member => ?_⟩
      rcases queue with queue | ⟨x, queue, foreign⟩
      · exact h.2 r (queue ▸ member)
      · rw [queue, List.mem_append, List.mem_singleton] at member
        rcases member with old | rfl
        · exact h.2 r old
        · exact foreign
  unfold State.completeBody State.withChc Chc.accept
  dsimp only
  repeat' split
  · exact kept rfl rfl rfl (.inl rfl)
  · exact kept rfl rfl rfl (.inl rfl)
  · next identity _ => exact kept rfl rfl rfl (.inr ⟨_, rfl, fun own => identity (.inr own)⟩)
  · exact kept rfl rfl rfl (.inl rfl)

theorem addBody (b : Byte) : s.Upholds (s.addBody b) := by
  unfold State.addBody
  simp only
  split
  · exact ((Spares.refl s).withChc rfl rfl rfl).upholds
  split
  · exact completeBody s _
  · exact ((Spares.refl s).withChc rfl rfl rfl).upholds

theorem bodyByte (b : Byte) : s.Upholds (s.bodyByte b) := by
  have same := Spares.refl s
  unfold State.bodyByte
  repeat' split
  · exact (same.withChc rfl rfl rfl).upholds
  · exact addBody s _
  · exact addBody s _
  · exact (same.withChc rfl rfl rfl).upholds
  · exact (same.withChc rfl rfl rfl).upholds
  · exact addBody s _

theorem hearByte (rx : LineByte) : s.Upholds (s.hearByte rx) := by
  have same := Spares.refl s
  unfold State.hearByte
  repeat' split
  · exact (same.withChc rfl rfl rfl).upholds
  · exact refl s
  · exact refl s
  · exact (same.withChc rfl rfl rfl).upholds
  · exact refl s
  · exact (same.withChc rfl rfl rfl).upholds
  · exact (same.withChc rfl rfl rfl).upholds
  · exact bodyByte s _
  · exact (same.withChc rfl rfl rfl).upholds

theorem receiveByte (rx : LineByte) : s.Upholds (s.receiveByte rx) :=
  onlyIf fun _ => (hearByte s rx).andThen ((Spares.refl _).withChc rfl rfl rfl).judgeBusy

/-- A reception that is cut off leaves the transmit side and the receive queue. -/
theorem cutOff_keeps (c : Chc) : c.cutOff.parts = c.parts ∧ c.cutOff.tx = c.tx ∧ c.cutOff.queue = c.queue := by
  unfold Chc.cutOff
  split <;> exact ⟨rfl, rfl, rfl⟩

theorem withChc_cutOff : s.Upholds (s.withChc Chc.cutOff) := by
  obtain ⟨parts, tx, queue⟩ := cutOff_keeps s.chc
  exact ((Spares.refl s).withChc parts tx queue).upholds

theorem changeCarrier (present : Bool) : s.Upholds (s.changeCarrier present) := by
  obtain ⟨parts, tx, queue⟩ := cutOff_keeps { s.chc with carr := present }
  refine (State.Spares.judgeBusy ((Spares.refl s).withChc ?_ ?_ ?_)).upholds
  · dsimp only
    repeat' split
    · rfl
    · exact parts
    · rfl
  · dsimp only
    repeat' split
    · rfl
    · exact tx
    · rfl
  · dsimp only
    repeat' split
    · rfl
    · exact queue
    · rfl

end State.Upholds

end Sys2Proof.Machine
end

section
/-! SUPPORT. The inputs, the service port, the starts, the clock and every command keep the four groups sound. -/

namespace Sys2Proof.Machine

namespace State.Spares

variable {s : State}

/-- A debounced input whose change spares the tables. -/
theorem debounce (pin : InputPin) (level : Bool) (moment : InputMoment) {change : State → State}
    (changes : (s.endCount pin).Spares (change (s.endCount pin))) : s.Spares (s.debounce pin level moment change) := by
  cases moment with
  | edge => exact (refl s).inputGoes pin level
  | held => exact (refl s).onlyIf (f := fun s => change (s.endCount pin)) fun _ => ((refl s).endCount pin).trans changes

theorem ac (present : Bool) : s.Spares (if present then s.acReturns else s.acGoes) := by
  cases present with
  | true => exact (refl s).acReturns
  | false => exact (refl s).acGoes

theorem tick (s : State) : s.Spares s.advance := of_beside rfl rfl rfl

theorem idle (s : State) : s.Spares s.idle := by
  unfold State.idle
  repeat' split
  · exact tick s
  · exact of_beside rfl rfl rfl
  · exact refl s

end State.Spares

namespace State.Upholds

variable (s : State)

theorem spared {s : State} {f : State → State} (spares : s.Spares (f s)) : s.Upholds (s.whenStarted f) := whenStarted spares.upholds

/-- A key that changes, with what its press brings (R149). -/
theorem key {pin : InputPin} {pressed : Bool} {moment : InputMoment} {follow : Keys → Keys} {press : State → State}
    (presses : ∀ u : State, u.Upholds (press u)) :
    s.Upholds (s.debounce pin pressed moment fun s => s.keyChange pressed follow press) := by
  cases moment with
  | edge => exact ((Spares.refl s).inputGoes pin pressed).upholds
  | held =>
    refine onlyIf (f := fun s => (s.endCount pin).keyChange pressed follow press) fun _ => ?_
    have followed := ((Spares.refl s).endCount pin).withTgu (f := fun t => { t with keys := follow t.keys }) rfl
    exact followed.upholds.trans (onlyIf fun _ => presses _)

/-! ### The service port (R170 to R172) -/

theorem serve (r : Request) : s.Upholds (s.serve r) := by
  have same := Spares.refl s
  cases r with
  | readStatus part => exact (same.respond _ _ _).upholds
  | readRecordsFrom n => exact (same.serveRecords n).upholds
  | readPeerTable => exact (same.respond _ _ _).upholds
  | readTagTable => exact (same.respond _ _ _).upholds
  | operatorTrip => exact (same.operatorTrip.respond _ _ _).upholds
  | operatorClose => exact (same.operatorClose.respond _ _ _).upholds
  | tagApply code => exact serveTagApply s code
  | tagRemove code => exact serveTagRemove s code
  | batteryTest => exact ((same.requestTest _).respond _ _ _).upholds
  | settingsRestart => exact same.serveRestart.upholds

theorem resetAssembly_serve (r : Request) : s.Upholds (s.resetAssembly.serve r) :=
  (Spares.refl s).resetAssembly.upholds.trans (serve _ r)

theorem takeRequest (r : Request) : s.Upholds (s.takeRequest r) := onlyIf fun _ => resetAssembly_serve s r

theorem judgeFrame (frame : List Byte) : s.Upholds (s.judgeFrame frame) := by
  unfold State.judgeFrame
  dsimp only
  repeat' split
  · exact (Spares.refl s).discardRequest.upholds
  · exact resetAssembly_serve s _
  · exact ((Spares.refl s).resetAssembly.serveBad _).upholds

theorem assemble (rx : LineByte) : s.Upholds (s.assemble rx) := by
  have same := Spares.refl s
  have buffered (b : Byte) : s.Spares (s.bufferByte b) := same.withSvp rfl
  unfold State.assemble
  repeat' split
  · exact (same.withSvp rfl).upholds
  · exact refl s
  · exact refl s
  · exact ((buffered _).withSvp rfl).upholds
  · exact same.discardRequest.upholds
  · exact same.discardRequest.upholds
  · dsimp only
    split
    · exact judgeFrame s _
    · exact (buffered _).upholds
  · exact same.discardRequest.upholds

end State.Upholds

/-! ### The starts (R131, R162, R169, R179 to R181) -/

/-- Nothing is queued after a start (R101, R179). -/
theorem State.queueSound_of_start {s : State} {st : Settings} {carr rrdy : Bool} (chc : s.chc = chcStart st carr rrdy) : s.QueueSound := by
  rw [State.queueSound_iff, chc]
  exact ⟨⟨nofun, nofun, Nat.zero_le 1, Nat.zero_le 8, nofun⟩, rfl⟩

/-- No station is known after a start (R131). -/
theorem State.peersSound_of_start {s : State} {st : Settings} {carr rrdy : Bool} (pru : s.pru = pruStart)
    (chc : s.chc = chcStart st carr rrdy) : s.PeersSound := by
  rw [State.peersSound_iff, pru, chc]
  exact ⟨⟨rfl, List.nodup_nil, nofun⟩, nofun⟩

/-- No hold stands after a start (R131). -/
theorem State.unheld_of_start {s : State} (ocu : s.ocu = ocuStart) : s.Unheld := by
  rw [State.Unheld, ocu]
  rintro (_ | _) <;> rfl

namespace State.Upholds

variable (s : State)

/-- The draws with the bits between them, and the record of a start. -/
theorem finishStart (between : List LinkBit) (order : List Delivery) (kind : RecordKind) :
    s.Upholds ((s.setUpSqc.drawStarts between order).recordStart kind) := by
  have drawn : s.Upholds (s.setUpSqc.drawSequence.bitsToArrival between order) :=
    ((Spares.refl s).withSqc _).drawSequence.upholds.trans (bitsToArrival _ between order)
  exact drawn.andThen (((Spares.refl _).drawBeaconDelay.withPru rfl).record _)

theorem coldStart (settings store : MemRead) (i : InputLevels) (between : List LinkBit) (order : List Delivery) :
    s.Upholds (s.coldStart settings store i between order) := by
  have faulted := (Spares.refl (s.coldBlocks settings i)).recordFault (faultOf settings)
  have tables := faulted.tables
  simp only [State.tables, Prod.mk.injEq] at tables
  obtain ⟨⟨-, overflow⟩, -⟩ := tables
  have restored : ((s.coldBlocks settings i).recordFault (faultOf settings)).Retags
      (((s.coldBlocks settings i).recordFault (faultOf settings)).restoreTags store) := by
    unfold State.restoreTags
    split
    · exact (Retags.refl _).withTgu _
    · exact ((Retags.refl _).withTgu _).record _
  have retagged := faulted.retags.trans restored
  have unheld := State.unheld_of_start (s := s.coldBlocks settings i) rfl
  have sound : s.Upholds (((s.coldBlocks settings i).recordFault (faultOf settings)).restoreTags store) := by
    refine ⟨fun _ => retagged.queue (State.queueSound_of_start rfl), fun _ => retagged.ring ⟨Nat.zero_le _, le_rfl, nofun⟩,
      fun _ => ?_, fun _ => .of_same retagged.others (State.peersSound_of_start rfl rfl)⟩
    rw [State.tagsSound_iff]
    exact ⟨State.restoreTags_tableSound overflow store, fun _ => retagged.holds unheld⟩
  refine (sound.trans (finishStart _ between order .start)).andThen ?_
  exact (Spares.refl _).withSvp (f := fun v => { v with service := .listen, startSent := startReads }) rfl

/-- The table of tags and the event ring are kept, with the slots found afresh (R143, R162, R169). -/
theorem restartBlocks (read : MemRead) (closedMade openMade : Bool) : s.Upholds (s.restartBlocks read closedMade openMade) := by
  refine ⟨fun _ => State.queueSound_of_start rfl, fun ring => ?_, fun tags => ?_, fun _ => State.peersSound_of_start rfl rfl⟩
  · exact (((Spares.refl s).recordFault (faultOf read)).ring ring).of_rcs rfl
  · rw [State.tagsSound_iff] at tags ⊢
    exact ⟨tags.1.restart _, fun _ => State.unheld_of_start rfl⟩

theorem applyRestart (read : MemRead) (closedMade openMade : Bool) : s.Upholds (s.applyRestart read closedMade openMade) :=
  ((restartBlocks s read closedMade openMade).trans (finishStart _ [] [] .settingsRestart)).andThen
    ((Spares.refl _).respond _ _ _)

theorem endRead (read : MemRead) (closedMade openMade : Bool) : s.Upholds (s.endRead read closedMade openMade) := by
  refine andThen ?_ (Spares.refl _).freeLink
  split
  · exact applyRestart s read closedMade openMade
  · exact ((Spares.refl s).respond _ _ _).upholds

theorem followRead (event : ReadEvent) (closedMade openMade : Bool) : s.Upholds (s.followRead event closedMade openMade) := by
  cases event with
  | ready =>
    refine ((Spares.refl s).withSvp ?_).upholds
    unfold Svp.answerRead
    split <;> rfl
  | ended read => exact onlyIf (f := fun s => s.endRead read closedMade openMade) fun _ => endRead s read closedMade openMade

end State.Upholds

/-! ### Every command -/

/-- Every command answers a next state in which whatever of the four groups was sound is sound. -/
theorem exec_upholds (i : Instr) (s : State) : ∃ t, exec i s = .next t ∧ s.Upholds t := by
  have same := State.Spares.refl s
  cases i with
  | coldStart settings store inputs between order => exact ⟨_, rfl, .coldStart s _ _ _ _ _⟩
  | shortFrame bits => exact ⟨_, rfl, .spared (same.bitsToShort _)⟩
  | measurementFrame bits order => exact ⟨_, rfl, .whenStarted (.bitsToArrival s _ _)⟩
  | stallPacedTake => exact ⟨_, rfl, .whenStarted (.onlyIf fun _ => .pacedTake s)⟩
  | stalled => exact ⟨_, rfl, .spared (same.onlyIf fun _ => same.stall)⟩
  | measurementLost => exact ⟨_, rfl, .spared (same.onlyIf fun _ => same.loseMeasurement)⟩
  | measurementBack => exact ⟨_, rfl, .spared (same.onlyIf fun _ => same.regainMeasurement)⟩
  | closeChargeTimerExpiry => exact ⟨_, rfl, .spared (same.onlyIf fun _ => same.closeEnergyFault)⟩
  | tripPulseEnd => exact ⟨_, rfl, .spared (same.onlyIf fun _ => same.endPulse.handReports)⟩
  | closePulseEnd => exact ⟨_, rfl, .spared (same.onlyIf fun _ => same.endPulse.handReports)⟩
  | tripWindowEnd => exact ⟨_, rfl, .spared (same.onlyIf fun _ => same.endTripWindow)⟩
  | closeWindowEnd => exact ⟨_, rfl, .spared (same.onlyIf fun _ => same.endCloseWindow)⟩
  | tripWaitExpiry => exact ⟨_, rfl, .spared (same.onlyIf fun _ => same.tripEnergyFault)⟩
  | retripWaitExpiry => exact ⟨_, rfl, .spared (same.onlyIf fun _ => same.mechanismFailure)⟩
  | contactChange contact made clearFirst moment =>
    cases moment with
    | edge => exact ⟨_, rfl, .spared (same.contactsGo _ _)⟩
    | held => exact ⟨_, rfl, .spared (same.changeContact _ _ _)⟩
  | positionFault => exact ⟨_, rfl, .spared (same.onlyIf fun _ => same.raisePositionFault)⟩
  | recloseTimerExpiry => exact ⟨_, rfl, .spared (same.onlyIf fun _ => same.closeGate _)⟩
  | chargeTimerExpiry => exact ⟨_, rfl, .spared (same.onlyIf fun _ => (same.withSqc _).sqcCloseEnergyFault)⟩
  | resetTimerExpiry => exact ⟨_, rfl, .spared (same.onlyIf fun _ => same.sqcResetExpiry)⟩
  | manualCloseWindowExpiry => exact ⟨_, rfl, .spared (same.onlyIf fun _ => same.withSqc _)⟩
  | startHoldExpiry => exact ⟨_, rfl, .spared (same.onlyIf fun _ => same.withSqc _)⟩
  | holdExpiry kind => exact ⟨_, rfl, .spared (same.onlyIf fun _ => same.endHold _ _)⟩
  | acPresentChange present moment => exact ⟨_, rfl, .spared (.debounce .acp present moment (.ac present))⟩
  | lowVoltageTimerExpiry => exact ⟨_, rfl, .spared (same.onlyIf fun _ => same.setShutdown)⟩
  | disconnectTimerExpiry => exact ⟨_, rfl, .spared (same.onlyIf fun _ => same.releaseContactor)⟩
  | setpointWordSent => exact ⟨_, rfl, .spared (same.onlyIf fun _ => (same.withBtu _).sendSetpoint)⟩
  | taperTimerExpiry => exact ⟨_, rfl, .spared (same.onlyIf fun _ => same.endBoost)⟩
  | boostLimitExpiry => exact ⟨_, rfl, .spared (same.onlyIf fun _ => same.boostLimitEnds)⟩
  | scheduleTimerExpiry => exact ⟨_, rfl, .spared (same.onlyIf fun _ => same.withBtu _)⟩
  | scheduledTestRequest => exact ⟨_, rfl, .spared (same.onlyIf fun _ => (same.withBtu _).requestTest _)⟩
  | testStart => exact ⟨_, rfl, .spared (same.onlyIf fun _ => same.startTest)⟩
  | settleTimerExpiry => exact ⟨_, rfl, .spared (same.onlyIf fun _ => same.withBtu _)⟩
  | loadTimerExpiry => exact ⟨_, rfl, .spared (same.onlyIf fun _ => same.loadEnds)⟩
  | quietCountEnd =>
    refine ⟨_, rfl, .spared (same.onlyIf fun ends => same.enterBackoff ?_)⟩
    simp only [Bool.and_eq_true, beq_iff_eq] at ends
    exact ends.1
  | backoffEnd =>
    refine ⟨_, rfl, .spared (same.onlyIf fun ends => same.enterKeyUp ?_)⟩
    simp only [State.backoffOver, Bool.and_eq_true, beq_iff_eq] at ends
    exact ends.1
  | radioReadySeen => exact ⟨_, rfl, .spared same.seeReady⟩
  | readyTimerExpiry => exact ⟨_, rfl, .spared (same.onlyIf fun _ => .readyFails)⟩
  | readyDrop sent back => exact ⟨_, rfl, .spared (same.dropReady _ _)⟩
  | abortSent => exact ⟨_, rfl, .spared (same.onlyIf fun _ => .endAbort)⟩
  | copySent => exact ⟨_, rfl, .spared (same.onlyIf fun _ => .sendCopy)⟩
  | keyDownExpiry =>
    refine ⟨_, rfl, .spared (same.onlyIf fun ends => same.endKeyDown ?_)⟩
    simp only [Bool.and_eq_true, beq_iff_eq] at ends
    exact ends.1
  | jabberExpiry => exact ⟨_, rfl, .spared (same.onlyIf fun _ => .channelReset)⟩
  | carrierChange present => exact ⟨_, rfl, .whenStarted (.onlyIf fun _ => .changeCarrier s _)⟩
  | radioByte rx => exact ⟨_, rfl, .whenStarted (.receiveByte s _)⟩
  | receiveGapTimeout => exact ⟨_, rfl, .whenStarted (.onlyIf fun _ => .withChc_cutOff s)⟩
  | beaconTimerExpiry => exact ⟨_, rfl, .spared (same.onlyIf fun _ => same.expireBeacon)⟩
  | peerSilent id =>
    exact ⟨_, rfl, .whenStarted (.agePeer s _ _ fun e x silenced => Option.some.inj silenced ▸ ⟨rfl, rfl⟩)⟩
  | peerRemoval id => exact ⟨_, rfl, .whenStarted (.agePeer s _ _ nofun)⟩
  | wandAbort runs => exact ⟨_, rfl, .spared (same.followWand _ _)⟩
  | crewCodeComplete runs => exact ⟨_, rfl, .spared (same.followCode _)⟩
  | crewWindowExpiry => exact ⟨_, rfl, .spared (same.onlyIf fun _ => same.closeWindow)⟩
  | errorToneExpiry => exact ⟨_, rfl, .spared (same.onlyIf fun _ => same.withTgu rfl)⟩
  | toneToggle => exact ⟨_, rfl, .spared (same.onlyIf fun _ => same.withTgu rfl)⟩
  | tripKey pressed moment => exact ⟨_, rfl, .whenStarted (.key s fun u => (State.Spares.refl u).tripPress.upholds)⟩
  | closeKey pressed moment => exact ⟨_, rfl, .whenStarted (.key s fun u => (State.Spares.refl u).closePress.upholds)⟩
  | tagOnKey pressed moment => exact ⟨_, rfl, .whenStarted (.key s .tagOnPress)⟩
  | tagOffKey pressed moment => exact ⟨_, rfl, .whenStarted (.key s .tagOffPress)⟩
  | batteryTestKey pressed moment =>
    exact ⟨_, rfl, .whenStarted (.key s fun u => ((State.Spares.refl u).requestTest .panel).upholds)⟩
  | handleDown btuFirst moment =>
    exact ⟨_, rfl, .spared (.debounce .hndl true moment ((State.Spares.refl _).handleGoesDown btuFirst))⟩
  | handleUp moment => exact ⟨_, rfl, .spared (.debounce .hndl false moment ((State.Spares.refl _).withTgu rfl))⟩
  | operatorTrip => exact ⟨_, rfl, .whenStarted (.takeRequest s _)⟩
  | operatorClose => exact ⟨_, rfl, .whenStarted (.takeRequest s _)⟩
  | tagApply code => exact ⟨_, rfl, .whenStarted (.takeRequest s _)⟩
  | tagRemove code => exact ⟨_, rfl, .whenStarted (.takeRequest s _)⟩
  | tagStoreWriteEnd acknowledged => exact ⟨_, rfl, .spared (same.onlyIf fun _ => same.endWrite _)⟩
  | batteryTest => exact ⟨_, rfl, .whenStarted (.takeRequest s _)⟩
  | readStatus part => exact ⟨_, rfl, .whenStarted (.takeRequest s _)⟩
  | readRecordsFrom number => exact ⟨_, rfl, .whenStarted (.takeRequest s _)⟩
  | readPeerTable => exact ⟨_, rfl, .whenStarted (.takeRequest s _)⟩
  | readTagTable => exact ⟨_, rfl, .whenStarted (.takeRequest s _)⟩
  | settingsRestart => exact ⟨_, rfl, .whenStarted (.takeRequest s _)⟩
  | settingsRestartApply event closedMade openMade => exact ⟨_, rfl, .whenStarted (.onlyIf fun _ => .followRead s _ _ _)⟩
  | badRequest code payload => exact ⟨_, rfl, .spared (same.onlyIf fun _ => same.resetAssembly.serveBad _)⟩
  | requestDiscarded cause => exact ⟨_, rfl, .spared (same.onlyIf fun _ => same.discardRequest)⟩
  | serviceGapTimeout => exact ⟨_, rfl, .spared (same.onlyIf fun _ => same.discardRequest)⟩
  | responseSent => exact ⟨_, rfl, .spared (same.onlyIf fun _ => same.withSvp rfl)⟩
  | wandMark runs => exact ⟨_, rfl, .spared (same.followWand _ _)⟩
  | serviceByte rx => exact ⟨_, rfl, .whenStarted (.onlyIf fun _ => .assemble s _)⟩

/-- No step leaves one of the four groups. -/
theorem step_upholds {s t : State} (h : step s = .next t) : s.Upholds t := by
  unfold step at h
  split at h
  · next i rest waiting =>
    obtain ⟨u, next, upholds⟩ := exec_upholds i { s with pending := rest }
    rw [next, Host.Outcome.next.injEq] at h
    subst h
    exact (State.Spares.of_beside rfl rfl rfl : s.Spares { s with pending := rest }).upholds.trans upholds
  · rw [Host.Outcome.next.injEq] at h
    subst h
    exact (State.Spares.idle s).upholds

end Sys2Proof.Machine

/-! ### The statements -/

open Sys2Proof.Machine in
/-- Settles O4: every command and the clock keep the queue and the ring. -/
theorem stepKeepsTheQueueAndTheRingSound : Obligations.StepKeepsTheQueueAndTheRingSound :=
  ⟨fun _ _ sound h => (step_upholds h).queue sound, fun _ _ sound h => (step_upholds h).ring sound⟩

open Sys2Proof.Machine in
/-- Settles O8: every command and the clock keep both tables, the tags with the holds. -/
theorem stepKeepsTheTagsAndThePeersSound : Obligations.StepKeepsTheTagsAndThePeersSound :=
  ⟨fun _ _ sound h => (step_upholds h).tags sound, fun _ _ sound h => (step_upholds h).peers sound⟩

end

section
/-! SUPPORT. Access to the channel: the backoff that 60 ms of quiet bring, and the key-up at its end (R89, R94 to R97). -/

namespace Sys2Proof.Machine

section

variable {s : State} {e : TxEntry}

/-- The backoff begins with the count that is kept (R96). -/
theorem State.enterBackoff_kept (first : s.firstServable = some e) (kept : s.chc.backoff ≠ none) :
    s.enterBackoff = { s with chc := { s.chc with tx := .backoff, slot := some 20 } } := by
  rw [State.enterBackoff, first]
  dsimp only
  split
  · rfl
  · next free => exact absurd free kept

/-- The backoff begins with a draw in the window of the first servable entry's class (R89, R96). -/
theorem State.enterBackoff_drawn (first : s.firstServable = some e) (free : s.chc.backoff = none) :
    s.enterBackoff =
      { s with
        chc :=
          { s.chc with
            tx := .backoff, slot := some 20, lfsr := lfsrAdvance s.chc.lfsr
            backoff := some
              { count := (lfsrAdvance s.chc.lfsr).toNat % (if e.kind = .beacon then 16 else 4)
                window := if e.kind = .beacon then 16 else 4 } } } := by
  rw [State.enterBackoff, first]
  dsimp only
  rw [free, ReportKind.cls_eq_status]
  simp only [decide_eq_true_eq]
  rfl

/-- A Fault or Crew entry can be served at any time (R94). -/
theorem State.servable_of_event (s : State) (event : e.kind ≠ .beacon) : s.servable e = true := by
  rw [State.servable, bne, ReportKind.cls_eq_status, decide_eq_false event]
  rfl

/-- The BEACON can be served while the reserve state is NORMAL or RESERVE and shutdown pending is clear (R94). -/
theorem State.servable_of_reserve (s : State) (e : TxEntry) (holds : s.btu.reserve = .normal ∨ s.btu.reserve = .reserve)
    (pending : s.btu.shutdownPending = false) : s.servable e = true := by
  have reserve : s.reserveHolds = true := by
    rcases holds with holds | holds <;> rw [State.reserveHolds, holds] <;> rfl
  rw [State.servable, reserve, pending]
  exact Bool.or_true _

/-- The first entry of the front part is taken into service (R97). -/
theorem State.enterKeyUp_front {rest : List TxEntry} (front : s.chc.front = e :: rest) (servable : s.servable e = true) :
    s.enterKeyUp =
      { s with
        chc :=
          { s.chc with
            tx := .keyUp, backoff := none, slot := none, readyTimer := some 100
            front := { e with inService := true } :: rest } } := by
  have first : s.firstServable = some e := by simp [State.firstServable, front, servable]
  rw [State.enterKeyUp, first]
  simp [State.withChc, front, servable, markFirst]

/-- With nothing in the front part the first entry of the Status part is taken into service (R97). -/
theorem State.enterKeyUp_status {rest : List TxEntry} (front : s.chc.front = []) (status : s.chc.status = e :: rest)
    (servable : s.servable e = true) :
    s.enterKeyUp =
      { s with
        chc :=
          { s.chc with
            tx := .keyUp, backoff := none, slot := none, readyTimer := some 100
            status := { e with inService := true } :: rest } } := by
  have first : s.firstServable = some e := by simp [State.firstServable, front, status, servable]
  rw [State.enterKeyUp, first]
  simp [State.withChc, front, status, servable, markFirst]

theorem exec_quietCountEnd (on : s.started = true) (tx : s.chc.tx = .defer) (quiet : s.chc.quiet = 60) :
    exec .quietCountEnd s = .next s.enterBackoff :=
  congrArg Host.Outcome.next
    (State.whenStarted_onlyIf (c := fun u => u.chc.tx == .defer && decide (60 ≤ u.chc.quiet)) on (by simp [tx, quiet]))

theorem exec_backoffEnd {window : Nat} (on : s.started = true) (tx : s.chc.tx = .backoff)
    (ended : s.chc.backoff = some { count := 0, window := window }) : exec .backoffEnd s = .next s.enterKeyUp :=
  congrArg Host.Outcome.next
    (State.whenStarted_onlyIf (c := State.backoffOver) on (by simp [State.backoffOver, tx, ended]))

end

end Sys2Proof.Machine

/-! ### The statement -/

open Sys2Proof.Machine in
/-- Settles O43: the backoff with a draw and with a kept count, then the key-up for the front part and for the Status part. -/
theorem channelAccess : Obligations.ChannelAccess := by
  intro s e on
  refine ⟨fun tx quiet first => ⟨fun free drawn window isDrawn isWindow => ?_, fun kept => ?_⟩, fun window rest tx ended =>
    ⟨fun front event => ?_, fun front status reserve pending => ?_⟩⟩
  · rw [exec_quietCountEnd on tx quiet, State.enterBackoff_drawn first free, isDrawn, isWindow]
    rfl
  · rw [exec_quietCountEnd on tx quiet, State.enterBackoff_kept first kept]
  · rw [exec_backoffEnd on tx ended, State.enterKeyUp_front front (s.servable_of_event event)]
  · rw [exec_backoffEnd on tx ended, State.enterKeyUp_status front status (s.servable_of_reserve e reserve pending)]

end

section
/-! SUPPORT. RADIO READY in each transmit state, its fall, and the release of KEY (R86, R94, R97, R99, R100). -/

namespace Sys2Proof.Machine

section

variable {s : State} {e : TxEntry}

/-! ### RADIO READY seen and lost (R97, R99) -/

/-- RADIO READY seen in KEY_UP begins the frame of the entry in service. -/
theorem State.seeReady_keyUp (tx : s.chc.tx = .keyUp) (serves : s.chc.inService = some e) :
    s.seeReady =
      { s with
        chc :=
          { s.chc with
            tx := .sending, rrdy := true, readyTimer := none, readyLatch := s.cfg.latchReady, jabber := some 250
            airFrame := airBytes (s.cfg.radioBody e), aborting := false } } := by
  have serves' : (s.withChc fun c => { c with rrdy := true }).chc.inService = some e := serves
  rw [State.seeReady, tx, show (TxState.keyUp == TxState.keyUp) = true from rfl, State.onlyIf_true, State.enterSending, serves']
  rfl

theorem State.seeReady_elsewhere (tx : s.chc.tx ≠ .keyUp) : s.seeReady = { s with chc := { s.chc with rrdy := true } } := by
  rw [State.seeReady, show (s.chc.tx == TxState.keyUp) = false by simpa using tx, State.onlyIf_false]
  rfl

/-- Whether a fall of RADIO READY ends the frame: in SENDING, with a byte left that the test before it fails. -/
def State.dropEnds (s : State) (sent : Nat) (back : Bool) : Bool :=
  s.chc.tx == .sending && !s.chc.aborting && decide (sent < s.chc.airFrame.length) &&
    !(if s.cfg.latchReady then s.chc.readyLatch else back)

theorem State.dropReady_eq (s : State) (sent : Nat) (back : Bool) :
    s.dropReady sent back =
      if s.dropEnds sent back then
        { s with chc := { s.chc with rrdy := back, airFrame := s.chc.airFrame.take sent, aborting := true } }
      else { s with chc := { s.chc with rrdy := back } } := rfl

theorem State.dropEnds_iff (s : State) (sent : Nat) (back : Bool) :
    s.dropEnds sent back = true ↔
      s.chc.tx = .sending ∧ s.chc.aborting = false ∧ sent < s.chc.airFrame.length ∧
        (s.cfg.latchReady = true → s.chc.readyLatch = false) ∧ (s.cfg.latchReady = false → back = false) := by
  cases latch : s.cfg.latchReady <;> simp [State.dropEnds, latch, and_assoc]

/-! ### KEY released (R94, R100) -/

/-- A transmitter that is free waits in DEFER for a servable entry, and is IDLE without one. -/
theorem State.deferOrIdle_eq (s : State) :
    s.deferOrIdle =
      { s with
        chc :=
          if (s.chc.front ++ s.chc.status).any s.servable = true then { s.chc with tx := .defer, quiet := 0, slot := none }
          else { s.chc with tx := .idle, quiet := 0, backoff := none, slot := none } } := by
  rw [State.deferOrIdle, State.firstServable_isSome]
  split <;> rfl

/-! ### The commands -/

theorem exec_radioReadySeen (on : s.started = true) : exec .radioReadySeen s = .next s.seeReady :=
  congrArg Host.Outcome.next (State.whenStarted_of_started _ _ on)

theorem exec_readyDrop (on : s.started = true) (sent : Nat) (back : Bool) :
    exec (.readyDrop sent back) s = .next (s.dropReady sent back) :=
  congrArg Host.Outcome.next (State.whenStarted_of_started _ _ on)

theorem exec_keyDownExpiry (on : s.started = true) (tx : s.chc.tx = .keyDown) (ended : s.chc.keyDown = some 0) :
    exec .keyDownExpiry s = .next s.endKeyDown :=
  congrArg Host.Outcome.next
    (State.whenStarted_onlyIf (c := fun u => u.chc.tx == .keyDown && due u.chc.keyDown) on (by simp [tx, ended]))

end

end Sys2Proof.Machine

/-! ### The statement -/

open Sys2Proof.Machine in
/-- Settles O44: RADIO READY seen in KEY_UP and elsewhere, the falls that end the frame and those that do not, and KEY's release. -/
theorem radioReadyAndKeyRelease : Obligations.RadioReadyAndKeyRelease := by
  refine ⟨fun s e on => ⟨fun tx serves => ?_, fun tx => ?_, fun sent back => ⟨?_, fun kept => ?_⟩⟩, ?_⟩
  · rw [exec_radioReadySeen on, State.seeReady_keyUp tx serves]
    rfl
  · rw [exec_radioReadySeen on, State.seeReady_elsewhere tx]
  · rintro tx latch whole left rfl
    have ends : s.dropEnds sent false = true :=
      (s.dropEnds_iff sent false).mpr ⟨tx, whole, left, (nomatch latch.symm.trans ·), fun _ => rfl⟩
    rw [exec_readyDrop on, State.dropReady_eq, if_pos ends]
  · have stands : ¬ s.dropEnds sent back = true := by
      rw [State.dropEnds_iff]
      rintro ⟨tx, whole, left, latched, unlatched⟩
      rcases kept with elsewhere | aborting | begun | ⟨rfl, latch⟩ | ⟨latch, set⟩
      · exact elsewhere tx
      · exact nomatch whole.symm.trans aborting
      · exact absurd left (Nat.not_lt.mpr begun)
      · exact nomatch unlatched latch
      · exact nomatch (latched latch).symm.trans set
    rw [exec_readyDrop on, State.dropReady_eq, if_neg stands]
  · rintro s on tx ended released rfl
    rw [exec_keyDownExpiry on tx ended, State.endKeyDown, State.deferOrIdle_eq]
    rfl

end

section
/-! SUPPORT. A failed attempt of the entry in service: what it leaves of the queue, and where the transmitter goes (R93, R97 to R100). -/

namespace Sys2Proof.Machine

/-! ### The entry after a failed attempt (R93, R98) -/

/-- An entry that keeps its place with one attempt more (R98). -/
def TxEntry.retried (e : TxEntry) : TxEntry := { e with attempts := e.attempts + 1, inService := false }

/-- The station after a failed attempt that leaves a queue, a count of lost reports and an event ring. -/
def State.attempted (s : State) (front status : List TxEntry) (lost : Nat) (rcs : Rcs) : State :=
  { s with
    chc :=
      { s.chc with
        front := front, status := status, attemptsFailed := min 65535 (s.chc.attemptsFailed + 1), reportsLost := lost }
    rcs := rcs }

theorem map_others {l : List TxEntry} (others : ∀ x ∈ l, x.inService = false) (f : TxEntry → TxEntry) :
    l.map (fun x => if x.inService then f x else x) = l :=
  (List.map_congr_left fun x member => by rw [others x member]; rfl).trans (List.map_id l)

section

variable {s : State} {e : TxEntry} {front status : List TxEntry} (serving : s.chc.Serving e front status)

include serving

/-- A third failed attempt loses the entry with a record of the cause (R98). -/
theorem State.failAttempt_third (cause : AttemptCause) (third : 2 ≤ e.attempts) :
    s.failAttempt cause =
      s.attempted front status (min 255 (s.chc.reportsLost + 1))
        (s.withRecords [{ kind := .radioNotReady, reason := some cause.reason }]) := by
  have counted : (s.withChc fun c => { c with attemptsFailed := count16 c.attemptsFailed }).chc.Serving e front status :=
    ⟨serving.place, serving.inService, serving.others⟩
  rw [State.failAttempt, serving.entry]
  dsimp only
  rw [if_pos (by omega), State.dropInService_serving counted]
  rfl

/-- A BEACON at a failed attempt leaves the queue once shutdown pending is set (R93). -/
theorem State.failAttempt_pending (cause : AttemptCause) (few : e.attempts < 2) (beacon : e.kind = .beacon)
    (pending : s.btu.shutdownPending = true) :
    s.failAttempt cause = s.attempted front status (min 255 (s.chc.reportsLost + 1)) s.rcs := by
  have counted : (s.withChc fun c => { c with attemptsFailed := count16 c.attemptsFailed }).chc.Serving e front status :=
    ⟨serving.place, serving.inService, serving.others⟩
  rw [State.failAttempt, serving.entry]
  dsimp only
  rw [if_neg (by omega), ReportKind.cls_eq_status, beacon, pending, if_pos (by rfl), State.dropInService_serving counted]
  rfl

/-- Another entry keeps its place (R98). -/
theorem State.failAttempt_stays (cause : AttemptCause) (few : e.attempts < 2)
    (stays : e.kind = .beacon → s.btu.shutdownPending = false) :
    s.failAttempt cause =
      s.attempted (if e.kind = .beacon then front else e.retried :: front) (if e.kind = .beacon then e.retried :: status else status)
        s.chc.reportsLost s.rcs := by
  have kept : ¬(e.kind.cls == .status && s.btu.shutdownPending) = true := by
    rw [ReportKind.cls_eq_status, Bool.and_eq_true, decide_eq_true_eq]
    rintro ⟨beacon, pending⟩
    exact nomatch (stays beacon).symm.trans pending
  have fronts := map_others (fun x member => serving.others x (List.mem_append_left _ member)) TxEntry.retried
  have statuses := map_others (fun x member => serving.others x (List.mem_append_right _ member)) TxEntry.retried
  rw [State.failAttempt, serving.entry]
  dsimp only
  rw [if_neg (by omega), if_neg kept, show (fun x : TxEntry => { x with attempts := x.attempts + 1, inService := false }) =
    TxEntry.retried from rfl]
  rcases serving.place with ⟨first, second, event⟩ | ⟨first, second, beacon⟩
  · simp only [State.changeInService, State.withChc, first, second, List.map_cons, serving.inService, if_true, fronts, statuses,
      if_neg event]
    rfl
  · simp only [State.changeInService, State.withChc, first, second, List.map_cons, serving.inService, if_true, fronts, statuses,
      if_pos beacon]
    rfl

/-- What a failed attempt leaves of a Fault or Crew entry. -/
theorem State.failAttempt_event (event : e.kind ≠ .beacon) (reason : Reason) :
    ∃ after lost rcs,
      (∀ cause : AttemptCause, cause.reason = reason → s.failAttempt cause = s.attempted after status lost rcs) ∧
      (e.attempts < 2 → after = e.retried :: front ∧ lost = s.chc.reportsLost ∧ rcs = s.rcs) ∧
      (2 ≤ e.attempts → after = front ∧ lost = min 255 (s.chc.reportsLost + 1) ∧
        rcs = s.withRecords [{ kind := .radioNotReady, reason := some reason }]) := by
  by_cases few : e.attempts < 2
  · refine ⟨_, _, _, fun cause _ => ?_, fun _ => ⟨rfl, rfl, rfl⟩, fun third => absurd few (by omega)⟩
    have stays := State.failAttempt_stays serving cause few fun beacon => absurd beacon event
    rwa [if_neg event, if_neg event] at stays
  · exact ⟨_, _, _, fun cause is => is ▸ State.failAttempt_third serving cause (by omega), fun first => absurd first few,
      fun _ => ⟨rfl, rfl, rfl⟩⟩

/-- What a failed attempt leaves of the BEACON. -/
theorem State.failAttempt_beacon (beacon : e.kind = .beacon) (reason : Reason) :
    ∃ after lost rcs,
      (∀ cause : AttemptCause, cause.reason = reason → s.failAttempt cause = s.attempted front after lost rcs) ∧
      (e.attempts < 2 → s.btu.shutdownPending = false → after = e.retried :: status ∧ lost = s.chc.reportsLost ∧ rcs = s.rcs) ∧
      (e.attempts < 2 → s.btu.shutdownPending = true →
        after = status ∧ lost = min 255 (s.chc.reportsLost + 1) ∧ rcs = s.rcs) ∧
      (2 ≤ e.attempts → after = status ∧ lost = min 255 (s.chc.reportsLost + 1) ∧
        rcs = s.withRecords [{ kind := .radioNotReady, reason := some reason }]) := by
  by_cases few : e.attempts < 2
  · cases pending : s.btu.shutdownPending with
    | false =>
      refine ⟨_, _, _, fun cause _ => ?_, fun _ _ => ⟨rfl, rfl, rfl⟩, nofun, fun third => absurd few (by omega)⟩
      have stays := State.failAttempt_stays serving cause few fun _ => pending
      rwa [if_pos beacon, if_pos beacon] at stays
    | true =>
      exact ⟨_, _, _, fun cause _ => State.failAttempt_pending serving cause few beacon pending, nofun,
        fun _ _ => ⟨rfl, rfl, rfl⟩, fun third => absurd few (by omega)⟩
  · exact ⟨_, _, _, fun cause is => is ▸ State.failAttempt_third serving cause (by omega), fun first => absurd first few,
      fun first => absurd first few, fun _ => ⟨rfl, rfl, rfl⟩⟩

end

/-! ### The two commands (R97, R98, R100) -/

/-- The command that ends an attempt, with its cause. -/
def State.AttemptEnds (s : State) (c : Instr) (reason : Reason) : Prop :=
  (c = .readyTimerExpiry ∧ s.chc.tx = .keyUp ∧ s.chc.readyTimer = some 0 ∧ reason = .noReady) ∨
    (c = .abortSent ∧ s.chc.tx = .sending ∧ s.chc.aborting = true ∧ reason = .readyDrop)

/-- What a failed attempt leaves of the transmitter, for a command that ends it and a queue that it leaves. -/
structure State.AfterAttempt (s t : State) (c : Instr) (front status : List TxEntry) (lost : Nat) (rcs : Rcs) : Prop where
  runs : exec c s = .next t
  failed : t.chc.attemptsFailed = min 65535 (s.chc.attemptsFailed + 1)
  queue : t.chc.front = front ∧ t.chc.status = status
  losses : t.chc.reportsLost = lost ∧ t.rcs = rcs
  frame : t.chc.aborting = false ∧ t.chc.airFrame = [] ∧ t.chc.jabber = none
  expiry : c = .readyTimerExpiry → t.chc.readyTimer = none ∧ t.chc.readyLatch = false ∧ t.chc.quiet = 0 ∧
    t.chc.tx = (if (front ++ status).any s.servable = true then .defer else .idle)
  abort : c = .abortSent → t.chc.tx = .keyDown ∧ t.chc.keyDown = some 10
  beside : t = { s with chc := t.chc, rcs := t.rcs }

theorem exec_readyTimerExpiry {s : State} (on : s.started = true) (tx : s.chc.tx = .keyUp) (ended : s.chc.readyTimer = some 0) :
    exec .readyTimerExpiry s = .next s.readyFails :=
  congrArg Host.Outcome.next
    (State.whenStarted_onlyIf (c := fun u => u.chc.tx == .keyUp && due u.chc.readyTimer) on (by simp [tx, ended]))

theorem exec_abortSent {s : State} (on : s.started = true) (tx : s.chc.tx = .sending) (aborting : s.chc.aborting = true) :
    exec .abortSent s = .next s.endAbort :=
  congrArg Host.Outcome.next
    (State.whenStarted_onlyIf (c := fun u => u.chc.tx == .sending && u.chc.aborting) on (by simp [tx, aborting]))

/-- After a failed attempt the first command releases KEY, and the second goes to KEY_DOWN. -/
theorem State.AttemptEnds.after {s : State} {c : Instr} {reason : Reason} (ends : s.AttemptEnds c reason)
    (on : s.started = true) {front status : List TxEntry} {lost : Nat} {rcs : Rcs}
    (attempted : ∀ cause : AttemptCause, cause.reason = reason → s.failAttempt cause = s.attempted front status lost rcs) :
    ∃ t, s.AfterAttempt t c front status lost rcs := by
  rcases ends with ⟨rfl, tx, ended, rfl⟩ | ⟨rfl, tx, aborting, rfl⟩
  · have fails : s.readyFails = _ := (congrArg (fun u => u.releaseKey.deferOrIdle) (attempted .noReady rfl)).trans (State.deferOrIdle_eq _)
    have servable : ((s.attempted front status lost rcs).releaseKey.chc.front ++
        (s.attempted front status lost rcs).releaseKey.chc.status).any (s.attempted front status lost rcs).releaseKey.servable =
        (front ++ status).any s.servable := rfl
    rw [servable] at fails
    refine ⟨_, (exec_readyTimerExpiry on tx ended).trans (congrArg _ fails), ?_, ?_, ?_, ?_, fun _ => ?_, nofun, rfl⟩
    all_goals split
    all_goals simp [State.attempted, State.releaseKey]
  · have sent : s.endAbort = _ := congrArg State.enterKeyDown (attempted .readyDrop rfl)
    exact ⟨_, (exec_abortSent on tx aborting).trans (congrArg _ sent), rfl, ⟨rfl, rfl⟩, ⟨rfl, rfl⟩, ⟨rfl, rfl, rfl⟩, nofun,
      fun _ => ⟨rfl, rfl⟩, rfl⟩

end Sys2Proof.Machine

/-! ### The statement -/

open Sys2Proof.Machine in
/-- Settles O45: an event entry stays for its first two failures and is lost at the third; a BEACON stays, is given up with shutdown
pending, or is lost. -/
theorem failedAttempts : Obligations.FailedAttempts := by
  refine ⟨?_, ?_⟩
  · intro s e rest on first inService event others c reason ends
    have serving : s.chc.Serving e rest s.chc.status := ⟨.inl ⟨first, rfl, event⟩, inService, others⟩
    obtain ⟨after, lost, rcs, attempted, stays, leaves⟩ := State.failAttempt_event serving event reason
    obtain ⟨t, runs, failed, ⟨rfl, status⟩, ⟨rfl, rfl⟩, ⟨aborting, frame, jabber⟩, expiry, abort, beside⟩ :=
      State.AttemptEnds.after ends on attempted
    refine ⟨t, runs, failed, status, aborting, frame, jabber, fun is => ?_, abort, stays, leaves, beside⟩
    obtain ⟨timer, latch, quiet, tx⟩ := expiry is
    refine ⟨timer, latch, fun few => ⟨tx.trans (if_pos ?_), quiet⟩⟩
    obtain ⟨front, -, -⟩ := stays few
    have servable : s.servable e.retried = true := s.servable_of_event event
    simp [front, servable]
  · intro s e on first inService beacon others c reason ends
    have serving : s.chc.Serving e s.chc.front [] := ⟨.inr ⟨rfl, first, beacon⟩, inService, by rwa [List.append_nil]⟩
    obtain ⟨after, lost, rcs, attempted, stays, drops, leaves⟩ := State.failAttempt_beacon serving beacon reason
    obtain ⟨t, runs, failed, ⟨front, rfl⟩, ⟨rfl, rfl⟩, ⟨aborting, frame, jabber⟩, expiry, abort, beside⟩ :=
      State.AttemptEnds.after ends on attempted
    refine ⟨t, runs, failed, front, aborting, frame, jabber, fun is => ?_, abort, stays, drops, leaves, beside⟩
    obtain ⟨timer, latch, -, tx⟩ := expiry is
    exact ⟨timer, latch, tx⟩

end

section
/-! SUPPORT. The BEACON that the timer's expiry builds and what R91 makes of it, and the ageing of the peer table (R91, R93, R113,
R118, R119, R121, R127). -/

namespace Sys2Proof.Machine

/-! ### A BEACON taken by the CHC (R91, R93) -/

section

variable (s : State) (seq : Byte) (payload : List Byte)

/-- A station with the id 0 sends no report (R91). -/
theorem State.takeReport_mute {s : State} (mute : s.cfg.stationId = 0) (kind : ReportKind) : s.takeReport kind seq payload = s :=
  if_pos mute

/-- With no BEACON queued and room it joins the Status part. -/
theorem State.takeBeacon_joins {s : State} (own : s.cfg.stationId ≠ 0) (unqueued : s.chc.status = []) (room : s.chc.queued < 8) :
    s.takeReport .beacon seq payload =
      State.settleTransmitter { s with chc := { s.chc with status := [newEntry .beacon seq payload] } } := by
  have joined : s.joinQueue (newEntry .beacon seq payload) =
      { s with chc := { s.chc with status := [newEntry .beacon seq payload] } } := by
    rw [State.joinQueue_eq, unqueued]
    rfl
  simp only [State.takeReport, if_neg own, unqueued, List.any_nil, Bool.and_false, Bool.false_eq_true, if_false, if_pos room, joined]

/-- In a full queue without a BEACON it is given up, one report lost. -/
theorem State.takeBeacon_full {s : State} (own : s.cfg.stationId ≠ 0) (unqueued : s.chc.status = []) (full : 8 ≤ s.chc.queued) :
    s.takeReport .beacon seq payload = { s with chc := { s.chc with reportsLost := min 255 (s.chc.reportsLost + 1) } } := by
  have free (p : TxEntry → Bool) : s.chc.status.any p = false := by rw [unqueued]; rfl
  simp only [State.takeReport, if_neg own, free, Bool.and_false, Bool.false_eq_true, if_false, if_neg (Nat.not_lt.mpr full)]
  rfl

/-- A queued BEACON that is not in service takes the new sequence and payload in its own place. -/
theorem State.takeBeacon_supersedes {s : State} (own : s.cfg.stationId ≠ 0) {old : TxEntry} (held : s.chc.status = [old])
    (beacon : old.kind = .beacon) (waits : old.inService = false) :
    s.takeReport .beacon seq payload =
      { s with chc := { s.chc with status := [{ old with seq := seq, payload := payload, copies := 1, attempts := 0 }] } } := by
  simp [State.takeReport, own, held, beacon, waits, supersede, State.withChc]

/-- With a BEACON in service the new one is not queued. -/
theorem State.takeBeacon_served {s : State} (own : s.cfg.stationId ≠ 0) {old : TxEntry} (held : s.chc.status = [old])
    (beacon : old.kind = .beacon) (serves : old.inService = true) : s.takeReport .beacon seq payload = s := by
  simp [State.takeReport, own, held, beacon, serves]

end

/-! ### The expiry of the beacon timer (R113, R118, R119, R121) -/

/-- The station with the sequence of a BEACON taken, as the CHC is handed it. -/
def State.beaconNumbered (s : State) : State := s.withPru fun p => { p with nextSeq := p.nextSeq + 1 }

/-- An expiry moves the PRU and hands the BEACON to the CHC. -/
theorem State.expireBeacon_eq (s : State) :
    s.expireBeacon =
      { s with
        pru := s.expireBeacon.pru
        chc := (s.beaconNumbered.takeReport .beacon s.pru.nextSeq s.beaconPayload).chc } := by
  ext1
  case chc =>
    rw [State.expireBeacon, State.reloadBeacon, State.withPru_chc]
    rfl
  all_goals simp

/-- The payload field by field, in a reserve state that sends BEACONs (R118, R121). -/
theorem State.beaconPayload_eq {s : State} (holds : s.btu.reserve.beacons) :
    s.beaconPayload =
      beBytes 1 s.sqc.seq.code ++ beBytes 1 s.sqc.shots ++
        [if s.cdu.closedMade = true ∧ s.cdu.openMade = false then 1#8
          else if s.cdu.closedMade = false ∧ s.cdu.openMade = true then 0#8 else 2#8] ++
        [if s.btu.reserve = .normal then 0#8 else 1#8] ++
        beBytes 1
          ((if s.mfp.lost = true then 1 else 0) + (if s.sqc.startHold ≠ none then 2 else 0) +
            (if s.btu.failed = true then 4 else 0) + (if s.tgu.storeFault = true then 8 else 0) +
            (if s.tgu.overflow ≠ none then 16 else 0)) ++
        beBytes 1 s.chc.reportsLost ++ [s.pru.lastEvent] ++ beBytes 1 (s.tgu.tags.filter (·.source.isLocal)).length ++
        ((s.tgu.tags.filter (·.source.isLocal)).map fun e => beBytes 2 e.code.toNat).flatten := by
  have position : beBytes 1 s.position.beaconCode =
      [if s.cdu.closedMade = true ∧ s.cdu.openMade = false then 1#8
        else if s.cdu.closedMade = false ∧ s.cdu.openMade = true then 0#8 else 2#8] := by
    rw [State.position]
    cases s.cdu.closedMade <;> cases s.cdu.openMade <;> rfl
  have reserve : beBytes 1 s.btu.reserve.code = [if s.btu.reserve = .normal then 0#8 else 1#8] := by
    rcases holds with reserve | reserve <;> rw [reserve] <;> rfl
  have flags : s.beaconFlags =
      (if s.mfp.lost = true then 1 else 0) + (if s.sqc.startHold ≠ none then 2 else 0) +
        (if s.btu.failed = true then 4 else 0) + (if s.tgu.storeFault = true then 8 else 0) +
        (if s.tgu.overflow ≠ none then 16 else 0) := by
    simp only [State.beaconFlags, bit, State.startHoldOn, Option.isSome_iff_ne_none]
    rfl
  rw [State.beaconPayload, position, reserve, flags, State.localCodes, List.length_map, List.flatMap_map, List.flatMap_def]

theorem exec_beaconTimerExpiry {s : State} {timer : BeaconTimer} (on : s.started = true) (runs : s.pru.beacon = some timer)
    (ended : timer.span ≤ (s.now - timer.reference).toNat) : exec .beaconTimerExpiry s = .next s.expireBeacon :=
  congrArg Host.Outcome.next
    (State.whenStarted_onlyIf (c := State.beaconDue) on (by rw [State.beaconDue, runs]; exact decide_eq_true ended))

/-! ### Ageing (R127) -/

/-- The first place of an id is where the table holds it (R124). -/
theorem Pru.placeOf_first {p : Pru} {i : Nat} {e : PeerEntry} (held : p.peers[i]? = some (some e))
    (first : ∀ j x, j < i → p.peers[j]? = some (some x) → x.id ≠ e.id) : p.placeOf e.id = some i := by
  obtain ⟨inside, is⟩ := List.getElem?_eq_some_iff.mp held
  refine List.findIdx?_eq_some_iff_getElem.mpr ⟨inside, (placeOf_test e.id _).mpr ⟨e, is, rfl⟩, fun j before bears => ?_⟩
  obtain ⟨x, there, same⟩ := (placeOf_test e.id _).mp bears
  exact first j x before (List.getElem?_eq_some_iff.mpr ⟨by omega, there⟩) same

/-- An entry ages where it is due, and stands where it is not. -/
theorem State.agePeer_eq {s : State} {i : Nat} {e : PeerEntry} (held : s.pru.peers[i]? = some (some e))
    (first : ∀ j x, j < i → s.pru.peers[j]? = some (some x) → x.id ≠ e.id) (isDue : PeerEntry → Bool)
    (change : PeerEntry → Option PeerEntry) :
    s.agePeer e.id isDue change =
      if isDue e = true then { s with pru := { s.pru with peers := s.pru.peers.set i (change e) } } else s := by
  have entry : s.pru.entryAt i = some e := by rw [Pru.entryAt, held]; rfl
  rw [State.agePeer, Pru.placeOf_first held first]
  dsimp only
  rw [entry]
  rfl

theorem State.silentDue_iff (s : State) (e : PeerEntry) :
    s.silentDue e = true ↔ e.silent = false ∧ 3 * (s.cfg.beaconInterval * 1000) ≤ (s.now - e.lastHeard).toNat := by
  rw [State.silentDue, Bool.and_eq_true, Bool.not_eq_true', decide_eq_true_eq]
  rfl

theorem State.removalDue_iff (s : State) (e : PeerEntry) :
    s.removalDue e = true ↔ 10 * (s.cfg.beaconInterval * 1000) ≤ (s.now - e.lastHeard).toNat := decide_eq_true_iff

theorem exec_peerSilent {s : State} (on : s.started = true) (id : Nat) :
    exec (.peerSilent id) s = .next (s.agePeer id s.silentDue fun e => some e.silenced) :=
  congrArg Host.Outcome.next (State.whenStarted_of_started _ _ on)

theorem exec_peerRemoval {s : State} (on : s.started = true) (id : Nat) :
    exec (.peerRemoval id) s = .next (s.agePeer id s.removalDue fun _ => none) :=
  congrArg Host.Outcome.next (State.whenStarted_of_started _ _ on)

end Sys2Proof.Machine

/-! ### The statement -/

open Sys2Proof.Machine in
/-- Settles O48: the BEACON of an expiry through the cases of R91, then the two ages of an entry. -/
theorem beaconIsBuiltAndPeersAge : Obligations.BeaconIsBuiltAndPeersAge := by
  refine ⟨?_, ?_⟩
  · intro s timer span on runs ended interval
    have holds : s.btu.reserve.beacons := interval.imp And.left And.left
    have spanned : s.beaconIntervalInForce = some span := by
      rw [State.beaconIntervalInForce]
      rcases interval with ⟨reserve, rfl⟩ | ⟨reserve, rfl⟩ <;> rw [reserve] <;> rfl
    have built := s.expireBeacon_eq
    rw [State.expireBeacon_pru, spanned] at built
    refine ⟨s.expireBeacon, exec_beaconTimerExpiry on runs ended, ?_, fun mute => ?_, ?_⟩
    · rw [built]
      rfl
    · rw [built, State.takeReport_mute (s := s.beaconNumbered) _ _ mute]
      rfl
    rintro locals payload rfl rfl
    rw [← State.beaconPayload_eq holds]
    refine ⟨fun own unqueued room => ?_, fun own unqueued full => ?_, fun old own held beacon => ⟨fun waits => ?_, fun serves => ?_⟩⟩
    · rw [built, State.takeBeacon_joins (s := s.beaconNumbered) _ _ own unqueued room, State.settleTransmitter_chc]
      exact ⟨rfl, rfl⟩
    · rw [built, State.takeBeacon_full (s := s.beaconNumbered) _ _ own unqueued full]
      rfl
    · rw [built, State.takeBeacon_supersedes (s := s.beaconNumbered) _ _ own held beacon waits]
      rfl
    · rw [built, State.takeBeacon_served (s := s.beaconNumbered) _ _ own held beacon serves]
      rfl
  · rintro s i e on held first age rfl
    refine ⟨fun heard due => ?_, fun due => ?_, fun young => ⟨?_, ?_⟩⟩
    · rw [exec_peerSilent on, State.agePeer_eq held first, if_pos ((s.silentDue_iff e).mpr ⟨heard, due⟩)]
      rfl
    · rw [exec_peerRemoval on, State.agePeer_eq held first, if_pos ((s.removalDue_iff e).mpr due)]
    · rw [exec_peerSilent on, State.agePeer_eq held first, if_neg]
      rw [State.silentDue_iff]
      omega
    · rw [exec_peerRemoval on, State.agePeer_eq held first, if_neg]
      rw [State.removalDue_iff]
      omega

end

section
/-! SUPPORT. The receiver byte by byte, and what ends a reception (R95, R102 to R108). -/

namespace Sys2Proof.Machine

/-! ### The channel judged busy (R95) -/

theorem State.judgeBusy_of_waitless {s : State} (defer : s.chc.tx ≠ .defer) (backoff : s.chc.tx ≠ .backoff) : s.judgeBusy = s :=
  if_neg (by simp [defer, backoff])

theorem State.judgeBusy_of_quiet {s : State} (carr : s.chc.carr = false) (rx : s.chc.rx = .hunt) : s.judgeBusy = s :=
  if_neg (by simp [State.channelBusy, carr, rx])

/-- A transmitter that asserts KEY waits for no channel (R94). -/
theorem State.judgeBusy_of_deaf {s : State} (deaf : s.deaf = true) : s.judgeBusy = s :=
  State.judgeBusy_of_waitless (fun tx => by rw [State.deaf, tx] at deaf; cases deaf)
    fun tx => by rw [State.deaf, tx] at deaf; cases deaf

/-! ### A byte of the body (R105 to R107) -/

/-- What a byte of the body stands for once its escape is undone, as the body that it leads to (R88, R105). -/
def Chc.Unescapes (c : Chc) (b : Byte) (body : List Byte) : Prop :=
  (c.escape = false ∧ b ≠ 0xA5#8 ∧ body = c.body ++ [b]) ∨ (c.escape = true ∧ b = 0x94#8 ∧ body = c.body ++ [0xB4#8]) ∨
    (c.escape = true ∧ b = 0x85#8 ∧ body = c.body ++ [0xA5#8])

/-- The length byte is the sixth of the body (R86). -/
theorem bodyLength_eq {body : List Byte} (six : 6 ≤ body.length) : bodyLength body = (body.getD 5 0).toNat :=
  field_one body 5 six

/-- The body that a byte leads to: too long, complete, or still to go on (R105). -/
def State.bodyGrows (s : State) (body : List Byte) : State :=
  if 6 ≤ body.length ∧ 40 < bodyLength body then s.withChc fun c => c.abortTo .hunt
  else if body.length = 6 + bodyLength body + 2 then s.completeBody body
  else s.withChc fun c => { c with body := body, escape := false }

theorem State.addBody_eq (s : State) (b : Byte) : s.addBody b = s.bodyGrows (s.chc.body ++ [b]) := rfl

theorem State.bodyByte_of_unescapes {s : State} {b : Byte} {body : List Byte} (plain : b ≠ 0xB4#8)
    (unescapes : s.chc.Unescapes b body) : s.bodyByte b = s.bodyGrows body := by
  rw [State.bodyByte, if_neg plain]
  rcases unescapes with ⟨escape, raw, rfl⟩ | ⟨escape, rfl, rfl⟩ | ⟨escape, rfl, rfl⟩
  · rw [if_neg (by simp [escape]), if_neg raw, State.addBody_eq]
  · rw [if_pos escape, if_pos rfl, State.addBody_eq]
  · rw [if_pos escape, if_neg (by decide), if_pos rfl, State.addBody_eq]

/-- An escape byte begins an escape (R105). -/
theorem State.bodyByte_escape {s : State} (escape : s.chc.escape = false) :
    s.bodyByte 0xA5#8 = s.withChc fun c => { c with escape := true } := by
  rw [State.bodyByte, if_neg (by decide), if_neg (by simp [escape]), if_pos rfl]

/-- After an escape byte no other byte has a meaning (R106). -/
theorem State.bodyByte_badEscape {s : State} {b : Byte} (plain : b ≠ 0xB4#8) (escape : s.chc.escape = true) (first : b ≠ 0x94#8)
    (second : b ≠ 0x85#8) : s.bodyByte b = s.withChc fun c => c.abortTo .hunt := by
  rw [State.bodyByte, if_neg plain, if_pos escape, if_neg first, if_neg second]

section

variable {s : State} {body : List Byte} {length : Nat} (is : length = (body.getD 5 0).toNat) (six : 6 ≤ body.length)

include is six

theorem State.bodyGrows_long (long : 40 < length) : s.bodyGrows body = s.withChc fun c => c.abortTo .hunt := by
  rw [is, ← bodyLength_eq six] at long
  exact if_pos ⟨six, long⟩

theorem State.bodyGrows_complete (short : length ≤ 40) (complete : body.length = length + 8) :
    s.bodyGrows body = s.completeBody body := by
  rw [is, ← bodyLength_eq six] at short complete
  rw [State.bodyGrows, if_neg (by omega), if_pos (by omega)]

/-- A body short of its last byte goes on. -/
theorem State.bodyGrows_partial (short : length ≤ 40) (unfinished : body.length < length + 8) :
    s.bodyGrows body = s.withChc fun c => { c with body := body, escape := false } := by
  rw [is, ← bodyLength_eq six] at short unfinished
  rw [State.bodyGrows, if_neg (by omega), if_neg (by omega)]

/-- The check of a complete body is its last two bytes (R87, R107). -/
theorem checkOk_iff (complete : body.length = length + 8) :
    checkOk body = true ↔
      (crc16 (body.take (length + 6))).toNat = (body.getD (length + 6) 0).toNat * 256 + (body.getD (length + 7) 0).toNat := by
  rw [checkOk, bodyLength_eq six, ← is, Nat.add_comm 6 length, field_two body _ (by omega), beq_iff_eq]

end

/-- A body before its length byte goes on (R105). -/
theorem State.bodyGrows_head {s : State} {body : List Byte} (head : body.length < 6) :
    s.bodyGrows body = s.withChc fun c => { c with body := body, escape := false } := by
  rw [State.bodyGrows, if_neg (by omega), if_neg (by omega)]

/-! ### A complete body (R107, R108) -/

section

variable {s : State} {body : List Byte}

/-- The judgement of a complete body. -/
theorem State.completeBody_eq (s : State) (body : List Byte) :
    s.completeBody body =
      { s with
        chc :=
          if !checkOk body then { s.chc.toHunt with checkFailures := count16 s.chc.checkFailures }
          else if field body 0 1 ≠ s.cfg.feeder ∨ field body 1 1 = s.cfg.stationId then s.chc.toHunt
          else s.chc.toHunt.accept (recordOf body s.now) } := rfl

theorem State.completeBody_badCheck (bad : ¬ checkOk body = true) :
    s.completeBody body =
      { s with chc := { s.chc.toHunt with checkFailures := min 65535 (s.chc.checkFailures + 1) } } := by
  rw [State.completeBody_eq, if_pos (by simpa using bad)]
  rfl

theorem State.completeBody_foreign (good : checkOk body = true)
    (foreign : field body 0 1 ≠ s.cfg.feeder ∨ field body 1 1 = s.cfg.stationId) :
    s.completeBody body = { s with chc := s.chc.toHunt } := by
  rw [State.completeBody_eq, if_neg (by simp [good]), if_pos foreign]

/-- A good body of another station of the feeder is accepted or overruns the queue. -/
theorem State.completeBody_accepts (good : checkOk body = true) (feeder : field body 0 1 = s.cfg.feeder)
    (other : field body 1 1 ≠ s.cfg.stationId) :
    s.completeBody body = { s with chc := s.chc.toHunt.accept (recordOf body s.now) } := by
  rw [State.completeBody_eq, if_neg (by simp [good]), if_neg (by simp [feeder, other])]

end

theorem Chc.accept_full {c : Chc} (full : 6 ≤ c.queue.length) (r : RxRecord) :
    c.accept r = { c with receiveOverruns := min 65535 (c.receiveOverruns + 1) } := if_neg (Nat.not_lt.mpr full)

/-- In HUNT the latch is clear (R104). -/
theorem Chc.settleLatch_of_hunt {c : Chc} (rx : c.rx = .hunt) (latch : c.latch = false) : c.settleLatch = c := by
  have clear : (c.rx != .hunt && (c.latch || c.carr)) = c.latch := by rw [rx, latch]; rfl
  rw [Chc.settleLatch, clear]

/-! ### Each receive state (R103, R104, R106) -/

section

variable {s : State}

theorem State.hearByte_hunt (rx : s.chc.rx = .hunt) (b : Byte) :
    s.hearByte (.byte b) = if b = 0xB4#8 then { s with chc := { s.chc with rx := .sync1 } } else s := by
  unfold State.hearByte
  rw [rx]
  rfl

theorem State.hearByte_hunt_error (rx : s.chc.rx = .hunt) : s.hearByte .framingError = s := by
  unfold State.hearByte
  rw [rx]

/-- The second sync byte begins a body. -/
theorem State.hearByte_sync (rx : s.chc.rx = .sync1) :
    s.hearByte (.byte 0x2D#8) = { s with chc := { s.chc with rx := .body, body := [], escape := false } } := by
  unfold State.hearByte
  rw [rx]
  rfl

theorem State.hearByte_body (rx : s.chc.rx = .body) (b : Byte) : s.hearByte (.byte b) = s.bodyByte b := by
  unfold State.hearByte
  rw [rx]

theorem State.hearByte_body_error (rx : s.chc.rx = .body) : s.hearByte .framingError = { s with chc := s.chc.abortTo .hunt } := by
  unfold State.hearByte
  rw [rx]
  rfl

/-- CARR lost with the latch set is an abort in BODY. -/
theorem State.changeCarrier_lost (hearing : s.deaf = false) (rx : s.chc.rx = .body) (latch : s.chc.latch = true) :
    s.changeCarrier false = { s with chc := { s.chc.abortTo .hunt with carr := false } } := by
  have cut : ({ s.chc with carr := false } : Chc).cutOff = { s.chc.abortTo .hunt with carr := false } := by
    unfold Chc.cutOff
    rw [rx]
    rfl
  have lost : s.changeCarrier false = State.judgeBusy { s with chc := ({ s.chc with carr := false } : Chc).cutOff } := by
    simp only [State.changeCarrier, State.withChc, hearing, latch]
    rfl
  rw [lost, cut, State.judgeBusy_of_quiet rfl rfl]

/-- CARR present out of HUNT sets the latch. -/
theorem State.changeCarrier_seen (hearing : s.deaf = false) (rx : s.chc.rx = .body) (tx : s.chc.tx = .idle) :
    s.changeCarrier true = { s with chc := { s.chc with carr := true, latch := true } } := by
  have seen : s.changeCarrier true = State.judgeBusy { s with chc := { s.chc with carr := true, latch := true } } := by
    simp only [State.changeCarrier, State.withChc, hearing, Chc.settleLatch, rx, Bool.or_true]
    rfl
  rw [seen, State.judgeBusy_of_waitless (by simp [tx]) (by simp [tx])]

end

/-! ### The commands (R95, R102 to R104) -/

section

variable {s : State} (on : s.started = true)

include on

theorem exec_radioByte (rx : LineByte) : exec (.radioByte rx) s = .next (s.receiveByte rx) :=
  congrArg Host.Outcome.next (State.whenStarted_of_started _ _ on)

/-- A byte heard leaves what it makes of the receiver, where the latch and the transmitter have nothing to follow. -/
theorem exec_radioByte_settled (hearing : s.deaf = false) {rx : LineByte} {c : Chc} (hears : s.hearByte rx = { s with chc := c })
    (latch : c.settleLatch = c) (still : State.judgeBusy { s with chc := c } = { s with chc := c }) :
    exec (.radioByte rx) s = .next { s with chc := c } := by
  have settled : State.withChc { s with chc := c } Chc.settleLatch = { s with chc := c } := by rw [State.withChc, latch]
  rw [exec_radioByte on, State.receiveByte, hearing, Bool.not_false, State.onlyIf_true, hears, settled, still]

theorem exec_receiveGapTimeout (hearing : s.deaf = false) :
    exec .receiveGapTimeout s = .next { s with chc := s.chc.cutOff } :=
  congrArg Host.Outcome.next (State.whenStarted_onlyIf (c := fun u => !u.deaf) on (by simp [hearing]))

theorem exec_carrierChange {present : Bool} (changes : s.chc.carr ≠ present) :
    exec (.carrierChange present) s = .next (s.changeCarrier present) :=
  congrArg Host.Outcome.next (State.whenStarted_onlyIf (c := fun u => u.chc.carr != present)
    (f := fun u => u.changeCarrier present) on (by simpa using changes))

/-- A deaf receiver takes no byte (R102). -/
theorem exec_radioByte_deaf (deaf : s.deaf = true) (rx : LineByte) : exec (.radioByte rx) s = .next s := by
  rw [exec_radioByte on, State.receiveByte, deaf]
  rfl

theorem exec_receiveGapTimeout_deaf (deaf : s.deaf = true) : exec .receiveGapTimeout s = .next s := by
  refine congrArg Host.Outcome.next ((State.whenStarted_of_started _ _ on).trans ?_)
  rw [deaf]
  rfl

/-- A deaf receiver follows CARR and nothing else (R102). -/
theorem exec_carrierChange_deaf (deaf : s.deaf = true) {present : Bool} (changes : s.chc.carr ≠ present) :
    exec (.carrierChange present) s = .next { s with chc := { s.chc with carr := present } } := by
  rw [exec_carrierChange on changes, State.changeCarrier, deaf]
  exact congrArg Host.Outcome.next (State.judgeBusy_of_deaf deaf)

end

end Sys2Proof.Machine

/-! ### The statement -/

open Sys2Proof.Machine in
/-- Settles O47: each end of a reception from the receiver's own rule for it, then the deaf receiver. -/
theorem receptionsEnd : Obligations.ReceptionsEnd := by
  intro s on
  refine ⟨?_, fun deaf => ⟨exec_radioByte_deaf on deaf, exec_receiveGapTimeout_deaf on deaf,
    exec_carrierChange_deaf on deaf (by simp)⟩⟩
  rintro hearing hunting aborted rfl rfl
  refine ⟨fun rx => ?_, fun rx => ?_, fun rx carr latch => ?_, fun rx carr tx => ?_, fun rx carr latch => ⟨fun b other => ?_, ?_⟩⟩
  · rw [exec_receiveGapTimeout on hearing, Chc.cutOff, rx]
    rfl
  · rw [exec_receiveGapTimeout on hearing, Chc.cutOff, rx]
    rfl
  · rw [exec_carrierChange on (by simp [carr]), State.changeCarrier_lost hearing rx latch]
    rfl
  · have idle (c : Chc) (same : c.tx = s.chc.tx) : State.judgeBusy { s with chc := c } = { s with chc := c } :=
      State.judgeBusy_of_waitless (by simp [same, tx]) (by simp [same, tx])
    have hears := State.hearByte_body rx
    refine ⟨?_, ?_, ?_, fun b plain => ⟨fun escape first second => ?_, fun body length unescapes is => ⟨fun six long => ?_,
      fun six short complete => ⟨fun bad => ?_, fun good => ⟨fun foreign => ?_, fun feeder other full => ?_⟩⟩⟩⟩⟩
    · rw [exec_carrierChange on (by simp [carr]), State.changeCarrier_seen hearing rx tx]
    · exact exec_radioByte_settled on hearing (State.hearByte_body_error rx) rfl (idle _ rfl)
    · refine exec_radioByte_settled on hearing ?_ ?_ (idle _ rfl)
      · rw [hears, State.bodyByte, if_pos rfl]
        rfl
      · simp [Chc.settleLatch, carr]
    · refine exec_radioByte_settled on hearing ?_ rfl (idle _ rfl)
      rw [hears, State.bodyByte_badEscape plain escape first second]
      rfl
    · refine exec_radioByte_settled on hearing ?_ rfl (idle _ rfl)
      rw [hears, State.bodyByte_of_unescapes plain unescapes, State.bodyGrows_long is six long]
      rfl
    · refine exec_radioByte_settled on hearing ?_ rfl (idle _ rfl)
      rw [hears, State.bodyByte_of_unescapes plain unescapes, State.bodyGrows_complete is six short complete,
        State.completeBody_badCheck (mt (checkOk_iff is six complete).mp bad)]
      rfl
    · refine exec_radioByte_settled on hearing ?_ rfl (idle _ rfl)
      have own : field body 0 1 ≠ s.cfg.feeder ∨ field body 1 1 = s.cfg.stationId := by
        rwa [field_one body 0 (by omega), field_one body 1 (by omega)]
      rw [hears, State.bodyByte_of_unescapes plain unescapes, State.bodyGrows_complete is six short complete,
        State.completeBody_foreign ((checkOk_iff is six complete).mpr good) own]
      rfl
    · refine exec_radioByte_settled on hearing ?_ rfl (idle _ rfl)
      rw [← field_one body 0 (by omega)] at feeder
      rw [← field_one body 1 (by omega)] at other
      rw [hears, State.bodyByte_of_unescapes plain unescapes, State.bodyGrows_complete is six short complete,
        State.completeBody_accepts ((checkOk_iff is six complete).mpr good) feeder other, Chc.accept_full (c := s.chc.toHunt) full]
      rfl
  · have kept := Chc.settleLatch_of_hunt rx latch
    have hears : s.hearByte (.byte b) = s := (State.hearByte_hunt rx b).trans (if_neg other)
    exact exec_radioByte_settled on hearing hears kept (State.judgeBusy_of_quiet carr rx)
  · have kept := Chc.settleLatch_of_hunt rx latch
    exact exec_radioByte_settled on hearing (State.hearByte_hunt_error rx) kept (State.judgeBusy_of_quiet carr rx)

end

section
/-! SUPPORT. A radio frame heard byte by byte: the sync found, each byte of the body with its escape undone, and the check
(R86 to R88, R103, R105, R107, R108). -/

namespace Sys2Proof.Machine

/-! ### Bytes heard one after another -/

/-- The bytes of a frame as the receiver hears them. -/
def State.hearAll (s : State) (bytes : List Byte) : Option State := s.runAll (bytes.map fun b => Instr.radioByte (.byte b))

theorem State.hearAll_cons {s t : State} {b : Byte} (next : exec (.radioByte (.byte b)) s = .next t) (bytes : List Byte) :
    s.hearAll (b :: bytes) = t.hearAll bytes := by
  rw [State.hearAll, List.map_cons, State.runAll, next]
  rfl

theorem State.hearAll_append {s t : State} {first : List Byte} (heard : s.hearAll first = some t) (second : List Byte) :
    s.hearAll (first ++ second) = t.hearAll second := by
  induction first generalizing s with
  | nil => rw [Option.some.inj heard, List.nil_append]
  | cons b rest ih =>
    rw [State.hearAll, List.map_cons, State.runAll] at heard
    split at heard
    · next u next => rw [List.cons_append, State.hearAll_cons next, ih heard]
    · cases heard

/-! ### A reception (R102 to R108) -/

/-- The state of a reception: the receive state, a pending escape and the body so far. -/
def Chc.reception (c : Chc) : RxState × Bool × List Byte := (c.rx, c.escape, c.body)

/-- What has come of the receptions: the receive queue and the counters. -/
def Chc.heard (c : Chc) : List RxRecord × Nat × Nat × Nat × Nat :=
  (c.queue, c.framesAccepted, c.checkFailures, c.receiveAborts, c.receiveOverruns)

/-- The station `t` in a reception that the station `s` has begun: it hears on, and all but the CHC stands. -/
structure State.Receives (s : State) (r : RxState × Bool × List Byte) (heard : List RxRecord × Nat × Nat × Nat × Nat)
    (t : State) : Prop where
  on : t.started = true
  hearing : t.deaf = false
  beside : (t.now, t.svp, t.rcs, t.pru) = (s.now, s.svp, s.rcs, s.pru)
  reception : t.chc.reception = r
  heard : t.chc.heard = heard

/-- The judgement of the channel leaves a reception as it is. -/
theorem State.Receives.judgeBusy {s t : State} {r : RxState × Bool × List Byte} {heard : List RxRecord × Nat × Nat × Nat × Nat}
    (h : s.Receives r heard t) : s.Receives r heard t.judgeBusy := by
  unfold State.judgeBusy
  split
  · exact ⟨h.on, rfl, h.beside, h.reception, h.heard⟩
  · exact h

namespace State.Receives

variable {s t : State} {r : RxState × Bool × List Byte} {heard : List RxRecord × Nat × Nat × Nat × Nat} (h : s.Receives r heard t)

include h

/-- A byte heard brings the reception to what the receiver makes of it. -/
theorem byte {b : Byte} {c : Chc} (hears : t.hearByte (.byte b) = { t with chc := c }) (tx : c.tx = t.chc.tx) :
    ∃ u, exec (.radioByte (.byte b)) t = .next u ∧ s.Receives c.reception c.heard u := by
  have settled : s.Receives c.reception c.heard (State.withChc { t with chc := c } Chc.settleLatch) :=
    ⟨h.on, (congrArg TxState.keyed tx).trans h.hearing, h.beside, rfl, rfl⟩
  refine ⟨_, (exec_radioByte h.on _).trans (congrArg Host.Outcome.next ?_), settled.judgeBusy⟩
  rw [State.receiveByte, h.hearing, Bool.not_false, State.onlyIf_true, hears]

/-- A byte that is no sync passes through HUNT. -/
theorem hunts (hunt : t.chc.rx = .hunt) {b : Byte} (other : b ≠ 0xB4#8) :
    ∃ u, exec (.radioByte (.byte b)) t = .next u ∧ s.Receives r heard u := by
  have passed := h.byte ((State.hearByte_hunt hunt b).trans (if_neg other)) rfl
  rwa [h.reception, h.heard] at passed

end State.Receives

namespace State.Receives

variable {s t : State} {escape : Bool} {body : List Byte} {heard : List RxRecord × Nat × Nat × Nat × Nat}

/-- Bytes that are no sync pass through HUNT. -/
theorem hunts_all (bytes : List Byte) (others : ∀ b ∈ bytes, b ≠ 0xB4#8) (h : s.Receives (.hunt, escape, body) heard t) :
    ∃ u, t.hearAll bytes = some u ∧ s.Receives (.hunt, escape, body) heard u := by
  induction bytes generalizing t with
  | nil => exact ⟨t, rfl, h⟩
  | cons b rest ih =>
    rw [List.forall_mem_cons] at others
    obtain ⟨u, next, passed⟩ := h.hunts (congrArg Prod.fst h.reception) others.1
    obtain ⟨v, all, done⟩ := ih others.2 passed
    exact ⟨v, (State.hearAll_cons next rest).trans all, done⟩

/-- The two sync bytes begin a body (R103, R105). -/
theorem syncs (h : s.Receives (.hunt, escape, body) heard t) :
    ∃ u, t.hearAll [0xB4#8, 0x2D#8] = some u ∧ s.Receives (.body, false, []) heard u := by
  have hunt : t.chc.rx = .hunt := congrArg Prod.fst h.reception
  obtain ⟨u, first, found⟩ := h.byte (b := 0xB4#8) ((State.hearByte_hunt hunt _).trans (if_pos rfl)) rfl
  have sync : u.chc.rx = .sync1 := congrArg Prod.fst found.reception
  obtain ⟨v, second, begun⟩ := found.byte (State.hearByte_sync sync) rfl
  have same : u.chc.heard = heard := found.heard.trans h.heard
  exact ⟨v, (State.hearAll_cons first _).trans (State.hearAll_cons second _), same ▸ begun⟩

section

variable (h : s.Receives (.body, false, body) heard t)

include h

/-- A byte of the body as it is sent: its last byte on the air brings what the body grows to (R88, R105). -/
theorem escaped (b : Byte) :
    ∃ before last pending v, escapeByte b = before ++ [last] ∧ t.hearAll before = some v ∧
      s.Receives (.body, pending, body) heard v ∧ v.hearByte (.byte last) = v.bodyGrows (body ++ [b]) := by
  have rx : t.chc.rx = .body := congrArg Prod.fst h.reception
  have plain : t.chc.escape = false := congrArg (fun r => r.2.1) h.reception
  have held : t.chc.body = body := congrArg (fun r => r.2.2) h.reception
  by_cases special : b = 0xB4#8 ∨ b = 0xA5#8
  · obtain ⟨v, next, escape⟩ := h.byte (c := { t.chc with escape := true })
      ((State.hearByte_body rx _).trans (State.bodyByte_escape plain)) rfl
    have kept : ({ t.chc with escape := true } : Chc).reception = (.body, true, body) := by
      rw [← rx, ← held]
      rfl
    rw [kept, show ({ t.chc with escape := true } : Chc).heard = heard from h.heard] at escape
    have rx' : v.chc.rx = .body := congrArg Prod.fst escape.reception
    have pending : v.chc.escape = true := congrArg (fun r => r.2.1) escape.reception
    have held' : v.chc.body = body := congrArg (fun r => r.2.2) escape.reception
    refine ⟨[0xA5#8], b ^^^ 0x20#8, true, v, if_pos special, State.hearAll_cons next [], escape, ?_⟩
    rw [State.hearByte_body rx', ← held']
    rcases special with rfl | rfl
    · exact State.bodyByte_of_unescapes (by decide) (.inr (.inl ⟨pending, by decide, rfl⟩))
    · exact State.bodyByte_of_unescapes (by decide) (.inr (.inr ⟨pending, by decide, rfl⟩))
  · refine ⟨[], b, false, t, if_neg special, rfl, h, ?_⟩
    rw [not_or] at special
    rw [State.hearByte_body rx, ← held]
    exact State.bodyByte_of_unescapes special.1 (.inl ⟨plain, special.2, rfl⟩)

/-- A byte of the body brings the body that it grows to. -/
theorem grows {b : Byte} {c : State → Chc} (tx : ∀ v : State, (c v).tx = v.chc.tx)
    (goes : ∀ v pending, s.Receives (.body, pending, body) heard v → v.bodyGrows (body ++ [b]) = { v with chc := c v }) :
    ∃ v u pending, s.Receives (.body, pending, body) heard v ∧ t.hearAll (escapeByte b) = some u ∧
      s.Receives (c v).reception (c v).heard u := by
  obtain ⟨before, last, pending, v, split, first, received, hears⟩ := h.escaped b
  obtain ⟨u, next, grown⟩ := received.byte (hears.trans (goes v pending received)) (tx v)
  refine ⟨v, u, pending, received, ?_, grown⟩
  rw [split, State.hearAll_append first]
  exact State.hearAll_cons next []

end

end State.Receives

/-! ### A whole body (R105, R107, R108) -/

/-- The bytes of a body whose sixth is its length, with room for the check (R86). -/
structure WholeBody (whole : List Byte) (length : Nat) : Prop where
  is : length = (whole.getD 5 0).toNat
  short : length ≤ 40
  size : whole.length = length + 8

section

variable {whole : List Byte} {length : Nat} (body : WholeBody whole length)

include body

/-- A body short of its last byte goes on. -/
theorem WholeBody.grows {before after : List Byte} (split : whole = before ++ after) (more : after ≠ []) (v : State) :
    v.bodyGrows before = { v with chc := { v.chc with body := before, escape := false } } := by
  by_cases head : before.length < 6
  · exact State.bodyGrows_head head
  · have sixth : length = (before.getD 5 0).toNat := by
      rw [body.is, split, List.getD_append _ _ _ _ (by omega)]
    have size := body.size
    have left := List.length_pos_of_ne_nil more
    rw [split, List.length_append] at size
    exact State.bodyGrows_partial sixth (by omega) body.short (by omega)

/-- The bytes of a body short of its last, each with its escape undone. -/
theorem WholeBody.received {s : State} {heard : List RxRecord × Nat × Nat × Nat × Nat} {after : List Byte} (more : after ≠ [])
    (middle : List Byte) : ∀ (before : List Byte) (t : State), whole = before ++ middle ++ after →
      s.Receives (.body, false, before) heard t →
      ∃ u, t.hearAll (escapeBody middle) = some u ∧ s.Receives (.body, false, before ++ middle) heard u := by
  induction middle with
  | nil => exact fun before t _ h => ⟨t, rfl, by rwa [List.append_nil]⟩
  | cons b rest ih =>
    intro before t split h
    have step : whole = (before ++ [b]) ++ (rest ++ after) := by simp [split]
    obtain ⟨v, u, pending, received, first, grown⟩ := h.grows (b := b)
      (c := fun v => { v.chc with body := before ++ [b], escape := false }) (fun _ => rfl)
      fun v _ _ => body.grows step (by simp [more]) v
    have rx : v.chc.rx = .body := congrArg Prod.fst received.reception
    have next : s.Receives (.body, false, before ++ [b]) heard u := by
      have same : v.chc.heard = heard := received.heard
      rw [← rx, ← same]
      exact grown
    obtain ⟨w, all, done⟩ := ih (before ++ [b]) u (by simp [split]) next
    refine ⟨w, ?_, by simpa using done⟩
    rw [escapeBody, List.flatMap_cons, State.hearAll_append first]
    exact all

end

theorem Chc.accept_room {c : Chc} (room : c.queue.length < 6) (r : RxRecord) :
    c.accept r = { c with queue := c.queue ++ [r], framesAccepted := min 65535 (c.framesAccepted + 1) } := if_pos room

/-- A whole good body of another station of the feeder becomes a record (R107, R108). -/
theorem WholeBody.accepted {s t : State} {whole : List Byte} {length : Nat} (body : WholeBody whole length)
    (good : checkOk whole = true) (feeder : field whole 0 1 = s.cfg.feeder) (other : field whole 1 1 ≠ s.cfg.stationId)
    (room : s.chc.queue.length < 6) (h : s.Receives (.body, false, []) s.chc.heard t) :
    ∃ u, t.hearAll (escapeBody whole) = some u ∧
      s.Receives (.hunt, false, [])
        (s.chc.queue ++ [recordOf whole s.now], min 65535 (s.chc.framesAccepted + 1), s.chc.checkFailures, s.chc.receiveAborts,
          s.chc.receiveOverruns) u := by
  have size := body.size
  obtain ⟨front, last, split⟩ : ∃ front last, whole = front ++ [last] :=
    ⟨_, _, (List.dropLast_append_getLast (List.ne_nil_of_length_pos (by omega : 0 < whole.length))).symm⟩
  obtain ⟨u, first, received⟩ := body.received (after := [last]) (by simp) front [] t (by simp [split]) h
  rw [List.nil_append] at received
  have goes (v : State) (pending : Bool) (h : s.Receives (.body, pending, front) s.chc.heard v) :
      v.bodyGrows (front ++ [last]) =
        { v with
          chc :=
            { v.chc.toHunt with
              queue := v.chc.queue ++ [recordOf whole s.now], framesAccepted := min 65535 (v.chc.framesAccepted + 1) } } := by
    have beside := h.beside
    simp only [Prod.mk.injEq] at beside
    obtain ⟨now, svp, -, -⟩ := beside
    have cfg : v.cfg = s.cfg := congrArg Svp.settings svp
    have queue : v.chc.queue = s.chc.queue := congrArg Prod.fst h.heard
    rw [← split, State.bodyGrows_complete body.is (by omega) body.short body.size,
      State.completeBody_accepts good (by rw [cfg, feeder]) (by rwa [cfg]), now,
      Chc.accept_room (c := v.chc.toHunt) (queue ▸ room)]
    rfl
  obtain ⟨v, w, pending, before, second, done⟩ := received.grows
    (c := fun v =>
      { v.chc.toHunt with
        queue := v.chc.queue ++ [recordOf whole s.now], framesAccepted := min 65535 (v.chc.framesAccepted + 1) })
    (fun _ => rfl) goes
  have heard := before.heard
  simp only [Chc.heard, Prod.mk.injEq] at heard
  obtain ⟨queue, accepted, checks, aborts, overruns⟩ := heard
  refine ⟨w, ?_, ?_⟩
  · rw [split, escapeBody, List.flatMap_append, List.flatMap_singleton, ← escapeBody, State.hearAll_append first]
    exact second
  · rw [← queue, ← accepted, ← checks, ← aborts, ← overruns]
    exact done

/-! ### The frame of an entry (R86, R87) -/

/-- What the check is over: the header and the payload (R86, R87). -/
def Settings.radioHead (st : Settings) (e : TxEntry) : List Byte :=
  [BitVec.ofNat 8 st.feeder, BitVec.ofNat 8 st.stationId, BitVec.ofNat 8 st.position, BitVec.ofNat 8 e.kind.code, e.seq,
    BitVec.ofNat 8 e.payload.length] ++ e.payload

theorem Settings.radioBody_eq (st : Settings) (e : TxEntry) :
    st.radioBody e = st.radioHead e ++
      [BitVec.ofNat 8 ((crc16 (st.radioHead e)).toNat / 256), BitVec.ofNat 8 (crc16 (st.radioHead e)).toNat] := by
  simp [Settings.radioBody, Settings.radioHead, beBytes]

section

variable {st : Settings} {e : TxEntry}

theorem toNat_ofNat_byte {n : Nat} (fits : n < 256) : (BitVec.ofNat 8 n).toNat = n := by
  rw [BitVec.toNat_ofNat, Nat.mod_eq_of_lt fits]

theorem Settings.radioHead_length (st : Settings) (e : TxEntry) : (st.radioHead e).length = e.payload.length + 6 := by
  simp [Settings.radioHead]

theorem Settings.radioBody_length (st : Settings) (e : TxEntry) : (st.radioBody e).length = e.payload.length + 8 := by
  rw [Settings.radioBody_eq, List.length_append, Settings.radioHead_length]
  rfl

theorem Settings.radioBody_whole (short : e.payload.length ≤ 40) : WholeBody (st.radioBody e) e.payload.length where
  is := by
    rw [Settings.radioBody_eq]
    exact (toNat_ofNat_byte (by omega)).symm
  short := short
  size := st.radioBody_length e

/-- The header bytes, read back from the body (R86). -/
theorem Settings.field_radioBody (st : Settings) (e : TxEntry) (k : Nat) (inside : k < 6) :
    field (st.radioBody e) k 1 = ((st.radioHead e).getD k 0).toNat := by
  have size := st.radioBody_length e
  rw [field_one _ k (by omega), Settings.radioBody_eq, List.getD_append _ _ _ _ (by rw [Settings.radioHead_length]; omega)]

/-- The check that a station sends is the one that the receiver computes (R87). -/
theorem Settings.radioBody_checks (short : e.payload.length ≤ 40) : checkOk (st.radioBody e) = true := by
  have whole := st.radioBody_whole (e := e) short
  have length := st.radioHead_length e
  have check := (crc16 (st.radioHead e)).isLt
  rw [checkOk_iff whole.is (by rw [whole.size]; omega) whole.size, Settings.radioBody_eq, ← length, List.take_left]
  have high (b c : Byte) : (st.radioHead e ++ [b, c]).getD (st.radioHead e).length 0 = b := by
    rw [List.getD_append_right _ _ _ _ le_rfl, Nat.sub_self]
    rfl
  have low (b c : Byte) : (st.radioHead e ++ [b, c]).getD (e.payload.length + 7) 0 = c := by
    rw [List.getD_append_right _ _ _ _ (by omega), length, Nat.add_sub_add_left]
    rfl
  rw [high, low, BitVec.toNat_ofNat, BitVec.toNat_ofNat]
  omega

/-- The record of a body is that of its entry (R108). -/
theorem Settings.recordOf_radioBody (short : e.payload.length ≤ 40) (station : st.stationId < 256) (position : st.position < 256)
    (arrival : Word32) :
    recordOf (st.radioBody e) arrival =
      { sender := st.stationId, position := st.position, kind := BitVec.ofNat 8 e.kind.code, seq := e.seq, payload := e.payload
        arrival := arrival } := by
  have fields := st.field_radioBody e
  have payload : ((st.radioBody e).drop 6).take e.payload.length = e.payload := by
    rw [Settings.radioBody_eq, Settings.radioHead, List.append_assoc]
    exact List.take_left
  rw [recordOf, bodyLength, fields 1 (by decide), fields 2 (by decide), fields 3 (by decide), fields 4 (by decide),
    fields 5 (by decide)]
  simp only [Settings.radioHead, List.cons_append, List.nil_append, List.getD_cons_succ, List.getD_cons_zero]
  rw [toNat_ofNat_byte station, toNat_ofNat_byte position, toNat_ofNat_byte (show e.payload.length < 256 by omega), payload,
    BitVec.ofNat_toNat, BitVec.ofNat_toNat, BitVec.setWidth_eq, BitVec.setWidth_eq]

end

end Sys2Proof.Machine

/-! ### The statement -/

open Sys2Proof.Machine in
/-- Settles O11: the preamble passes, the sync begins the body, the body becomes the record, and the trailer passes. -/
theorem radioFrameRoundTrip : Obligations.RadioFrameRoundTrip := by
  intro s st e on hunt hearing room feeder station feederFits stationFits positionFits short
  have begun : s.Receives (.hunt, s.chc.escape, s.chc.body) s.chc.heard s := ⟨on, hearing, rfl, by rw [← hunt]; rfl, rfl⟩
  have fields := st.field_radioBody e
  have whole := st.radioBody_whole (e := e) short
  obtain ⟨t, preamble, passed⟩ := State.Receives.hunts_all [0x55#8, 0x55#8, 0x55#8] (by decide) begun
  obtain ⟨u, sync, body⟩ := passed.syncs
  obtain ⟨v, heard, accepted⟩ := whole.accepted (Settings.radioBody_checks short)
    (by rw [fields 0 (by decide), ← feeder]; exact toNat_ofNat_byte feederFits)
    (by rw [fields 1 (by decide)]; rwa [show ((st.radioHead e).getD 1 0).toNat = st.stationId from toNat_ofNat_byte stationFits])
    room body
  obtain ⟨w, trailer, done⟩ := State.Receives.hunts_all [0xFF#8] (by decide) accepted
  refine ⟨w, ?_, ?_⟩
  · change s.hearAll (airBytes (st.radioBody e)) = some w
    rw [airBytes, show [0x55#8, 0x55#8, 0x55#8, 0xB4#8, 0x2D#8] = [0x55#8, 0x55#8, 0x55#8] ++ [0xB4#8, 0x2D#8] from rfl,
      List.append_assoc, List.append_assoc, State.hearAll_append preamble, State.hearAll_append sync, State.hearAll_append heard,
      trailer]
  · obtain ⟨-, -, beside, reception, heard⟩ := done
    simp only [Chc.reception, Chc.heard, Prod.mk.injEq] at beside reception heard
    obtain ⟨-, -, rcs, pru⟩ := beside
    obtain ⟨rx, -, body⟩ := reception
    obtain ⟨queue, accepted, checks, aborts, overruns⟩ := heard
    rw [Settings.recordOf_radioBody short stationFits positionFits] at queue
    exact ⟨queue, rx, body, accepted, checks, aborts, overruns, rcs, pru⟩

end
